-- ==== Sys2Proof/Word.lean ====
section
/-! DEFINITION. The word types of the model. A bit vector stands only where the spec speaks of bits. -/

namespace Sys2Proof

/-- A byte of memory. -/
abbrev Byte := BitVec 8
/-- The content of a register page's register (R144). -/
abbrev W32 := BitVec 32
/-- The data of a core register, a TPM word or a loop record word (R165, R169). -/
abbrev W64 := BitVec 64
/-- The quality tag beside a value (R171). -/
abbrev Tag := BitVec 8

end Sys2Proof
end

