-- ==== Sys2Proof/Syntax.lean ====
section
/-! DEFINITION. The commands the block takes: one constructor of `Instr` per row of spec/opcode_table.json, and before it
the types of their operands. What a command's operands carry is what reaches the block from outside with that operation or
event: the value and tag of a register write and the master that makes it (R141, R142), the level of a pin, the content of a
received frame, the reading of a converter. -/

namespace Sys2Proof

/-- A logic feed: LS-A or LS-B (R66). -/
inductive Feed where
  | lsA | lsB
deriving DecidableEq, Repr

/-- What a converter of R66 measures. -/
inductive Monitor where
  | lsA | lsB | hold
deriving DecidableEq, Repr

/-- The band of a monitored voltage (R66). -/
inductive BandState where
  | ok | low | high
deriving DecidableEq, Repr

/-- A field supply as its FGC or lane sees it (R72): FS of a digital group, AFS1 or AFS2 of an analogue group, their OR at a
temperature or counter group, ANS, SFS of a lane. -/
inductive SupplyPoint where
  | dg (n : Fin 32)
  | afs1 (group : Nat)
  | afs2 (group : Nat)
  | afsOr (group : Nat)
  | ans
  | sfs (lane : Fin 2)
deriving DecidableEq, Repr

/-- The state of a field supply (R72). -/
inductive SupplyState where
  | ok | low | lost | high
deriving DecidableEq, Repr

/-- A bus master (R142). -/
inductive Master where
  | core (n : Fin 4)
  | dbg
  | loopEngine
  | capt
  | dmaA
  | dmaB
  | twin
  | proof
deriving DecidableEq, Repr

/-- The number of a bus master (R142). -/
def Master.num : Master → Nat
  | .core n => n.val
  | .dbg => 0x08
  | .loopEngine => 0x10
  | .capt => 0x11
  | .dmaA => 0x18
  | .dmaB => 0x19
  | .twin => 0x1C
  | .proof => 0x20

/-- Who writes a register: the master and the tag that the written value carries (R157). -/
structure Writer where
  master : Master
  tag : Tag
deriving DecidableEq, Repr

/-- A core, by number (R165). -/
abbrev CoreId := Fin 4
/-- A general register G0 to G31, by number (R169). -/
abbrev GReg := Fin 32

/-- The count of a shift: a register's value or an immediate (R205). -/
inductive ShiftCount where
  | reg (rb : GReg)
  | imm (n : BitVec 6)
deriving DecidableEq, Repr

/-- RM of the floating-point instructions (R206). -/
inductive Rounding where
  | rne | rtz | rdn | rup
deriving DecidableEq, Repr

/-- The format that P of the floating-point instructions selects (R206). -/
inductive Prec where
  | binary64 | binary32
deriving DecidableEq, Repr

/-- OP of FSGN (R207). -/
inductive SignOp where
  | abs
  | neg
  | copy (rb : GReg)
deriving DecidableEq, Repr

/-- COND of FCMP (R209). -/
inductive FCond where
  | eq | lt | le | unord
deriving DecidableEq, Repr

/-- COND of CMPI (R209). -/
inductive ICond where
  | eq | lt | ltu
deriving DecidableEq, Repr

/-- The threshold of TSUB (R215). -/
inductive Threshold where
  | uncertain | bad | absent
deriving DecidableEq, Repr

/-- What TTST tests (R215). -/
inductive TagTest where
  | qAtLeast (q : BitVec 2)
  | mask (m : BitVec 8)
deriving DecidableEq, Repr

/-- The variants of TIM (R218). -/
inductive TimVar where
  | onDelay | offDelay | pulse
deriving DecidableEq, Repr

/-- The variants of EDG (R219). -/
inductive EdgVar where
  | rising | falling | both
deriving DecidableEq, Repr

/-- The variants of CNT (R220). -/
inductive CntVar where
  | up | down | upDown
deriving DecidableEq, Repr

/-- What a scrubber finds in the word or unit it reads (R176, R195, R578). -/
inductive EccFinding where
  | clean | correctable | uncorrectable
deriving DecidableEq, Repr

/-- The check error that a load meets in the caches (R168): none, parity of an L1 instruction line, a correctable one, an uncorrectable one in
L1 data, in a clean line of L2, in a dirty line of L2. -/
inductive CacheFinding where
  | clean | parity | correctable | l1Data | l2Clean | l2Dirty
deriving DecidableEq, Repr

/-- The memory operand of a load: the displacement of its word, and the check error that the load meets in the caches (R168, R213). -/
structure LoadAt where
  disp : BitVec 16
  found : CacheFinding := .clean
deriving DecidableEq, Repr

/-- The power state of the module (R623). -/
inductive PowerState where
  | run | hold | save | off
deriving DecidableEq, Repr

/-- A value with its quality tag (R165, R169, R171). -/
structure TWord where
  data : W64 := 0
  tag : Tag := 0
deriving DecidableEq, Repr

/-- The levels of the carrier pins that the module latches at a reset release (R34, R35, R48 to R50): a side code or a TMODE
level of which the eight samples do not all agree is none. -/
structure ReleasePins where
  side : Option (BitVec 2)
  tmode : Option Bool
  ct0 : W32
  ct1 : Byte
  opt : BitVec 2
deriving DecidableEq, Repr

/-- What a transaction of the CID bus was for: one of those that read the identification record, by number, or the sensor (R41, R43). -/
inductive CidTarget where
  | record (transaction : Nat)
  | sensor
deriving DecidableEq, Repr

/-- What the checks of R614 that need cryptography find in a bank: SHA-384 of PUBKEY equals the slot's hash, SIG verifies, SHA-384 of the
payload equals DIGEST. -/
structure BankCheck where
  keyHashOk : Bool
  sigOk : Bool
  digestOk : Bool
deriving DecidableEq, Repr

/-- CLASS of a task (R227). -/
inductive TaskClass where
  | cyclic | event | background | unused
deriving DecidableEq, Repr

/-- REACTION of a task (R227, R246). -/
inductive Reaction where
  | skipNext | stopTask | stationFault
deriving DecidableEq, Repr

/-- A task descriptor (R227). Times are in loop frames, the budget in microseconds, places in TPM in words. -/
structure TaskDesc where
  cls : TaskClass := .unused
  core : Fin 4 := 0
  prio : Nat := 8
  period : Nat := 16
  phase : Nat := 0
  deadline : Nat := 16
  /-- Trigger sources: kind and identity (R232). -/
  triggers : List (Nat × Nat) := []
  qdepth : Nat := 4
  /-- 0 stands for the default, PERIOD or DEADLINE as a time. -/
  budget : Nat := 0
  reaction : Reaction := .skipNext
  ovrLimit : Nat := 3
  /-- IN_LIST: the image word and its word offset from TB (R235). -/
  inList : List (Nat × Nat) := []
  outOff : Nat := 8
  outLen : Nat := 0
  /-- The two task blocks (R236) and the select word (R237): their words in TPM. -/
  block0 : Nat := 0
  block1 : Nat := 0
  select : Nat := 0
  /-- The size of a task block and of the stack, in bytes. -/
  blockBytes : Nat := 4096
  stackBytes : Nat := 16384
  /-- The address of the stack's end in program memory. -/
  stackTop : W64 := 0
  /-- FB_LIST: entry address and instance address (R241). -/
  fbList : List (W64 × W64) := []
  /-- Words of its instance blocks, its other variables and its retain variables (R249 to R251). -/
  instances : List Nat := []
  vars : List Nat := []
  retains : List Nat := []
deriving DecidableEq, Repr

/-- The source of one output command: the channel of a group page, and the word that commands it: a word of a task's output
area (task, word offset) or a TPM word that a loop writes. -/
structure OutSource where
  page : Nat
  chan : Nat
  task : Option (Nat × Nat)
  word : Nat
deriving DecidableEq, Repr

/-- What the runtime reads from the image in RUNTIME_INIT (R121, R227). -/
structure ImageDesc where
  /-- The logic domains the image switches on (R121). -/
  domains : List Nat := []
  tasks : List (Nat × TaskDesc) := []
  warmAllowed : Bool := false
  /-- The peer wait in milliseconds (R126) and RET_PERIOD (R251). -/
  peerWaitMs : Nat := 1000
  retPeriodMs : Nat := 1000
  /-- The placement of the frame buffers (R285). -/
  imgBase : Nat := 0
  imgStride : Nat := 0
  /-- Initial values of TPM words (R242, R250) and of loop record words, by loop × 256 + word. -/
  tpmInit : List (Nat × TWord) := []
  loopInit : List (Nat × TWord) := []
  /-- The instance directory: first word of an instance, and whether it is a TIM (R244). -/
  timers : List (Nat × Bool) := []
  outputs : List OutSource := []
deriving DecidableEq, Repr

/-- A band of R334. The two INDET ranges are one band for the filter. -/
inductive Band where
  | wireBreak | indetLow | opened | indetHigh | closed | lineShort
deriving DecidableEq, Repr

/-- Consecutive samples of a digital channel's terminal, one every 2.5 µs, that read the same: the voltage in mV, or in the wire-break modes
the current of the own stage in nA (R332, R334). -/
structure DchSamples where
  reading : BitVec 32
  count : Nat
deriving DecidableEq, Repr

/-- Consecutive samples of a safety input, one every 10 µs: the terminal's voltage in mV, and whether they were taken during a coupler test
(R421, R423, R425). -/
structure SafetySamples where
  millivolts : BitVec 16
  test : Bool
  count : Nat
deriving DecidableEq, Repr

/-- How what is on a serial line arrives: unchanged, with its comma late, cut short, running on, or with other bytes (R343). -/
inductive LineRx where
  | asSent
  | late
  | partially
  | oversize
  | bytes (b : List Byte)
deriving DecidableEq, Repr

/-- What a conversion measures (R363, R379 to R381): the sense current in nA and whether the source is in its limit; the voltage of S+ above
S− in µV with a thermocouple, or the resistance and the lead resistance between EX− and S− in mΩ, each with the temperature in °C as binary64
by the sensor's reference function; the cold junction, with an open or shorted sensor; a converter fault. -/
inductive Conversion where
  | current (nA : BitVec 32) (limiting : Bool)
  | thermocouple (microvolts : BitVec 32) (value : W64)
  | rtd (milliohms lead : W32) (value : W64)
  | coldJunction (value : W64) (sensorFault : Bool)
  | converterFault
deriving DecidableEq, Repr

/-- Consecutive equal samples of inputs A and B of a counter channel at 200 MHz: their levels in mV, signed, and their number (R392). -/
structure CounterSamples where
  a : BitVec 32
  b : BitVec 32
  count : W32
deriving DecidableEq, Repr

/-- The samples of a counter channel since those of its last command, up to the instant of this one (R391, R392). -/
structure Counted where
  chan : Fin 16
  samples : List CounterSamples
deriving DecidableEq, Repr

/-- An input of a counter channel. -/
inductive CounterInput where
  | a | b | z
deriving DecidableEq, Repr

/-- How an SSI read goes (R398, R399): the data line is not at 1 at its start; or the N bits as sampled, the sample of the extra
clock, and when the line returned to 1, in tenths of a microsecond after the N-th rising clock edge: none if not within 4 × MONO. -/
structure SsiFrame where
  bits : Nat
  extra : Bool
  back : Option Nat
deriving DecidableEq, Repr


/-- A CAN frame as a controller receives it (R498, R504, R507). -/
structure CanFrame where
  id : BitVec 29
  ide : Bool
  rtr : Bool
  fdf : Bool
  brs : Bool
  esi : Bool
  dlc : BitVec 4
  /-- Its data bytes, as many as DLC says (R508). -/
  data : List Byte
deriving DecidableEq, Repr

/-- Time stamps of a frame: LTB and OTS of its start (R511, R537). -/
structure Stamps where
  tsl : W64
  tso : W64
deriving DecidableEq, Repr

/-- An edge of TPI, and the ticks of 8 ns for which the level after it has held (R564, R565). -/
structure TpiEdge where
  rising : Bool
  held : W32
deriving DecidableEq, Repr

/-- A protocol error, as LEC codes it (R522). -/
inductive CanError where
  | stuff | form | ack | bit1 | bit0 | crc
deriving DecidableEq, Repr

/-- A network interface: a CAN controller or an Ethernet switch. -/
inductive NetIface where
  | can (n : Fin 8)
  | eth (sw : Fin 2)
deriving DecidableEq, Repr

/-- A receipt of the holder for one received frame (R460, R510, R540): the object or ring, the length, the CRC-64 of the frame, the release
boundary, the stamps, and for Ethernet the twin header's bytes and INFO. -/
structure Receipt where
  iface : NetIface
  dest : Nat
  len : Nat
  crc : W64
  release : W64
  stamps : Stamps
  header : List Byte := []
  info : W32 := 0
deriving DecidableEq, Repr

/-- A heartbeat of the peer as a lane receives it (R456): the lane sequence, whether the order codes agree, the claim number, the role, the
loop frame index and phase, and the time of sending. -/
structure Heartbeat where
  seq : Byte
  sameOrder : Bool
  claim : BitVec 16
  role : BitVec 3
  frame : W64
  phase : BitVec 14
  sent : W64
deriving DecidableEq, Repr

/-- One measured or settling cycle of a Bracket session (R319): its length in samples, and its largest and smallest PV. -/
structure Cycle where
  samples : Nat
  hi : W64
  lo : W64
deriving DecidableEq, Repr

/-- What a tuning session holds beside the words of its tuning area (R316 to R319). -/
structure TuneState where
  /-- TUNE samples before this one. -/
  j : Nat := 0
  /-- The PRBS register and its output bit (R318). -/
  prbs : Nat := 0
  bit : Bool := false
  /-- The relay stands at +1 (R319). -/
  up : Bool := true
  /-- The first sample of the cycle that runs, where one does, and its extremes so far. -/
  since : Option Nat := none
  hi : W64 := 0
  lo : W64 := 0
  cycles : List Cycle := []
  /-- PV and dither of the measured window, every `stride`-th sample (R319). -/
  kept : List (W64 × W64) := []
  stride : Nat := 1
  /-- The boundary of the last sample (R319). -/
  last : W64 := 0
  /-- TUNE_CMD.STOP has applied (R311). -/
  stop : Bool := false
deriving DecidableEq, Repr

/-- What a mirror cell brings (R460). -/
inductive MirrorMsg where
  | region (group : Fin 57) (words : List (Nat × TWord))
  | bufferWords (frame ltb : W64)
  | taskStart (task : Fin 32) (snap tt : W64)
  | commit (task : Fin 32) (apply : W32)
  | trigger (task : Fin 32) (kind : Byte) (id : W32) (ots release : W64)
  | skip (task : Fin 32) (release : W64)
  | abort (task : Fin 32)
deriving DecidableEq, Repr

/-- What a control cell brings: a command with its boundary (R304, R460), switch-over and withdrawal (R468, R470, R477), a hash (R464), the
state of a field group (R335, R474), brown-out (R134), the start of a bulk transfer (R475), and the confirmation that the peer
covers a group, its request for ours, and the end of its test (R488). -/
inductive ControlMsg where
  | loopWrite (loop : Fin 512) (word : Byte) (value : TWord) (master : Byte) (boundary : W64)
  | fix (loop : Fin 512) (opt : BitVec 2) (master : Byte) (boundary : W64)
  | regWrite (page : Nat) (off : Nat) (value : W32) (source : Master) (boundary : W64)
  | tpmWrite (word : BitVec 23) (value : TWord) (boundary : W64)
  | switchOver (boundary : W64)
  | cancelSwitch
  | withdraw (boundary : W64)
  | hash (frame h : W64)
  | group (g : Fin 57) (domainOn admitted : Bool)
  | moved (g : Fin 57) (on : Bool)
  | brownout (on : Bool)
  | bulkStart
  | cover (g : Fin 57) (on : Bool)
  | coverAsk (g : Fin 57) (pulse : Option (Fin 16))
  | coverEnd (g : Fin 57)
deriving DecidableEq, Repr

/-- What a bulk cell brings (R460, R475). -/
inductive BulkMsg where
  | tpm (word : BitVec 23) (words : List TWord)
  | loopWord (loop : Fin 512) (word : Byte) (value : TWord)
  | engine (loop : Fin 512) (ack : Bool) (session : Option TuneState)
  | ttBase (v : W64)
  | epoch (v : Byte)
  | canSeq (ctrl : Fin 8) (obj : Fin 128) (seq first : Byte)
  | canPayload (ctrl : Fin 8) (obj : Fin 128) (frame : CanFrame) (stamps : Stamps) (release : W64)
  | ethPayload (sw : Fin 2) (ring : Fin 8) (bytes : List Byte) (info : W32) (stamps : Stamps) (release : W64)
deriving DecidableEq, Repr

/-- Why a lane discards a cell (R455). -/
inductive CellFault where
  | partially | oversize | unknownType | crc
deriving DecidableEq, Repr

/-- A time base whose LO register is read (R567). -/
inductive Timebase where
  | ltb
  | dc (n : Fin 2)
  | ots
deriving DecidableEq, Repr

/-- A checker of Test Strip: that of a session, or the idle-slot check of a group (R635, R639). -/
inductive CheckTarget where
  | session (n : Fin 8)
  | idle (group : Fin 57)
deriving DecidableEq, Repr

/-- What a request of Proof finds: the signature, the vectors or every calibration point right; the d of a spare visit in nA; a hold-up time in
units of 0.1 ms (R71, R378, R482, R483, R486). -/
structure ProofFinding where
  ok : Bool
  d : BitVec 32 := 0
  time : BitVec 16 := 0
  at4 : W32 := 0
  at12 : W32 := 0
  at20 : W32 := 0
deriving DecidableEq, Repr

/-- The client certificate of a Slathe session (R617): it chains to the customer CA, and the rights of its extension, bit 0 VIEW to bit 4
ADMIN, where it has one. -/
structure SessionCert where
  chains : Bool
  rights : Option (BitVec 5)
deriving DecidableEq, Repr

/-- A request of a session (R129, R133, R249, R440, R468, R476, R611, R617). -/
inductive SessionReq where
  | view
  | loopWord (loop : Fin 512) (word : Byte) (value : TWord)
  | fix (loop : Fin 512) (opt : BitVec 2)
  | taskWord (word : BitVec 23) (value : TWord)
  | regWrite (page off : Nat) (value : W32)
  | staging (off : BitVec 10) (bytes : List Byte)
  | customerCa (hash : BitVec 384)
  | opCert (hash : BitVec 384)
  | taskRestart (task : Fin 32)
  | rejoin
  | switchOver
  | shutdown (force : Bool)
  | release
  | restart
deriving DecidableEq, Repr
/-- The commands of the block, one per row of spec/opcode_table.json, in the order of the table. -/
inductive Instr where
  /-- FEED_LOST, R66: A logic feed's brown-out comparator trips after holding 1 ms below 16.5 V, and the feed becomes LOST. -/
  | feedLost (feed : Feed)
  /-- FEED_RECOVERED, R66: A logic feed's brown-out comparator releases after holding 1 ms above 18.0 V, and the feed is no longer LOST. -/
  | feedRecovered (feed : Feed)
  /-- OVERVOLTAGE_DISCONNECT, R66: A feed above 36 V for 10 µs is disconnected inside the module and counted as LOST. -/
  | overvoltageDisconnect (feed : Feed)
  /-- OVERVOLTAGE_RECONNECT, R66: A clamped feed that has stayed at or below 36 V for 1 ms is reconnected. -/
  | overvoltageReconnect (feed : Feed)
  /-- FEED_MONITOR_CHANGE, R66: The converter's 1 ms average of a feed or of the hold-up bus enters or leaves LOW or HIGH after 10 ms. -/
  | feedMonitorChange (m : Monitor) (new : BandState) (mv : BitVec 16)
  /-- FEED_MONFAULT, R66: No converter sample of a feed for 100 µs puts it in MONFAULT, tagged BAD cause 3. -/
  | feedMonfault (m : Monitor)
  /-- HOLDUP_BACKSTOP, R66: The hold-up bus below 11.0 V for 10 µs asserts BOR at once. -/
  | holdupBackstop
  /-- BROWNOUT_DECLARED, R67: Both feeds have stayed lost for 1 ms; brown-out is declared, PFAIL raised and the runtime's brown-out handling begins. -/
  | brownoutDeclared
  /-- BROWNOUT_WITHDRAWN, R68: A feed has stayed above 18.0 V and connected for 1 ms before BOR; the brown-out is withdrawn without a reset. -/
  | brownoutWithdrawn (feed : Feed)
  /-- BOR, R67: 20 ms after the brown-out declaration without withdrawal, BOR is asserted on the whole logic side. -/
  | bor
  /-- BOR_RELEASE, R69: A feed has stayed above 18.0 V for 10 ms, so the BOR cause ends and release begins. -/
  | borRelease (feed : Feed)
  /-- HOLDUP_MEASUREMENT, R71: A hold-up time measurement completes, updating HOLDUP_MEAS and HOLDUP_SHORT. -/
  | holdupMeasurement (time : BitVec 16)
  /-- FIELD_SUPPLY_STATE_CHANGE, R72: A field supply condition held for its time moves the supply between OK, LOW, LOST and HIGH at its FGC or lane, acting on the stages. -/
  | fieldSupplyStateChange (at_ : SupplyPoint) (new : SupplyState)
  /-- DOMAIN_ON_REQUEST, R84: A PWR_REQ write with REQ on switches a logic domain on, or is denied, or held during a transition. -/
  | domainOnRequest (w : Writer) (page : Nat)
  /-- DOMAIN_OFF_REQUEST, R82: A PWR_REQ write with REQ off closes the Darkslide port and starts draining the domain, or is denied. -/
  | domainOffRequest (w : Writer) (page : Nat)
  /-- DOMAIN_FORCED_OFF, R83: A PWR_REQ write with REQ forced off drains the domain with Tw 0, cutting any frame on the wire. -/
  | domainForcedOff (w : Writer) (page : Nat)
  /-- DOMAIN_OFF_COMPLETE, R82: After the outstanding transfers and the frame on the wire have completed, the domain reaches OFF and a held request is acted on. -/
  | domainOffComplete (domain : Fin 80)
  /-- DOMAIN_ON_COMPLETE, R84: 110 µs after an on request the Darkslide port opens and the domain reaches ON with its block in reset values. -/
  | domainOnComplete (domain : Fin 80)
  /-- FIELD_DOMAIN_TIMEOUT, R86: The FGC has not reported the requested field domain state within 100 ms; TMO is set and the request stays held. -/
  | fieldDomainTimeout (domain : Fin 80)
  /-- BUDGET_WRITE, R90: A write of PWR.BUDGET changes the allowance and sets OVER_BUDGET if LOAD_EST exceeds it, switching nothing off. -/
  | budgetWrite (w : Writer) (value : W32)
  /-- CLOCK_MONITOR_WINDOW, R98: A window of 2 000 internal-oscillator periods ends and the reference edge count is range-checked. -/
  | clockMonitorWindow (edges : BitVec 12)
  /-- REFERENCE_TIMEOUT, R98: No reference edge for 2 µs is a clock failure. -/
  | referenceTimeout
  /-- PLL_LOCK_LOST, R98: The PLL phase error exceeds 2 ns for 8 reference periods and lock is lost. -/
  | pllLockLost
  /-- PLL_LOCK_TIMEOUT, R98: A lock attempt that has not locked within 200 µs fails and restarts. -/
  | pllLockTimeout
  /-- PLL_LOCKED, R111: The PLL locks during release and, after holding lock for 1 ms, derived clocks are distributed. -/
  | pllLocked
  /-- CLKFAIL_RUN_CLEAR, R100: After 60 s of running without clock failure, CF_RUN is cleared. -/
  | clkfailRunClear
  /-- POR, R102: Internal logic rails below threshold at power-up assert POR on the whole logic side. -/
  | por
  /-- PIN_RESET, R34: nRESET low for 10 µs or longer resets the whole logic side until it returns high. -/
  | pinReset (low : Bool)
  /-- RESET_RELEASE, R111: The cause of a whole-logic reset ends and release runs in order AON, SYS fabric, memory controllers, ECORE0, latching side and TMODE. -/
  | resetRelease (pins : ReleasePins)
  /-- DRAM_INIT_COMPLETE, R111: DRAM initialisation or self-refresh exit completes, PMC.STAT.READY is set and ECORE0 is released at the boot ROM. -/
  | dramInitComplete
  /-- SYSTEM_WATCHDOG_EXPIRY, R104: The system watchdog countdown reaches zero and asserts WDOG on the whole logic side. -/
  | systemWatchdogExpiry
  /-- SYSTEM_WATCHDOG_KICK, R104: A write to RST.WDG_KICK forms or breaks the kick sequence, restarting the countdown, counting a bad kick or asserting WDOG on an early kick. -/
  | systemWatchdogKick (w : Writer) (value : W32) (inWindow : Bool)
  /-- WDG_CTRL_WRITE, R104: A write of RST.WDG_CTRL enables, disables or retimes the system watchdog. -/
  | wdgCtrlWrite (w : Writer) (value : W32)
  /-- SWREQ, R105: A write of RST.SWREQ GO with the key asserts SWREQ on the whole logic side, or logs cause 0x22 with a wrong key. -/
  | swreq (w : Writer) (value : W32)
  /-- CORE_RESET_REQUEST, R102: A write of 1 to ECOREn.CTRL.SRST from another core resets core n, or is denied from the core itself or untagged masters. -/
  | coreResetRequest (w : Writer) (core : Fin 4)
  /-- CORE_RESET_RELEASE, R113: 1 µs after a core reset the core restarts at its reset vector. -/
  | coreResetRelease (core : Fin 4)
  /-- BLOCK_RESET, R116: A write of 1 to CTRL.SRST of a page closes the block's Darkslide port and starts its block reset, or is denied. -/
  | blockReset (w : Writer) (page : Nat)
  /-- BLOCK_RESET_COMPLETE, R116: After the frame on the wire ends, the block is reset and its port reopened with EN 0. -/
  | blockResetComplete (page : Nat)
  /-- FORCED_BLOCK_RESET, R117: A keyed write of RST.FRST gives a block a reset with Tw 0, cutting the frame on the wire, or is denied. -/
  | forcedBlockReset (w : Writer) (value : W32)
  /-- ROM_SCAN, R125: The boot ROM reads every NOR erase marker and re-erases incomplete sectors. -/
  | romScan
  /-- ROM_VERIFY, R614: The boot ROM selects a bank, verifies and copies its image, falls back or enters BOOT_FAIL. -/
  | romVerify (a b : BankCheck)
  /-- RUNTIME_INIT, R121: The runtime re-initialises TPM, switches on domains, commands field domains on and starts field links, twin link and claim line. -/
  | runtimeInit (image : ImageDesc)
  /-- ROLE_DECISION, R126: In ROLE_WAIT the module decides its role and restart kind from side code, twin link, claim line and presence. -/
  | roleDecision
  /-- PEER_WAIT_EXPIRY, R126: The peer wait ends with the twin link silent and the peer seated; the module becomes ACTIVE alone. -/
  | peerWaitExpiry
  /-- MRAM_RESTORE_COMPLETE, R252: ADMIT restores or initialises task and loop state, computing the downtime D and TT_BASE at a warm start. -/
  | mramRestoreComplete
  /-- SHUTDOWN, R133: A keyed write of SYS.SHUTDOWN GO starts an orderly shut-down, or is refused. -/
  | shutdown (w : Writer) (value : W32)
  /-- SHUTDOWN_TASK_ABORT, R133: A task still running 1 s after the shut-down request is aborted without commit. -/
  | shutdownTaskAbort (task : Fin 32)
  /-- FAILRUN_CLEAR, R129: After 60 s in RUN, FAILRUN is cleared. -/
  | failrunClear
  /-- SLATHE_RELEASE, R129: A Slathe release takes the module out of STOP, clearing FAILRUN and restarting from RUNTIME_INIT. -/
  | slatheRelease
  /-- CID_RECORD_READ, R43: The carrier identification record read completes and is checked against the side code. -/
  | cidRecordRead (rec : List Byte)
  /-- CID_TRANSACTION_TIMEOUT, R41: A CID bus transaction unacknowledged or held for 10 ms is abandoned and counted. -/
  | cidTransactionTimeout (what : CidTarget)
  /-- CARRIER_TEMP_READ, R44: Every 1 s the carrier temperature is read, range-checked and reported in SYS.CT_TEMP. -/
  | carrierTempRead (value : BitVec 12)
  /-- CID_ALERT, R44: A filtered fall of nCID_ALERT sets CT_EVT.CID_ALERT and logs cause 0x44. -/
  | cidAlert
  /-- SIDE_CHANGE, R36: A change of the SIDE pins after reset release sets SIDE_CHG and logs an event without changing the side. -/
  | sideChange (side : BitVec 2)
  /-- PRESENCE_LOST, R40: nPRES_OWN goes high while running; PRES_LOST is set and the claim is given up. -/
  | presenceLost
  /-- PEER_SEATED_CHANGE, R52: A filtered change of nPRES_PEER changes PEER_SEATED and logs cause 0x42. -/
  | peerSeatedChange (seated : Bool)
  /-- CLAIM_LINE_PERIOD, R38: A CLMI period completes and is decoded as peer holder, not holder, or invalid. -/
  | claimLinePeriod (period high : Nat)
  /-- CLAIM_LINE_DEAD, R34: No valid CLMI edge for 300 µs, or three invalid periods, declares the claim line dead. -/
  | claimLineDead
  /-- WAKE_REQUEST, R47: A filtered low on nWAKE wakes the module from HOLD or SAVE. -/
  | wakeRequest
  /-- GP_INPUT_CHANGE, R34: A general-purpose carrier input changes its filtered level. -/
  | gpInputChange (pin : Fin 24) (level : Bool)
  /-- LOCK_ARM, R152: A write of 0x0000_C0DE to LOCK of a locked page arms it for the writing master. -/
  | lockArm (w : Writer) (page : Nat)
  /-- LOCK_UNLOCK, R152: A write of 0x0000_ED0C from the arming master within 64 cycles unlocks the page, other writes relock it with cause 0xF0. -/
  | lockUnlock (w : Writer) (page : Nat) (value : W32)
  /-- LOCK_RELOCK, R152: Any LOCK write to an unlocked page locks it again without an event. -/
  | lockRelock (w : Writer) (page : Nat) (value : W32)
  /-- LOCK_ARM_TIMEOUT, R152: An armed lock without its second word for 64 cycles locks and logs cause 0xF0. -/
  | lockArmTimeout (page : Nat)
  /-- REGISTER_WRITE, R141: A write to a register with no row of its own completes with its response, subject to the lock, tag check and WSEQ counting. -/
  | registerWrite (w : Writer) (page off : Nat) (value : W32)
  /-- FAULT_CAUSE_CLEAR, R150: A write of FAULT_CAUSE.CLR clears COUNT, FIRST and STAT.FAULT. -/
  | faultCauseClear (w : Writer) (page : Nat) (value : W32)
  /-- BLOCK_ENABLE, R147: A write of CTRL.EN starts or stops a block as its owning chapter states. -/
  | blockEnable (w : Writer) (page : Nat) (value : W32)
  /-- FREEZE_WRITE, R147: A write of CTRL.FREEZE holds or releases the block's statistics and status registers. -/
  | freezeWrite (w : Writer) (page : Nat) (value : W32)
  /-- LOGGER_RECORD_WRITE, R162: The logger writes the oldest queued event as a record into the MRAM ring and updates the control word. -/
  | loggerRecordWrite
  /-- EVENT_POST, R164: A write of SYS.EVLOG_POST queues a software event with the master's staged data and severity, or refuses it. -/
  | eventPost (w : Writer) (code : W32)
  /-- LFI_LO_READ, R255: A read of SYS.LFI_LO returns the loop frame index low word and latches the high word for that master. -/
  | lfiLoRead (m : Master)
  /-- ADD, R203: Integer add modulo 2^64. -/
  | add (c : CoreId) (rd ra rb : GReg)
  /-- SUB, R203: Integer subtract modulo 2^64. -/
  | sub (c : CoreId) (rd ra rb : GReg)
  /-- ADDS, R203: Saturating signed add, L set on saturation. -/
  | adds (c : CoreId) (rd ra rb : GReg)
  /-- SUBS, R203: Saturating signed subtract, L set on saturation. -/
  | subs (c : CoreId) (rd ra rb : GReg)
  /-- MUL, R203: Low 64 bits of the product. -/
  | mul (c : CoreId) (rd ra rb : GReg)
  /-- MULH, R203: High 64 bits of the signed product. -/
  | mulh (c : CoreId) (rd ra rb : GReg)
  /-- MULHU, R203: High 64 bits of the unsigned product. -/
  | mulhu (c : CoreId) (rd ra rb : GReg)
  /-- DIV, R204: Signed division, raising DIV0 or giving a BAD result on division by zero. -/
  | div (c : CoreId) (rd ra rb : GReg)
  /-- DIVU, R204: Unsigned division with the division-by-zero rules. -/
  | divu (c : CoreId) (rd ra rb : GReg)
  /-- REM, R204: Signed remainder with the division-by-zero rules. -/
  | rem (c : CoreId) (rd ra rb : GReg)
  /-- REMU, R204: Unsigned remainder with the division-by-zero rules. -/
  | remu (c : CoreId) (rd ra rb : GReg)
  /-- ADDI, R203: Add a sign-extended 14-bit immediate. -/
  | addi (c : CoreId) (rd ra : GReg) (imm : BitVec 14)
  /-- AND, R205: Bitwise AND. -/
  | and (c : CoreId) (rd ra rb : GReg)
  /-- OR, R205: Bitwise OR. -/
  | or (c : CoreId) (rd ra rb : GReg)
  /-- XOR, R205: Bitwise exclusive OR. -/
  | xor (c : CoreId) (rd ra rb : GReg)
  /-- SLL, R205: Shift left by register or immediate count. -/
  | sll (c : CoreId) (rd ra : GReg) (count : ShiftCount)
  /-- SRL, R205: Logical shift right. -/
  | srl (c : CoreId) (rd ra : GReg) (count : ShiftCount)
  /-- SRA, R205: Arithmetic shift right. -/
  | sra (c : CoreId) (rd ra : GReg) (count : ShiftCount)
  /-- ANDI, R205: AND with a zero-extended immediate. -/
  | andi (c : CoreId) (rd ra : GReg) (imm : BitVec 14)
  /-- ORI, R205: OR with a zero-extended immediate. -/
  | ori (c : CoreId) (rd ra : GReg) (imm : BitVec 14)
  /-- XORI, R205: XOR with a zero-extended immediate. -/
  | xori (c : CoreId) (rd ra : GReg) (imm : BitVec 14)
  /-- SETH, R205: Write a 16-bit immediate into one quarter of a register, optionally clearing the rest. -/
  | seth (c : CoreId) (rd : GReg) (imm : BitVec 16) (k : Fin 4) (z : Bool)
  /-- FADD, R207: Floating-point add. -/
  | fadd (c : CoreId) (rd ra rb : GReg) (rm : Rounding) (p : Prec)
  /-- FSUB, R207: Floating-point subtract. -/
  | fsub (c : CoreId) (rd ra rb : GReg) (rm : Rounding) (p : Prec)
  /-- FMUL, R207: Floating-point multiply. -/
  | fmul (c : CoreId) (rd ra rb : GReg) (rm : Rounding) (p : Prec)
  /-- FDIV, R207: Floating-point divide. -/
  | fdiv (c : CoreId) (rd ra rb : GReg) (rm : Rounding) (p : Prec)
  /-- FMAC, R207: Fused multiply-accumulate into the destination. -/
  | fmac (c : CoreId) (rd ra rb : GReg) (rm : Rounding) (p : Prec)
  /-- FSQRT, R207: Floating-point square root. -/
  | fsqrt (c : CoreId) (rd ra : GReg) (rm : Rounding) (p : Prec)
  /-- FMIN, R207: minimumNumber of two floating-point operands. -/
  | fmin (c : CoreId) (rd ra rb : GReg) (p : Prec)
  /-- FMAX, R207: maximumNumber of two floating-point operands. -/
  | fmax (c : CoreId) (rd ra rb : GReg) (p : Prec)
  /-- FSGN, R207: Absolute value, negation or sign copy. -/
  | fsgn (c : CoreId) (rd ra : GReg) (op : SignOp) (p : Prec)
  /-- FCVT, R207: Convert between binary32 and binary64. -/
  | fcvt (c : CoreId) (rd ra : GReg) (rm : Rounding) (p : Prec)
  /-- F2I, R207: Floating-point to 64-bit integer, saturating. -/
  | f2i (c : CoreId) (rd ra : GReg) (rm : Rounding) (p : Prec) (uns : Bool)
  /-- I2F, R207: 64-bit integer to floating point. -/
  | i2f (c : CoreId) (rd ra : GReg) (rm : Rounding) (p : Prec) (uns : Bool)
  /-- CMPEQ, R209: Compare equal. -/
  | cmpeq (c : CoreId) (rd ra rb : GReg)
  /-- CMPLT, R209: Compare less, signed. -/
  | cmplt (c : CoreId) (rd ra rb : GReg)
  /-- CMPLTU, R209: Compare less, unsigned. -/
  | cmpltu (c : CoreId) (rd ra rb : GReg)
  /-- FCMP, R209: Floating-point compare by condition. -/
  | fcmp (c : CoreId) (rd ra rb : GReg) (cond : FCond) (p : Prec)
  /-- SEL, R209: Select one of two registers by the destination's value. -/
  | sel (c : CoreId) (rd ra rb : GReg)
  /-- CMPI, R209: Compare with a sign-extended immediate. -/
  | cmpi (c : CoreId) (rd ra : GReg) (cond : ICond) (imm : BitVec 14)
  /-- BR, R210: PC-relative branch, optionally linking. -/
  | br (c : CoreId) (disp : BitVec 20) (lnk : Bool)
  /-- BZ, R210: Branch if zero. -/
  | bz (c : CoreId) (ra : GReg) (disp : BitVec 20)
  /-- BNZ, R210: Branch if not zero. -/
  | bnz (c : CoreId) (ra : GReg) (disp : BitVec 20)
  /-- JR, R210: Jump to a register address, linking. -/
  | jr (c : CoreId) (rd ra : GReg)
  /-- FCALL, R211: Function-block call to a PC-relative target with a new instance base. -/
  | fcall (c : CoreId) (ri : GReg) (disp : BitVec 21)
  /-- FCALLR, R211: Function-block call to a register address. -/
  | fcallr (c : CoreId) (ra rb : GReg)
  /-- FRET, R211: Function-block return restoring LK, IB and SP. -/
  | fret (c : CoreId)
  /-- ERET, R212: Return from exception at level P. -/
  | eret (c : CoreId) (keepIE : Bool)
  /-- LD, R213: Load a 64-bit word with its tag. -/
  | ld (c : CoreId) (rd rb : GReg) (at_ : LoadAt)
  /-- LW, R213: Load a sign-extended 32-bit word. -/
  | lw (c : CoreId) (rd rb : GReg) (at_ : LoadAt)
  /-- LWU, R213: Load a zero-extended 32-bit word. -/
  | lwu (c : CoreId) (rd rb : GReg) (at_ : LoadAt)
  /-- LBU, R213: Load a zero-extended byte. -/
  | lbu (c : CoreId) (rd rb : GReg) (at_ : LoadAt)
  /-- ST, R213: Store a 64-bit word with its tag. -/
  | st (c : CoreId) (rd rb : GReg) (disp : BitVec 16)
  /-- SW, R213: Store a 32-bit word. -/
  | sw (c : CoreId) (rd rb : GReg) (disp : BitVec 16)
  /-- SB, R213: Store a byte, dropping the tag. -/
  | sb (c : CoreId) (rd rb : GReg) (disp : BitVec 16)
  /-- CAS, R214: Atomic compare-and-swap in TPM or program memory. -/
  | cas (c : CoreId) (rd ra rb : GReg)
  /-- GTAG, R215: Read a register's tag as a value. -/
  | gtag (c : CoreId) (rd ra : GReg)
  /-- STAG, R215: Copy a value with a tag taken from another register. -/
  | stag (c : CoreId) (rd ra rb : GReg)
  /-- TMRG, R215: Copy a value with the merged tag of two registers. -/
  | tmrg (c : CoreId) (rd ra rb : GReg)
  /-- TSUB, R215: Substitute a value whose Q is not better than a threshold. -/
  | tsub (c : CoreId) (rd ra rb : GReg) (thr : Threshold) (qs : BitVec 2)
  /-- STAGI, R215: Copy a value with an immediate tag. -/
  | stagi (c : CoreId) (rd ra : GReg) (tag : BitVec 8)
  /-- TTST, R215: Test a tag's Q or bits. -/
  | ttst (c : CoreId) (rd ra : GReg) (test : TagTest)
  /-- TIM, R218: Timer primitive: on-delay, off-delay or pulse over task time. -/
  | tim (c : CoreId) (rd ra : GReg) (n : BitVec 14) (v : TimVar)
  /-- EDG, R219: Edge detector primitive. -/
  | edg (c : CoreId) (rd ra : GReg) (n : BitVec 14) (v : EdgVar)
  /-- CNT, R220: Counter primitive. -/
  | cnt (c : CoreId) (rd ra : GReg) (n : BitVec 14) (v : CntVar)
  /-- HYS, R221: Hysteresis switch primitive. -/
  | hys (c : CoreId) (rd ra : GReg) (n : BitVec 14) (inv : Bool)
  /-- LIM, R222: Limiter primitive. -/
  | lim (c : CoreId) (rd ra : GReg) (n : BitVec 14) (int : Bool)
  /-- RMP, R223: Ramp primitive over task time. -/
  | rmp (c : CoreId) (rd ra : GReg) (n : BitVec 14)
  /-- LXW, R224: Issue a loop record word write at retirement. -/
  | lxw (c : CoreId) (rd rb : GReg) (disp : BitVec 16)
  /-- LXR, R224: Issue a loop record word read at retirement. -/
  | lxr (c : CoreId) (rd rb : GReg) (disp : BitVec 16)
  /-- LXF, R224: Issue a Fix command with an option at retirement. -/
  | lxf (c : CoreId) (opt : BitVec 2) (rb : GReg) (disp : BitVec 16)
  /-- SVC, R224: Raise the SVC exception with a service code. -/
  | svc (c : CoreId) (code : BitVec 16)
  /-- INTERRUPT_ENTRY, R186: At an instruction boundary with IE 1 the core takes the pending slot of highest priority. -/
  | interruptEntry (c : CoreId)
  /-- TASK_BUDGET_EXPIRY, R183: TASK_BUDGET reaches zero and raises OVERRUN. -/
  | taskBudgetExpiry (c : CoreId)
  /-- CORE_WATCHDOG_FIRST_EXPIRY, R182: The core watchdog expires for the first time, raising WDOG and reloading. -/
  | coreWatchdogFirstExpiry (c : CoreId)
  /-- CORE_WATCHDOG_RESET, R182: A second core watchdog expiry without a kick resets that core alone. -/
  | coreWatchdogReset (c : CoreId)
  /-- CORE_WATCHDOG_KICK, R182: A write of 0x0000_A55A to CWDG_KICK from the own core reloads the count and clears STAGE. -/
  | coreWatchdogKick (w : Writer) (c : CoreId) (value : W32)
  /-- CWDG_CTRL_WRITE, R182: A write of CWDG_CTRL enables the core watchdog, loading the count, or changes its timeout. -/
  | cwdgCtrlWrite (w : Writer) (c : CoreId) (value : W32)
  /-- ICACHE_INVALIDATE, R167: A write of CACHE_OP.IINV invalidates that core's L1 instruction cache. -/
  | icacheInvalidate (w : Writer) (c : CoreId) (value : W32)
  /-- EXC_ACTIVE_CLEAR, R181: A write of 1 to CORE_STAT.EXC_ACTIVE ends exception handling, letting held async events be taken. -/
  | excActiveClear (w : Writer) (c : CoreId) (value : W32)
  /-- LX_COMMAND_ACCEPT, R188: The loop engine accepts one queued LX command, landing a write, returning a read or pending a Fix, or failing it. -/
  | lxCommandAccept (c : CoreId)
  /-- TPM_SCRUB, R176: The TPM scrubber reads a word, correcting or rewriting it as ABSENT cause 7. -/
  | tpmScrub (word : BitVec 23) (found : EccFinding)
  /-- PMC_SCRUB, R195: The program-memory scrubber checks a unit, correcting errors or recording uncorrectable ones. -/
  | pmcScrub (unit : BitVec 27) (found : EccFinding)
  /-- TPM_TAG_WRITE, R175: A write of TPMC.TAGW_DATA replaces a TPM word's tag and recomputes its check bits. -/
  | tpmTagWrite (w : Writer) (value : W32)
  /-- LOOP_FRAME_BOUNDARY, R254: Every 15 625 CLK_FAB cycles a loop frame boundary occurs, incrementing the index and driving tasks, loops and Proof. -/
  | loopFrameBoundary (die : BitVec 16)
  /-- TASK_CYCLE_START, R235: A released task is dispatched, copies its snapshot and output area with interrupts masked, samples TT and starts its function blocks. -/
  | taskCycleStart (task : Fin 32)
  /-- TASK_COMMIT, R239: After its last function block returns, the task writes its select word so its outputs are published at APPLY. -/
  | taskCommit (task : Fin 32)
  /-- TRIGGER, R233: Service TRIGGER, SVC code 0x0020, queues an entry for a named EVENT task and returns a status. -/
  | trigger (c : CoreId)
  /-- BACKGROUND_SLICE, R230: A 1 ms slice ends and the next BACKGROUND task of the core runs. -/
  | backgroundSlice (c : CoreId)
  /-- RETAIN_RECORD_WRITE, R251: At each RET_PERIOD, shut-down or brown-out the runtime writes a retain record into the alternate slot as tasks become inactive. -/
  | retainRecordWrite
  /-- TASK_RESTART, R249: A Slathe command restarts a stopped task with initial instance values. -/
  | taskRestart (task : Fin 32)
  /-- LOOP_ENGINE_STOP, R285: Writing LOOP.CTRL.EN 0 lets the frame finish, stops samples and marks every destination BAD cause 7. -/
  | loopEngineStop (w : Writer) (value : W32)
  /-- LD_PEAK_CLEAR, R285: A write of LD_PEAK.CLR resets the peak load. -/
  | ldPeakClear (w : Writer) (value : W32)
  /-- FIX_KEEP, R298: A Fix command with option KEEP lands and becomes the loop's pending Fix. -/
  | fixKeep (loop : Fin 512)
  /-- FIX_RESCALE, R298: A Fix command with option RESCALE lands and becomes the loop's pending Fix. -/
  | fixRescale (loop : Fin 512)
  /-- FIX_CHECK, R298: A Fix command with option CHECK lands and becomes the loop's pending Fix. -/
  | fixCheck (loop : Fin 512)
  /-- FIX_CANCEL, R299: A CANCEL command withdraws the loop's pending Fix. -/
  | fixCancel (loop : Fin 512)
  /-- BRACKET_ANALYSIS, R319: After the last Bracket sample the engine analyses the cycles and reaches DONE within 16 frames. -/
  | bracketAnalysis (loop : Fin 512)
  /-- CAPTURE_ARM, R324: SCTRL CMD arm starts a capture session or refuses it. -/
  | captureArm (w : Writer) (session : Fin 16) (nsig : BitVec 4)
  /-- CAPTURE_STOP, R326: SCTRL CMD stop ends a capture session in DONE or IDLE. -/
  | captureStop (w : Writer) (session : Fin 16) (nsig : BitVec 4)
  /-- CAPTURE_SOFTWARE_TRIGGER, R326: SCTRL CMD software trigger triggers the session at the next capture point. -/
  | captureSoftwareTrigger (w : Writer) (session : Fin 16) (nsig : BitVec 4)
  /-- CAPTURE_RECORD, R325: After the frame's samples commit, each session writes a record, triggering and completing as due. -/
  | captureRecord
  /-- INPUT_FILTER_ACCEPT, R333: A digital input's raw state or band has differed for FILT × 20 µs and becomes the filtered state. -/
  | inputFilterAccept (dch : Fin 512) (samples : List DchSamples)
  /-- OUTPUT_SHORT_CUTOFF, R336: An output in limitation with terminal below 10 V is switched off within 50 µs. -/
  | outputShortCutoff (dch : Fin 512)
  /-- OUTPUT_OVERLOAD, R336: An output still in limitation at the end of inrush, or for 1 ms after, is switched off. -/
  | outputOverload (dch : Fin 512)
  /-- OUTPUT_SHED, R336: A group output sum above 4.0 A for 1 ms switches off the highest-numbered output on. -/
  | outputShed (group : Fin 32)
  /-- OUTPUT_RETRY, R337: 100 ms after a cut-off a RETRY output still commanded on switches on again. -/
  | outputRetry (dch : Fin 512)
  /-- READBACK_DISAGREE, R338: Readback differing from the expected switch state for 1 ms sets DISAGREE, or agreeing for 1 ms clears it. -/
  | readbackDisagree (dch : Fin 512) (differs : Bool)
  /-- FIELD_PERIOD_START, R341: Every 10 µs a field period starts and the module sends its local burst in slot 0 and the peer's in slot 1. -/
  | fieldPeriodStart
  /-- FGC_BURST_RECEIVE, R343: An FGC receives a burst in a slot and accepts or discards it. -/
  | fgcBurstReceive (group : Fin 57) (slot : Fin 2) (rx : LineRx)
  /-- FGC_PERIOD_END, R346: At period end the FGC updates admission and holder and obeys the holder's burst and mailbox. -/
  | fgcPeriodEnd (group : Fin 57)
  /-- SAFE_STATE_TIMEOUT, R347: Silence reaching TMO makes the FGC apply its safe states. -/
  | safeStateTimeout (group : Fin 57)
  /-- GROUP_RELEASE, R348: With CTYP tied and no valid burst for 3 periods, the FGC releases the group. -/
  | groupRelease (group : Fin 57)
  /-- FGC_REPORT, R345: The FGC sends its report 1.0 µs after the slot 0 comma. -/
  | fgcReport (group : Fin 57) (offset : W32) (counted : List Counted)
  /-- REPORT_RECEIVE, R353: The logic end accepts a report, admits reports and writes the group region into the open frame buffer. -/
  | reportReceive (group : Fin 57) (rx : LineRx)
  /-- REPORT_TIMEOUT, R354: Five periods without an accepted report, or loss of local admission, time out the reports and mark inputs BAD cause 3. -/
  | reportTimeout (group : Fin 57)
  /-- LOOPBACK_END, R639: After the commanded number of periods the FGC ends loopback and sends its next report. -/
  | loopbackEnd (group : Fin 57)
  /-- OUT_CLEAR_WRITE, R350: A write of OUT_CLR queues a clear sent as mailbox operation 0x02 until acknowledged. -/
  | outClearWrite (w : Writer) (page : Nat) (value : W32)
  /-- FGC_POWER_ON_RESET, R349: An FGC leaves power-on reset, reads CTYP and sets channels from its field fuse map. -/
  | fgcPowerOnReset (group : Fin 57) (tied : Bool)
  /-- CONVERSION, R363: At a conversion instant an AG or TG channel completes a conversion, forming value, band and tag. -/
  | conversion (group : Fin 57) (chan : Fin 16) (result : Conversion)
  /-- SPARE_VISIT_START, R377: The spare converter checks its reference and connects to the next channel. -/
  | spareVisitStart (group : Fin 16) (refBad : Bool)
  /-- SPARE_VISIT_END, R378: After 4.0 s the visit ends and the offset is corrected or calibration failure is reported. -/
  | spareVisitEnd (group : Fin 16) (d : BitVec 32)
  /-- OUTPUT_OPEN, R360: An output whose current stays 0.2 mA below command for 5 ms at its limit reports OPEN. -/
  | outputOpen (ach : Fin 256)
  /-- OUTPUT_DISAGREE, R371: A current-loop output differing from its command for 5 ms reports DISAGREE, or clears after 5 ms within. -/
  | outputDisagree (ach : Fin 256) (differs : Bool)
  /-- VALUE_BURST_RECEIVE, R386: The logic end receives a value burst and uses it with its report, or counts VMISS. -/
  | valueBurstReceive (group : Fin 57) (rx : LineRx)
  /-- COUNTER_INPUT_ERROR, R392: An overspeed or quadrature phase error sets CODE 3 on the counter channel. -/
  | counterInputError (cch : Fin 64) (phase : Bool)
  /-- COUNTER_INPUT_FAULT, R392: A differential input below 50 mV for 10 µs has an input fault. -/
  | counterInputFault (cch : Fin 64) (input : CounterInput) (present : Bool)
  /-- INDEX_EVENT, R397: An index edge latches the raw count and queues an index record. -/
  | indexEvent (cch : Fin 64) (samples : List CounterSamples)
  /-- SSI_READ, R398: Every SSIP periods the FGC starts an SSI read by dropping the clock. -/
  | ssiRead (cch : Fin 64) (dataHigh : Bool)
  /-- SSI_READ_END, R399: An SSI read ends as valid, LONGER, SHORTER or NOFRAME. -/
  | ssiReadEnd (cch : Fin 64) (frame : SsiFrame)
  /-- COUNTER_LATCH, R402: At the commanded instant the FGC latches the raw count of every counting channel. -/
  | counterLatch (group : Fin 4) (counted : List Counted)
  /-- COUNTER_CLEAR, R415: A write of CGn.CLR clears a latched CODE 3. -/
  | counterClear (w : Writer) (page : Nat) (value : W32)
  /-- HOME_ARM, R396: A write of CGn.HOME.ARM clears HOMED for a channel. -/
  | homeArm (w : Writer) (page : Nat) (value : W32)
  /-- POSITION_SET, R415: A write of POSSETc sets the offset so the position equals the value at the next report. -/
  | positionSet (w : Writer) (page : Nat) (chan : Fin 16) (value : W32)
  /-- SHUTTER_CAPTURE, R407: Shutter captures a selected edge on a coupler and queues a time-stamped record. -/
  | shutterCapture (chan : Fin 576) (rising : Bool)
  /-- SHUTTER_POP, R408: A write of SHUT.POP removes the oldest record. -/
  | shutterPop (w : Writer) (value : W32)
  /-- SNAPSHOT_ARM, R409: CSHEET.CMD.GO arms a snapshot at OTS time T or refuses it. -/
  | snapshotArm (w : Writer) (value : W32)
  /-- SNAPSHOT_CANCEL, R409: CSHEET.CMD.CANCEL removes a pending snapshot by ID. -/
  | snapshotCancel (w : Writer) (value : W32)
  /-- SNAPSHOT_COMPLETE, R414: A snapshot record is completed after T, header word 0 last. -/
  | snapshotComplete (slot : Fin 8)
  /-- SNAPSHOT_LATCH_TIMEOUT, R414: A latch record missing 200 µs after T leaves the value ABSENT and sets PARTIAL. -/
  | snapshotLatchTimeout (slot : Fin 8)
  /-- LANE_CYCLE, R421: Each 100 µs lane cycle latches causes, computes effects and updates switch commands. -/
  | laneCycle (lane : Fin 2) (raw : BitVec 96) (rbIn rbMid rbOut : W32)
  /-- CROSSLINK_FRAME, R420: A lane receives the other lane's cross-link frame and checks it and its period. -/
  | crosslinkFrame (lane : Fin 2) (good : Bool) (period : BitVec 16)
  /-- CROSSLINK_TIMEOUT, R420: No valid cross-link frame for 3 cycles is lane fault 0x0D. -/
  | crosslinkTimeout (lane : Fin 2)
  /-- SAFETY_INPUT_FILTER, R425: A safety input's raw state has differed for FILT × 0.25 ms and becomes filtered. -/
  | safetyInputFilter (lane : Fin 2) (input : Fin 96) (samples : List SafetySamples)
  /-- PAIR_DISCREPANCY, R426: A pair whose inputs differ longer than DISC × 10 ms gets a discrepancy. -/
  | pairDiscrepancy (lane : Fin 2) (pair : Fin 47)
  /-- COUPLER_TEST, R427: A lane forces an input coupler for 8 µs and checks the forced state. -/
  | couplerTest (lane : Fin 2) (input : Fin 96) (passed : Bool)
  /-- SFS_STATE_CHANGE, R428: The lanes find SFS in a new state and react. -/
  | sfsStateChange (lane : Fin 2) (new : SupplyState)
  /-- OUTPUT_HEARTBEAT_MISSING, R431: An output coupler heartbeat missing for 3 cycles is a coupler fault. -/
  | outputHeartbeatMissing (lane : Fin 2) (output : Fin 32)
  /-- READBACK_FAILURE, R432: A point energised while expected de-energised for 1 ms is a readback failure. -/
  | readbackFailure (lane : Fin 2) (output : Fin 32)
  /-- OUTPUT_FAULT, R432: OUT not energised while expected for 1 ms latches an output fault. -/
  | outputFault (lane : Fin 2) (output : Fin 32)
  /-- SWITCH_TEST, R433: Every 10 s a lane stops its train for 100 µs to test its switch. -/
  | switchTest (lane : Fin 2) (output : Fin 32) (passed : Bool)
  /-- TABLE_CRC_CHECK, R435: Every 100 ms a lane checks its table's CRC-32C. -/
  | tableCrcCheck (lane : Fin 2) (readBack : Option (List Byte))
  /-- LANE_WATCHDOG, R435: A lane watchdog expiry is lane fault 0x07. -/
  | laneWatchdog (lane : Fin 2)
  /-- LOCKOUT_RECORD_WRITE, R437: A lane writes its lock-out record half to MRAM, retrying every 10 ms. -/
  | lockoutRecordWrite (lane : Fin 2)
  /-- RESET_PRESS, R438: A press of the reset pair ends and each lane classifies it. -/
  | resetPress (durX durY : BitVec 16) (split : Bool)
  /-- LANE_SELF_TEST, R439: A lane's self-test completes within 200 ms, clearing or keeping LOCKOUT. -/
  | laneSelfTest (failX failY : Option (BitVec 16))
  /-- CONFIG_ENTRY, R442: A press reaching 10 s with every output off makes both lanes enter CONFIG. -/
  | configEntry
  /-- STAGING_READ, R442: Every 1 s in CONFIG a lane reads the staging region and checks a changed image. -/
  | stagingRead (lane : Fin 2)
  /-- MATRIX_STORE, R442: After confirmation each lane stores and verifies the new table, accepting or failing. -/
  | matrixStore (okX okY : Bool)
  /-- CONFIG_ABANDON, R442: A 10 s press or 10 min without confirmation abandons SAFETY-CONFIG. -/
  | configAbandon
  /-- LANE_START, R443: At supply return or end of CONFIG a lane selects its bank, self-tests and enters LOCKOUT, TAKEUP or RUN. -/
  | laneStart (lane : Fin 2) (fail : Option (BitVec 16)) (bridgeClosed : Bool)
  /-- TAKEUP_BYPASS_ASSERT, R444: 1 ms into TAKEUP with MID matching, the lanes assert BHX and BHY. -/
  | takeupBypassAssert
  /-- TAKEUP_COMPLETE, R444: Once every cause is filtered the lanes enter RUN. -/
  | takeupComplete
  /-- LANE_STOP, R422: A lane's regulator leaves regulation and every switch opens. -/
  | laneStop (lane : Fin 2)
  /-- MIRROR_UPDATE, R447: A lane's state update arrives at its mirror page. -/
  | mirrorUpdate (lane : Fin 2)
  /-- MIRROR_STALE, R447: No valid mirror update for 1 ms sets LSTAT.STALE. -/
  | mirrorStale (lane : Fin 2)
  /-- HEARTBEAT_SEND, R456: Every 2 µs a module sends a heartbeat cell on each lane. -/
  | heartbeatSend
  /-- TWIN_HEARTBEAT, R456: A valid heartbeat is received, updating peer state and order-code checks. -/
  | twinHeartbeat (lane : Fin 2) (hb : Heartbeat)
  /-- TWIN_LANE_DOWN, R455: No valid heartbeat on a lane for 6 µs takes the lane down. -/
  | twinLaneDown (lane : Fin 2)
  /-- TWIN_LANE_UP, R455: Training and 1 ms of clean heartbeats bring a lane up. -/
  | twinLaneUp (lane : Fin 2) (rtt : BitVec 16)
  /-- PEER_LOST, R456: No valid heartbeat on either lane for 6 µs declares the peer lost. -/
  | peerLost
  /-- CLAIM_LINE_VERDICT, R471: After a takeover the claim line shows the peer dead, not holder or holder; frames are released or split brain is found. -/
  | claimLineVerdict
  /-- OFF_LINE_WAIT_EXIT, R472: A module in OFF-LINE-WAIT leaves for SYNCING on twin link return or restarts on a dead claim line. -/
  | offLineWaitExit
  /-- RELAY_CELL_RECEIVE, R461: A relay cell with the peer's bursts arrives for sending in slot 1. -/
  | relayCellReceive (next : Bool) (bursts : List (Fin 57 × List Byte))
  /-- MIRROR_CELL_RECEIVE, R460: A mirror cell brings input image regions or mirrored words from the holder. -/
  | mirrorCellReceive (m : MirrorMsg)
  /-- CONTROL_CELL_RECEIVE, R304: A control cell brings a command with its assigned boundary, switch-over, hash or join message. -/
  | controlCellReceive (m : ControlMsg)
  /-- NETWORK_RECEIPT, R460: A receipt from the holder names a frame to deliver at its release boundary. -/
  | networkReceipt (r : Receipt)
  /-- BULK_CELL_RECEIVE, R475: A bulk cell brings re-integration data or a requested payload. -/
  | bulkCellReceive (m : BulkMsg)
  /-- SWITCH_REQUEST, R469: A keyed write of CLAIM.SWITCH GO schedules a planned switch-over or is refused. -/
  | switchRequest (w : Writer) (value : W32)
  /-- AUTO_SWITCHOVER, R469: The peer's score margin has held for 1 s and a planned switch-over is scheduled. -/
  | autoSwitchover
  /-- SWITCHOVER_EFFECT, R468: In the first field period at or after the chosen boundary the claims swap roles. -/
  | switchoverEffect
  /-- WITHDRAWAL, R470: In the next uncomposed field period the withdrawing module carries claim role 0. -/
  | withdrawal
  /-- GROUP_RETURN, R474: The holder's reports have been admitted again for 1 s and the group returns. -/
  | groupReturn (group : Fin 57)
  /-- REINTEGRATION_CHECK, R475: A joining module compares order code, image hash and MATRIX_ID. -/
  | reintegrationCheck (sameOrder : Bool) (digest : BitVec 384) (peerMatrix : W32)
  /-- REINTEGRATION_ALIGN, R459: The SYNCING module takes the holder's frame index and aligns its boundaries. -/
  | reintegrationAlign
  /-- BULK_PASS, R475: A bulk transfer pass ends and repeats over marked pages or moves to Delta. -/
  | bulkPass (dirty : BitVec 16)
  /-- DELTA, R475: The holder copies engine words at g_j into a join buffer and sends it. -/
  | delta (g : W64)
  /-- CATCH_UP, R475: The joining engine reaches the holder's frame. -/
  | catchUp
  /-- TASK_JOIN, R475: A task joins at its first release after catch-up. -/
  | taskJoin (task : Fin 32) (cycle prevTT : W64)
  /-- JOIN_PROOF, R475: Sixteen consecutive hash matches make the module STANDBY-READY. -/
  | joinProof
  /-- JOIN_FAIL, R476: A join whose catch-up exceeds 32 frames or whose hash differs fails and restarts from Align. -/
  | joinFail
  /-- REJOIN, R478: A keyed write of TWIN.REJOIN GO clears JOINFAIL and restarts re-integration. -/
  | rejoin (w : Writer) (value : W32)
  /-- CORE_SELF_TEST_SLICE, R482: A core self-test slice runs and compares its signature. -/
  | coreSelfTestSlice (core : Fin 4) (last ok : Bool)
  /-- GOLDEN_VECTOR_SET, R483: A golden vector set completes and is compared bit for bit. -/
  | goldenVectorSet (wrong : Option (Fin 64))
  /-- MRAM_SCAN, R481: PROOF completes a pass reading and checking every MRAM unit. -/
  | mramScan
  /-- NOR_IMAGE_CHECK, R481: PROOF completes the SHA-384 of the running bank and compares it. -/
  | norImageCheck (same : Bool)
  /-- PULSE_TEST_END, R485: The pulse test ends and MB_RES reports its outcome. -/
  | pulseTestEnd (group : Fin 32) (outcome : BitVec 3)
  /-- HEALTH_REPORT_PUBLISH, R495: The runtime sends the report as a network message within 1 ms. -/
  | healthReportPublish
  /-- PROOF_REQ_CORE_TEST, R486: Request KIND 0x01 queues a core self-test pass. -/
  | proofReqCoreTest (w : Writer) (side : BitVec 2) (target : BitVec 16)
  /-- PROOF_REQ_GOLDEN_VECTORS, R486: Request KIND 0x02 queues a golden vector set. -/
  | proofReqGoldenVectors (w : Writer) (side : BitVec 2) (target : BitVec 16)
  /-- PROOF_REQ_SPARE_VISIT, R486: Request KIND 0x03 queues an immediate spare converter visit. -/
  | proofReqSpareVisit (w : Writer) (side : BitVec 2) (target : BitVec 16)
  /-- PROOF_REQ_PULSE_TEST, R486: Request KIND 0x04 queues a pulse test. -/
  | proofReqPulseTest (w : Writer) (side : BitVec 2) (target : BitVec 16)
  /-- PROOF_REQ_CALIBRATION, R486: Request KIND 0x05 queues calibration of an active output. -/
  | proofReqCalibration (w : Writer) (side : BitVec 2) (target : BitVec 16)
  /-- PROOF_REQ_LINK_TEST, R486: Request KIND 0x06 queues a field link full test. -/
  | proofReqLinkTest (w : Writer) (side : BitVec 2) (target : BitVec 16)
  /-- PROOF_REQ_HOLDUP, R486: Request KIND 0x07 queues a hold-up measurement. -/
  | proofReqHoldup (w : Writer) (side : BitVec 2) (target : BitVec 16)
  /-- PROOF_REQ_CLEAR_PULSE, R486: Request KIND 0x08 queues clearing bit 29 for a channel. -/
  | proofReqClearPulse (w : Writer) (side : BitVec 2) (target : BitVec 16)
  /-- PROOF_REQUEST_RUN, R487: A queued request runs and completes with its RESULT. -/
  | proofRequestRun (found : ProofFinding)
  /-- CAN_ENABLE, R500: Setting CANn.CTRL.EN checks bit timing and starts the controller or refuses. -/
  | canEnable (w : Writer) (ctrl : Fin 8) (value : W32)
  /-- CAN_FRAME_RECEIVE, R509: A CAN frame passing the protocol checks is delivered to an object or staged. -/
  | canFrameReceive (ctrl : Fin 8) (frame : CanFrame) (stamps : Stamps)
  /-- CAN_FRAME_POST, R510: A staged CAN frame is posted at its release boundary with the holder's time stamps. -/
  | canFramePost (ctrl : Fin 8)
  /-- CAN_STAGING_DISCARD, R510: A non-holder staged frame unclaimed for 1 ms is discarded. -/
  | canStagingDiscard (ctrl : Fin 8)
  /-- CAN_POST, R513: OCMD POST makes a transmit object PENDING. -/
  | canPost (ctrl : Fin 8) (obj : Fin 128)
  /-- CAN_ABORT, R514: OCMD ABORT ends a pending transmission. -/
  | canAbort (ctrl : Fin 8) (obj : Fin 128)
  /-- CAN_RELEASE, R509: OCMD RELEASE returns a POSTED receive object to EMPTY. -/
  | canRelease (ctrl : Fin 8) (obj : Fin 128)
  /-- CAN_OBJECT_DISABLE, R514: Writing OCFG.EN 0 disables an object, incrementing GEN. -/
  | canObjectDisable (ctrl : Fin 8) (obj : Fin 128)
  /-- CAN_TRANSMIT_START, R513: At a chance to start a frame the controller offers the pending frame of lowest identifier. -/
  | canTransmitStart (ctrl : Fin 8)
  /-- CAN_TRANSMIT_COMPLETE, R513: A frame is sent successfully and its object becomes DONE with time stamps. -/
  | canTransmitComplete (ctrl : Fin 8) (stamps : Stamps) (delay : BitVec 7)
  /-- CAN_ERROR_FRAME, R499: A protocol error discards the frame and updates error counters and state. -/
  | canErrorFrame (ctrl : Fin 8) (error : CanError) (sending worse : Bool)
  /-- CAN_BUS_OFF, R516: The transmit error counter exceeds 255 and pending objects are dropped. -/
  | canBusOff (ctrl : Fin 8)
  /-- CAN_BUS_OFF_RECOVERY, R516: Bus-off recovery completes after 128 idle sequences. -/
  | canBusOffRecovery (ctrl : Fin 8)
  /-- CAN_BUS_STUCK, R499: The bus dominant for more than 32 bit times sets STUCK. -/
  | canBusStuck (ctrl : Fin 8)
  /-- CAN_TRANSMIT_DOMINANT_TIMEOUT, R499: The transceiver releases the bus after driving dominant for 4 ms. -/
  | canTransmitDominantTimeout (ctrl : Fin 8)
  /-- CAN_RECEIVE_TIMEOUT, R512: A receive object without delivery for RXTMO ms sets TMO. -/
  | canReceiveTimeout (ctrl : Fin 8) (obj : Fin 128)
  /-- ETH_LINK_CHANGE, R525: A port's link state held 10 ms changes LINK. -/
  | ethLinkChange (sw : Fin 2) (port : Fin 2) (speed : BitVec 2)
  /-- ETH_FRAME_RECEIVE, R526: A frame received at a port is checked, learnt, forwarded and offered to the host. -/
  | ethFrameReceive (sw : Fin 2) (port : Fin 2) (bytes : List Byte) (fcsOk : Bool) (qfull : BitVec 3) (residence : W32) (stamps : Stamps)
  /-- ETH_RECEIVE_RELEASE, R540: At the release boundary a receive descriptor is completed with the holder's data. -/
  | ethReceiveRelease (sw : Fin 2)
  /-- ETH_STAGING_DISCARD, R540: A non-holder staged frame unclaimed for 1 ms is discarded. -/
  | ethStagingDiscard (sw : Fin 2)
  /-- MAC_AGE_OUT, R526: A learnt address without frames for 300 s is aged out. -/
  | macAgeOut (sw : Fin 2) (address : BitVec 48)
  /-- DD_ENTRY_AGE, R536: A discard entry without frames for AGE ms is freed. -/
  | ddEntryAge (pair : Fin 4096)
  /-- RING_TAIL_WRITE, R537: A write of RTAIL hands descriptors to the DMA and restarts a stopped ring. -/
  | ringTailWrite (w : Writer) (sw : Fin 2) (ring : Fin 16) (value : W32)
  /-- ETH_TRANSMIT_COMPLETE, R538: A transmit descriptor completes once its copies have left. -/
  | ethTransmitComplete (sw : Fin 2) (ring : Fin 8) (stamps : Stamps)
  /-- DC_INC_WRITE, R549: A write of DCn_INC_LO sets INC from the next tick, clamped. -/
  | dcIncWrite (w : Writer) (n : Fin 2) (value : W32)
  /-- DC_SLEW, R549: A write of DCn_SLEW adds to PEND. -/
  | dcSlew (w : Writer) (n : Fin 2) (value : W32)
  /-- DC_SET, R549: A write of DCn_SET_LO steps the domain clock at the next tick. -/
  | dcSet (w : Writer) (n : Fin 2) (value : W32)
  /-- DC_KICK, R550: A write of DC_KICK restarts a servo watchdog. -/
  | dcKick (w : Writer) (value : W32)
  /-- SERVO_WATCHDOG_EXPIRY, R550: A servo watchdog runs WD × 10 ms without restart and the clock enters HOLDOVER. -/
  | servoWatchdogExpiry (n : Fin 2)
  /-- OTS_SOURCE_SWITCH, R553: A write of SRC, or the automatic switch, changes the OTS source at the next tick. -/
  | otsSourceSwitch (w : Writer) (value : W32)
  /-- OTS_STEP, R552: A difference above STEP_LIM steps OTS to its source. -/
  | otsStep
  /-- OTS_ABSORB_COMPLETE, R552: Absorption of a difference ends and SLEWING clears. -/
  | otsAbsorbComplete
  /-- DOM_CFG_WRITE, R556: A write of DOM_CFGn configures a domain, refusing duplicate NUM and SDO. -/
  | domCfgWrite (w : Writer) (n : Fin 2) (value : W32)
  /-- TSF_POP, R556: A write of TSFn_POP removes the oldest time-stamp record. -/
  | tsfPop (w : Writer) (n : Fin 2) (value : W32)
  /-- PDELAY_REQ_SEND, R560: Every 2^LOGINT s a port sends a Pdelay_Req, invalidating the delay after 3 unanswered. -/
  | pdelayReqSend (port : Fin 4)
  /-- TIME_SERVICE_SYNC, R551: The time service computes a domain clock offset from Sync and steers it. -/
  | timeServiceSync (n : Fin 2) (offset rate : W64)
  /-- ANNOUNCE_TIMEOUT, R551: The master's announceReceiptTimeout expires and the clock enters HOLDOVER. -/
  | announceTimeout (n : Fin 2)
  /-- TPO_PULSE, R563: TPO rises as OTS passes a whole second. -/
  | tpoPulse
  /-- TPO_PULSE_END, R563: TPO falls WIDTH µs after rising. -/
  | tpoPulseEnd
  /-- TPI_CAPTURE, R564: A selected TPI edge latches LTB, OTS, DC0 and DC1. -/
  | tpiCapture (edge : TpiEdge)
  /-- TPI_LOST, R565: No TPI edge for 2 s sets TPI_STAT.LOST. -/
  | tpiLost
  /-- TPI_POP, R564: A write of TPI_POP removes the oldest TPI record. -/
  | tpiPop (w : Writer) (value : W32)
  /-- TIME_LO_READ, R567: A read of LTB_LO, DCn_LO or OTS_LO latches the high word for that master. -/
  | timeLoRead (m : Master) (which : Timebase)
  /-- OSCILLATOR_STOPPED, R571: Four missing crystal cycles set OSF. -/
  | oscillatorStopped
  /-- RTC_FREQ_WINDOW, R572: A 32 s window compares the crystal with CLK_NET. -/
  | rtcFreqWindow (ppm : BitVec 16)
  /-- CELL_MEASUREMENT, R572: Each second the backup cell is measured and its state updated. -/
  | cellMeasurement (mv : BitVec 16)
  /-- CELL_MONFAULT, R572: No cell reading for 3 s puts the cell in MONFAULT. -/
  | cellMonfault
  /-- RTC_TIME0_READ, R573: A read of RTC.TIME0 copies all time registers into the master's shadow. -/
  | rtcTime0Read (m : Master)
  /-- RTC_SHADOW_EXPIRY, R573: A shadow ends 5.005 ms after it was taken. -/
  | rtcShadowExpiry (m : Master)
  /-- RTC_SET, R574: A keyed write of RTC.SET GO commits the staged time or refuses it. -/
  | rtcSet (w : Writer) (value : W32)
  /-- RTC_SET_FROM_OTS, R575: The runtime sets the RTC from a LOCKED OTS when OSF is 1. -/
  | rtcSetFromOts (utcOffset : BitVec 16)
  /-- BACKUP_RECORD_CLEAR, R576: A write of BKSW3.CLR clears the backup switch-over record. -/
  | backupRecordClear (w : Writer) (value : W32)
  /-- AON_BACKUP_SWITCH, R570: Loss of the logic supply switches AON to its backup and records the switch-over. -/
  | aonBackupSwitch
  /-- AON_BACKUP_EXHAUSTED, R570: Cell and supercapacitor exhausted, AON stops. -/
  | aonBackupExhausted
  /-- AON_POWER_ON, R571: Supply reaching a stopped AON gives an AON power-on, setting Kept fields and OSF. -/
  | aonPowerOn
  /-- LOGIC_SUPPLY_RETURN, R624: A feed above 18.0 V for 10 ms ends OFF, returning to SAVE or starting from POR. -/
  | logicSupplyReturn
  /-- PANEL_START, R590: Writing DISP.CTRL.EN 1 starts raising the panel rails. -/
  | panelStart (w : Writer)
  /-- PANEL_RAIL_READY, R590: A rail reaches 95 % and the next rail starts rising. -/
  | panelRailReady
  /-- PANEL_RAIL_FAULT, R590: A rail not at 95 % within 5 ms sets RAIL_ERR and returns the panel to OFF. -/
  | panelRailFault
  /-- PANEL_ON, R590: After two blank display frames the panel shows its page. -/
  | panelOn
  /-- PANEL_STOP, R591: Writing DISP.CTRL.EN 0 stops the panel in order. -/
  | panelStop (w : Writer)
  /-- PANEL_FLIP, R589: A write of FLIP.GO sets FLIP_PEND. -/
  | panelFlip (w : Writer) (value : W32)
  /-- FLIP_EFFECT, R589: At the next display frame boundary the shown page changes. -/
  | flipEffect
  /-- CRACK_TEST, R592: Every 100 ms the glass loop is tested and CRACK set or cleared. -/
  | crackTest (ohm : W32)
  /-- LAMP_TEST, R595: A keyed write of LAMPTEST GO lights every icon and segment. -/
  | lampTest (w : Writer) (value : W32)
  /-- LAMP_TEST_END, R595: The lamp test ends after 2 s. -/
  | lampTestEnd
  /-- PATTERN_STEP, R597: An annunciator pattern step of STEP × 10 ms ends and the next begins. -/
  | patternStep (an : Fin 16)
  /-- BRIDGE_TEMPERATURE, R598: The bridge temperature mean crosses a limit and the level is limited, cut or restored. -/
  | bridgeTemperature (an : Fin 16) (temp : Option (BitVec 16))
  /-- LINE_PROBE, R599: Every 100 ms an idle annunciator line is probed for open or short. -/
  | lineProbe (an : Fin 16) (mohm : W32)
  /-- OVERCURRENT_TRIP, R600: A bridge current above 2.0 A peak switches the channel off, latching SHORT on the fourth trip. -/
  | overcurrentTrip (an : Fin 16)
  /-- ANNUNCIATOR_RESTART, R600: 100 ms after a trip the bridge restarts if still commanded. -/
  | annunciatorRestart (an : Fin 16)
  /-- TRIP_COUNT_CLEAR, R600: After 10 s of sounding without a trip the trip count clears. -/
  | tripCountClear (an : Fin 16)
  /-- CHALLENGE_READ, R620: A read of SEC.CHAL0 draws a fresh challenge. -/
  | challengeRead (m : Master)
  /-- AUTH, R620: A keyed write of SEC.AUTH GO starts verification of the response. -/
  | auth (w : Writer) (value : W32)
  /-- AUTH_RESULT, R620: Verification completes, granting a debug level or a lifecycle transition, or refusing. -/
  | authResult (sigOk : Bool)
  /-- DEBUG_LEVEL_REQUEST, R620: In BLANK a write of DBG.DLEVEL.REQ grants a level without token. -/
  | debugLevelRequest (w : Writer) (value : W32)
  /-- DEBUG_LEVEL_EXPIRY, R622: A grant's duration ends and the level drops to NONE. -/
  | debugLevelExpiry
  /-- DEBUG_DROP, R622: A write of DBG.DROP drops the level to NONE. -/
  | debugDrop (w : Writer) (value : W32)
  /-- DBGREQ, R627: A keyed write of DBG.DBGREQ resets a core or the whole logic side at HALT or FULL. -/
  | dbgreq (w : Writer) (value : W32)
  /-- CORE_HALT, R631: A write of DBG.RUNCTL.HALT halts or resumes cores. -/
  | coreHalt (w : Writer) (value : W32)
  /-- CORE_STEP, R631: A write of DBG.RUNCTL.STEP makes a core retire one instruction and halt. -/
  | coreStep (w : Writer) (value : W32)
  /-- BREAKPOINT_HIT, R631: An enabled breakpoint address is reached and the core halts. -/
  | breakpointHit (bp : Fin 16)
  /-- DEBUG_COVER_OPEN, R629: The debug cover contact opens and is logged. -/
  | debugCoverOpen
  /-- LIFECYCLE_ADVANCE, R610: A keyed write of SEC.LCREQ advances PROVISIONED to IN SERVICE and asserts SWREQ. -/
  | lifecycleAdvance (w : Writer) (value : W32)
  /-- RETURNED_WIPE, R611: Entry to RETURNED wipes keys, MRAM regions and NOR before blowing the fuse. -/
  | returnedWipe
  /-- KEY_SLOT_PROGRAM, R630: KEYPROG OP program writes a customer key slot hash. -/
  | keySlotProgram (w : Writer) (value : W32)
  /-- KEY_SLOT_REVOKE, R630: KEYPROG OP revoke blows a slot's revoke fuse or refuses. -/
  | keySlotRevoke (w : Writer) (value : W32)
  /-- ROLLBACK_COMMIT, R616: A keyed write of SEC.RBCOMMIT raises the rollback counter or is refused. -/
  | rollbackCommit (w : Writer) (value : W32)
  /-- SESSION_OPEN, R617: A Slathe TLS session opens with rights from its certificate, or is refused. -/
  | sessionOpen (cert : SessionCert)
  /-- SESSION_COMMAND, R618: A session request is carried out by the holder within its rights, or refused. -/
  | sessionCommand (session : Fin 4) (req : SessionReq)
  /-- SESSION_IDLE_TIMEOUT, R618: A session without a record for 15 min is closed. -/
  | sessionIdleTimeout (session : Fin 4)
  /-- NOR_ERASE, R631: NCMD OP erase starts erasing a sector or is refused. -/
  | norErase (w : Writer) (value : W32)
  /-- NOR_ERASE_COMPLETE, R124: A sector erase completes and its marker is programmed ERASED. -/
  | norEraseComplete (bankB : Bool)
  /-- NOR_PROGRAM, R631: NCMD OP program starts programming a page from NBUF or is refused. -/
  | norProgram (w : Writer) (value : W32) (marginOk : Bool)
  /-- NOR_PROGRAM_COMPLETE, R631: A page program completes. -/
  | norProgramComplete
  /-- PSREQ_RUN, R624: PSREQ TARGET RUN takes the module from HOLD to RUN. -/
  | psreqRun (w : Writer) (key : BitVec 16)
  /-- PSREQ_HOLD, R624: PSREQ TARGET HOLD takes the module from RUN in STOP to HOLD. -/
  | psreqHold (w : Writer) (key : BitVec 16)
  /-- PSREQ_SAVE, R624: PSREQ TARGET SAVE takes the module to SAVE. -/
  | psreqSave (w : Writer) (key : BitVec 16)
  /-- TEST_SESSION_START, R636: SCMD START starts a Test Strip session or refuses it. -/
  | testSessionStart (w : Writer) (session : Fin 8)
  /-- TEST_SESSION_STOP, R636: SCMD STOP ends a running session in DONE. -/
  | testSessionStop (w : Writer) (session : Fin 8) (bits : W64) (errors : W32)
  /-- TEST_SESSION_DONE, R636: A session ends in DONE after DUR seconds. -/
  | testSessionDone (session : Fin 8)
  /-- TEST_SECOND, R635: A checker second ends and is counted errored or error-free. -/
  | testSecond (target : CheckTarget) (bits : W64) (errors : W32)
  /-- EXTEST, R642: TAP instruction EXTEST drives the boundary register. -/
  | extest (cells : BitVec 120)
  /-- SAMPLE_PRELOAD, R642: TAP instruction SAMPLE/PRELOAD samples or loads the boundary register. -/
  | samplePreload (cells : BitVec 120)
  /-- IDCODE, R642: TAP instruction IDCODE returns 0x2580_838F. -/
  | idcode
  /-- CLAMP, R642: TAP instruction CLAMP holds pins from the boundary register. -/
  | clamp
  /-- HIGHZ, R642: TAP instruction HIGHZ turns every output driver off. -/
  | highz
  /-- DAPACC, R619: TAP instruction DAPACC performs a 32-bit access as master 0x08. -/
  | dapacc (op : BitVec 2) (addr : W64) (data : W32)
  /-- FUSEPROG, R643: TAP instruction FUSEPROG blows or margin-reads one fuse. -/
  | fuseprog (dr : BitVec 16) (marginOk : Bool)
  /-- FUSE_BLOW_COMPLETE, R643: A fuse blow completes after 1 ms and is read at margin. -/
  | fuseBlowComplete (marginOk : Bool)
  /-- FUSEREAD, R643: TAP instruction FUSEREAD reports the fuse operation result. -/
  | fuseread
  /-- BYPASS, R642: TAP instruction BYPASS selects the 1-bit bypass register. -/
  | bypass
  /-- UNASSIGNED_ENCODING, R200: A core fetches and issues an encoding that selects no instruction, raising ILLEGAL with no other effect. -/
  | unassignedEncoding (c : CoreId) (word : W32)
  /-- FGC_HELD_IN_RESET, R73: A field group supply falls below 14.0 V and the FGC enters its own power-on reset, switching every output stage off and falling silent. -/
  | fgcHeldInReset (group : Fin 57)
  /-- FIELD_DOMAIN_STAGES_READY, R86: The stages of a field domain finish powering up (1 ms to 50 ms by group kind), or finish powering down within 1 ms, and the FGC then reports ON or OFF. -/
  | fieldDomainStagesReady (group : Fin 57)
  /-- DISPLAY_FRAME_BOUNDARY, R588: A display frame ends: the waveforms invert, a pending write to the shown page or a DCFG change takes effect, and the blank frames of start and stop are counted. -/
  | displayFrameBoundary
  /-- PANEL_STOP_COMPLETE, R591: After the blank display frame and the orderly fall of V3, V2 and V1, the panel leaves PHASE STOPPING for OFF. -/
  | panelStopComplete
  /-- SUPERCAPACITOR_FULL, R570: After 60 s of logic supply the backup supercapacitor is full and RTC_STAT.SCAP_FULL is set. -/
  | supercapacitorFull
  /-- TWIN_CELL_DISCARDED, R455: A twin lane receives a cell that is partial, oversize, of unknown type or fails its CRC; it is counted in LANE_CNTk, and a mirror or control cell is sent again on the other lane or twin sync ends. -/
  | twinCellDiscarded (lane : Fin 2) (fault : CellFault) (mirrorOrControl : Bool)
  /-- BLOCK_LOCK_CHANGE, R455: A twin lane gains block lock after 64 valid sync headers, or loses it after 16 invalid headers in any 64, updating LANE_STAT.LOCKk. -/
  | blockLockChange (lane : Fin 2) (locked : Bool)
  /-- CHECKER_SYNC_CHANGE, R635: A Test Strip or idle-slot checker gains sync after 64 error-free comparisons, or loses it after 64 errors within 1 000, incrementing LOSSYNC and logging cause 0x05. -/
  | checkerSyncChange (target : CheckTarget) (sync : Bool)
  /-- CAN_BUS_INTEGRATED, R499: After enable or after an error, the controller sees 11 consecutive recessive bits and leaves the integrating state to take part on the bus. -/
  | canBusIntegrated (ctrl : Fin 8)
deriving DecidableEq, Repr

end Sys2Proof
end

