-- ==== Sys2Proof/Config.lean ====
section
/-! DEFINITION. What an implementation fixes and the spec does not, and the free values: constants without a body, so that no
proof can see what they are. -/

namespace Sys2Proof.Config

/-- A value that the spec leaves open, drawn with the counter `State.free` (log entry 3). Safe: nothing constrains it. -/
opaque freeValue : Nat → W64

/-- Where in program memory, in words, the runtime's call of a function block returns to (R235, R241). DEDUCED: log entry 137. -/
opaque runtimeReturn : BitVec 28

/-- The contents of the boot ROM, by byte (R140; the spec gives its behaviour in R121 to R128, not its bytes; log entry 8). -/
opaque bootRom : Nat → Byte

/-- What a TPM word, and a byte of program memory or of capture memory, reads as after its contents were lost
and before it is written: by the number of the loss and the place (R106, R174; log entry 9). -/
opaque lostWord : Nat → Nat → W64
opaque lostTag : Nat → Nat → Tag
opaque lostByte : Nat → Nat → Byte

/-- Whether a floating-point result is found to be tiny before rounding, and whether ∞ × 0 + a quiet NaN raises invalid: the
choices that IEEE 754-2019 leaves and R208 does not make. DESIGN CHOICE: log entry 36. -/
opaque tinyBeforeRounding : Bool
opaque fmaNanInvalid : Bool

/-- Which of the two binary64 values beside the exact one a function of R317, R319 and R320 gives: by the function and the lower of them.
DESIGN CHOICE: log entry 55. -/
opaque lastPlace : Nat → W64 → Bool

/-- G2MAG and PHI2 of R319 where a sample of the window is not finite. DESIGN CHOICE: log entry 55. -/
opaque dftOpen : List (W64 × W64) → W64 × W64

/-- The segments with which software shows a character, by its ASCII code: the module has no character generator (R587, R593). -/
opaque glyph : Nat → BitVec 16

/-- The words of a panel page that shows a text of the boot ROM: 0 NO IMAGE, 1 SCRAPPED, 2 WIPE, 3 TEST MODE (R593, R611, R615, R641). -/
opaque bootText : Nat → Nat → W32

/-- The portIdentity that is formed from a switch's module address, by that address and the port, and the bytes of a Pdelay_Resp over UDP before its
PTP message, by the module address and those of the request (R560). DESIGN CHOICE: log entry 147. -/
opaque portIdentity : Nat → Nat → BitVec 80
opaque udpHead : Nat → List Byte → List Byte

/-- The cause and the severity of the record of the level seen at TMODE, which the spec does not give (R48). DESIGN CHOICE: log entry 122. -/
opaque tmodeCause : Byte
opaque tmodeSev : BitVec 2

end Sys2Proof.Config
end

