-- ==== Sys2Proof/Machine/State.lean ====
section
/-! DEFINITION. The state of the block: one PS-8 station module. Every piece of state the spec names stands here: the
registers of all pages in `regs` (spec/06, R140 to R145; the map is Machine/RegMap.lean), everything else in one small
structure per chapter. A sparse map is a list of (key, value) pairs with strictly rising keys in which no entry holds
what an unlisted key reads as (Machine/Ops.lean, `Sparse.wf`). -/

namespace Sys2Proof.Machine

/-- A map that is sparse: only the keys that differ from the map's default are listed, keys strictly rising. -/
abbrev Sparse (α : Type) := List (Nat × α)

/-- The response of an access to the fabric (R141). -/
inductive Resp where
  | okay | errDecode | errSize | errIsolated | errPriv | errEcc | errTag
deriving DecidableEq, Repr

/-- What the last access that a master made from outside the cores got back (R141). -/
structure BusResult where
  resp : Resp := .okay
  data : W64 := 0
  tag : Tag := 0
deriving DecidableEq, Repr

/-- An event waiting for the logger, or kept in AON for it: the fields of the record of R160. -/
structure LogRec where
  ots : W64
  ltb : W64
  data : W64
  code : W32
  role : Byte
  sev : Byte
deriving DecidableEq, Repr

/-- The event logger (R162 to R164). -/
structure LogState where
  /-- Events waiting, oldest first; at most 64. -/
  queue : List LogRec := []
  /-- Events dropped since the last record of cause 0xF4. -/
  drops : Nat := 0
  /-- Each master's copy of EVLOG_PDATA0, EVLOG_PDATA1 and EVLOG_PSEV, by master number (R164). -/
  pdata0 : Sparse W32 := []
  pdata1 : Sparse W32 := []
  psev : Sparse W32 := []
deriving DecidableEq, Repr

/-- The lock of one page while it is armed: the arming master and the tag of its write (R152, R159). -/
structure Armed where
  master : Nat
  tag : Tag
deriving DecidableEq, Repr

/-- One logic feed, or the hold-up bus, as its comparator, clamp and converter see it (R66). -/
structure FeedState where
  tripped : Bool := false
  clamped : Bool := false
  monFault : Bool := false
  band : BandState := .ok
deriving DecidableEq, Repr

/-- Supplies, power domains and power states (spec/03, spec/24). -/
structure PwrState where
  feedA : FeedState := {}
  feedB : FeedState := {}
  hold : FeedState := {}
  /-- Requests held during a transition, by domain (R85): 1 on, 2 off, 3 forced off. -/
  held : Sparse Nat := []
  /-- Field domain requests held until the FGC reports the state, by domain (R86): 1 on, 2 off. -/
  fieldReq : Sparse Nat := []
  /-- Domains whose controller has a frame on the wire (R82, R83): PD08 to PD17. -/
  onWire : List Nat := []
  /-- RUN, HOLD, SAVE or OFF (R623). -/
  power : PowerState := .run
  /-- The domains that HOLD switched off and RUN brings back (R624). -/
  holdOff : List Nat := []
  /-- The LTB at which the brown-out that holds was declared (R134). -/
  brownAt : Option W64 := none
deriving DecidableEq, Repr

/-- How far the release of a whole-logic reset has come (R111, R112). -/
inductive RstPhase where
  /-- No reset is asserted; the logic side runs. -/
  | running
  /-- A whole-logic reset is asserted, and its cause may still hold. -/
  | asserted
  /-- The cause has ended; release waits for the PLL (POR, BOR and CLKFAIL). -/
  | waitPll
  /-- SYS and the memory controllers are released; ECORE0 waits for DRAM. -/
  | sysReleased
deriving DecidableEq, Repr

/-- The reset controller, the clock monitor and the system watchdog (spec/04). -/
structure RstState where
  phase : RstPhase := .running
  /-- Sources whose cause still holds, by LAST's encoding (R102): 1 BOR, 2 PIN, 6 CLKFAIL. -/
  causes : List Nat := []
  /-- The reset that is asserted or released needs the release of R111 (POR, BOR, CLKFAIL), not that of R112. -/
  cold : Bool := false
  /-- The reset was caused by an early kick (R114, R162). -/
  early : Bool := false
  /-- DATA of the reset's own record (R181). -/
  recData : W64 := 0
  /-- The debug level was above NONE when the reset was asserted (R622). -/
  droppedLevel : Bool := false
  /-- The latest window was out of range (R98). -/
  badWindow : Bool := false
  /-- The stay in reset after the eighth CLKFAIL (R100). -/
  cfStay : Bool := false
  /-- The LTB at which 0x0000_A5C3 was last written, while its 64-cycle window may be open (R104). -/
  kickOpen : Option W64 := none
  /-- In-range windows in a row since the reset was asserted, counted up to 10 (R111). -/
  goodWindows : Nat := 0
  /-- Milliseconds since the last kick, release or enable of the system watchdog (R104). -/
  sinceKick : Nat := 0
  /-- Pages whose running block reset is a forced one (R117). -/
  forced : List Nat := []
  /-- TMODE was high at release in lifecycle BLANK: production test mode (R48). -/
  production : Bool := false
deriving DecidableEq, Repr

/-- The carrier interface (spec/02) and the locks of the pages (R152). -/
structure CarrierState where
  /-- Armed locks, by page (R152). -/
  armed : Sparse (Option Armed) := []
  /-- Consecutive abandoned attempts at one transaction of the identification record, which one it is, and consecutive abandoned
  transactions of the sensor (R43, R44). -/
  cidFails : Nat := 0
  cidTrans : Nat := 0
  tempFails : Nat := 0
  /-- The identification record disagrees with the side code (R43, R126). -/
  mismatch : Bool := false
  /-- Consecutive invalid CLMI periods (R34). -/
  clmiBad : Nat := 0
  /-- BHX and BHY of this module (R62, R444). -/
  bhx : Bool := false
  bhy : Bool := false
  /-- The LTB at which CLMO began to run; none while it shows no edges (R37). -/
  clmo : Option W64 := none
  /-- Bit k: lane k of the twin link runs through the optical media adapter (R478). -/
  opt : BitVec 2 := 0
deriving DecidableEq, Repr

/-- A command in a core's queue to the loop engine (R188): an LXW, an LXR or an LXF. -/
inductive LxCmd where
  | write (addr : W64) (word : TWord)
  | read (addr : W64) (dest : GReg)
  | fix (addr : W64) (opt : BitVec 2)
deriving DecidableEq, Repr

/-- What a core holds beside its ECORE page (spec/07). DESIGN CHOICE: log entry 11. -/
structure Core where
  pc : W64 := 0
  /-- G1 to G31; G0 is never listed (R169). -/
  g : Sparse TWord := []
  /-- The command queue to the loop engine, oldest first; at most 16 (R188). -/
  lxq : List LxCmd := []
  /-- WDOG and OVERRUN wait to be taken (R181). -/
  wdogPend : Bool := false
  overrunPend : Bool := false
  /-- Lines of program memory, 64 bytes each, stored to since the core's L1 instruction cache was last invalidated
  (R167): the cache may hold older contents of them. -/
  stale : List Nat := []
  /-- Where the runtime's handler returns to in place of EPC: the cycle that it goes on with (R246). -/
  nextPc : Option W64 := none
  /-- In reset: a core reset is asserted (R113). -/
  inReset : Bool := false
deriving DecidableEq, Repr

/-- The memories of spec/06 (R140): TPM by word, the rest by byte. Boot ROM contents are `Config.bootRom`. An unlisted word of
TPM and an unlisted byte of program memory read as the fill: none where the contents are lost (R106), and then as a free value
of that loss, numbered by `tpmLost`, `pmLost` and `capLost`. -/
structure MemState where
  tpm : Sparse (Option TWord) := []
  tpmFill : Option TWord := none
  pm : Sparse (Option Byte) := []
  mram : Sparse Byte := []
  nor : Sparse Byte := []
  cap : Sparse (Option Byte) := []
  /-- CAN message memory: controller × 0x4000 + offset; an unlisted byte reads 0 (R520). -/
  can : Sparse Byte := []
  /-- Losses of contents so far: of TPM, of program memory, of capture memory. -/
  tpmLost : Nat := 0
  pmLost : Nat := 0
  capLost : Nat := 0
  /-- Words and units whose check bits are in error: 1 correctable, 2 uncorrectable (R176, R195, R578). -/
  tpmErr : Sparse Nat := []
  pmErr : Sparse Nat := []
  mramErr : Sparse Nat := []
  /-- Lines of 64 bytes with a check error in the caches that the next read of them meets, by address divided by 64: 1 parity of an L1
  instruction line, 2 correctable, 3 uncorrectable in L1 data, 4 in a clean and 5 in a dirty line of L2 (R165, R168). -/
  cacheErr : Sparse Nat := []
  /-- Lines of program memory stored to that L2 may not have written back (R165, R167, R168). -/
  dirty : List Nat := []
deriving DecidableEq, Repr

/-- An entry of a trigger queue (R232). -/
structure Trig where
  kind : Nat
  id : W32
  ots : W64
  /-- Queued before this boundary (R229). -/
  frame : Nat
deriving DecidableEq, Repr

/-- What a task holds beside its blocks in TPM (spec/09). -/
structure TaskState where
  active : Bool := false
  /-- Its cycle has started (R235). -/
  started : Bool := false
  stopped : Bool := false
  skipNext : Bool := false
  /-- The latest release was skipped, and the one before the cycle that is released was (R236). -/
  skipped : Bool := false
  skipHdr : Bool := false
  /-- This cycle has already overrun (R245). -/
  overran : Bool := false
  /-- The non-holder found this cycle late at a boundary, of which the holder has said nothing yet (R248). -/
  lateAt : Option W64 := none
  /-- Calls of FB_LIST that the runtime has made in the cycle (R235, R241). -/
  calls : Nat := 0
  relFrame : W64 := 0
  queue : List Trig := []
  trig : Option Trig := none
  ovrTotal : Nat := 0
  ovrConsec : Nat := 0
  cycle : W64 := 0
  prevTT : W64 := 0
  /-- STATUS.KIND and FIRST of the next cycle (R236, R250). -/
  kind : Nat := 0
  first : Bool := false
  /-- What it resumes with after a preemption: the budget left, its registers and its next instruction (R230, R231). -/
  savedBudget : Nat := 0
  savedG : Sparse TWord := []
  savedPc : W64 := 0
  /-- The bank published at the latest boundary (R238) and the working bank of the cycle (R235). -/
  published : Nat := 0
  working : Nat := 1
  /-- It has committed since the start (R131). -/
  committed : Bool := false
  /-- It waits for the joining module's copy of its data (R475). -/
  joining : Bool := false
  /-- SNAP_FRAME and TT, and APPLY, that the holder has sent for the next cycle and commit (R235, R240). -/
  holderStart : Option (W64 × W64) := none
  holderApply : Option W32 := none
deriving DecidableEq, Repr

/-- An orderly shut-down (R133). -/
inductive ShutStep where
  | none | switching | stopping
deriving DecidableEq, Repr

/-- Start-up, shut-down, the image and the tasks (spec/05, spec/09). -/
structure BootState where
  /-- What RUNTIME_INIT has read of the running image. -/
  image : Option ImageDesc := none
  /-- VERSION and DIGEST of the running image (R613). -/
  version : Nat := 0
  digest : BitVec 384 := 0
  /-- The peer wait of R126 runs. -/
  peerWait : Bool := false
  /-- The LTB at which the role was decided (R581). -/
  roleAt : Option W64 := none
  shut : ShutStep := .none
  /-- The module has spent 60 s in RUN (R129, R616). -/
  ran60 : Bool := false
  /-- Tasks and loops run. -/
  running : Bool := false
  /-- Tasks and loops start at the next boundary (R131). -/
  starting : Bool := false
  /-- The claim has been raised (R131). -/
  raised : Bool := false
  tasks : Sparse TaskState := []
  /-- The task that runs on each core (R230). -/
  onCore : Sparse (Option Nat) := []
  /-- The BACKGROUND task whose slice it is, by core (R230). -/
  slice : Sparse (Option Nat) := []
  ttBase : W64 := 0
  /-- A warm start: TT_REC and RTC_REC of the record, until tasks and loops start (R252). -/
  warm : Option (W64 × W64) := none
  /-- The retain record that is being written: the tasks whose part is still owed, and the words taken (R251). -/
  retain : Option (List Nat × Sparse (Option TWord)) := none
  /-- The sector whose erase is in progress in NOR bank A and B (R124), and the page whose program is, with its bytes (R631). -/
  eraseA : Option Nat := none
  eraseB : Option Nat := none
  prog : Option (Nat × List Byte) := none
  /-- Sectors verified blank since the last reset (R125), and sectors re-erased in ROM_SCAN (R614). -/
  blankOk : List Nat := []
  reerased : List Nat := []
deriving DecidableEq, Repr

/-- What a scheduled change of the claim is (R468 to R470). -/
inductive SwitchKind where
  | given | taken | faulted
deriving DecidableEq, Repr

/-- The station pair (spec/17). The roles and claims stand in CLAIM.OWN and CLAIM.PEER, the steps in TWIN.SYNC. -/
structure PairState where
  /-- The order code of the peer differs (R18, R456). -/
  otherOrder : Bool := false
  /-- From the peer's last heartbeat: role, loop frame index and CLK_FAB phase (R456). -/
  peerRole : Nat := 0
  peerFrame : W64 := 0
  peerPhase : Nat := 0
  /-- CLAIM has logged cause 0x05 and the role has not changed since (R594). -/
  split : Bool := false
  /-- The peer reports brown-out (R134, R477). -/
  peerBrownout : Bool := false
  /-- The next lane sequence number expected, by lane (R455). -/
  hbSeq0 : Option Byte := none
  hbSeq1 : Option Byte := none
  /-- The lane sequence number of the next heartbeat sent (R456). -/
  hbSend : Byte := 0
  /-- This module is STANDBY-READY (R452). -/
  ready : Bool := false
  /-- Lockstep has been lost since the peer last became STANDBY-READY, as the holder knows (R248, R452). -/
  lockLost : Bool := false
  /-- A planned switch-over is scheduled for the first field period at or after the boundary with this index (R468). -/
  sched : Option (W64 × SwitchKind) := none
  /-- A withdrawal waits for the next uncomposed field period (R470). -/
  withdraw : Bool := false
  /-- The module withdrew, and its claim carries role 0 (R470). -/
  withdrawn : Bool := false
  /-- The claim was taken at the peer loss and the verdict is open (R471). -/
  verdict : Bool := false
  /-- LTB at that loss, and whether the claim line has shown enough for the verdict: dead, or a valid period begun after the loss (R471). -/
  lostAt : W64 := 0
  verdictDue : Bool := false
  /-- The claim role of the next burst, where it is to change (R452, R466). -/
  nextRole : Option (BitVec 2) := none
  /-- Hashes by frame index: own and the peer's, until they are compared (R464). -/
  ownHash : Sparse (Option W64) := []
  peerHash : Sparse (Option W64) := []
  /-- The first frame whose hash is compared (R475). -/
  hashFrom : W64 := 0
  /-- The running CRC-64 of the frame now composed (R464). -/
  hashAcc : W64 := 0xFFFFFFFFFFFFFFFF
  /-- Consecutive frames with the offset within 12 ns (R459), and consecutive hash matches of Proof (R475). -/
  inTol : Nat := 0
  proofRun : Nat := 0
  /-- g_j of the join (R475). -/
  joinFrame : W64 := 0
  /-- This module sends a bulk transfer and marks the pages written (R475). -/
  marking : Bool := false
  /-- TPM pages of 4 KiB written since their transfer (R475). -/
  marked : List Nat := []
  /-- LTB times of the failed joins of the last 10 min (R476). -/
  joinFails : List W64 := []
  /-- The SYNCING module has taken the holder's frame index (R459). -/
  aligned : Bool := false
  /-- The running frame is made one CLK_FAB cycle longer (1) or shorter (2) (R458). -/
  stretch : Nat := 0
  /-- The join buffer: record words as the engine held them at g_j (R475), by loop × 256 + word. -/
  joinBuf : Sparse TWord := []
  /-- The join ring: the frame buffers of frames from g_j on, by frame − g_j, each by word (R475). -/
  joinRing : Sparse (Sparse TWord) := []
  /-- Receipts whose frame this module does not hold (R460). -/
  owed : List Receipt := []
  /-- The relayed bursts of the next period, by group slot (R461). -/
  relayNext : Sparse (Option (List Byte)) := []
  /-- Writes from outside that wait for their boundary: boundary, page, offset, value, and the master on the holder (R102, R460). -/
  mirrored : List (W64 × Nat × Nat × W32 × Master) := []
  /-- TPM words of the same kind: boundary, word, value. -/
  mirroredTpm : List (W64 × Nat × TWord) := []
  /-- Requests for field domains that wait for their boundary: boundary, page, REQ (R87). -/
  domReq : List (W64 × Nat × Nat) := []
  /-- Groups, by page, whose drive-select names the peer (R474): what MOVED and MOVED_X show. -/
  moved : List Nat := []
  /-- The groups whose input regions come from the peer (R474). -/
  fromPeer : List Nat := []
deriving DecidableEq, Repr

/-- A write to a loop record word, or a Fix command, that has landed and has not applied yet (R259, R299, R304). -/
structure LoopWrite where
  loop : Nat
  /-- The word; 256 stands for a Fix command, whose option is the value. -/
  word : Nat
  value : TWord
  /-- The boundary at which it applies. -/
  at_ : W64
  /-- An LXR shows it before it applies (R259); not so a command that arises on the holder alone (R306). -/
  shown : Bool := true
  /-- The master that issued it (R305). -/
  master : Nat
  /-- It waits for the holder's boundary (R305). -/
  waits : Bool := false
deriving DecidableEq, Repr

/-- A loop command of a task in lockstep (R305): a write of a word, or a Fix where `word` is none; the holder's with its boundary. -/
structure MirrorCmd where
  core : Nat
  loop : Nat
  word : Option Nat
  value : TWord := {}
  opt : Nat := 0
  at_ : W64 := 0
deriving DecidableEq, Repr

/-- The loop engine (spec/10, spec/11, spec/12). DESIGN CHOICE: log entry 7. -/
structure LoopState where
  /-- The core from whose queue the next command is taken, unless it is empty (R188). -/
  turn : Nat := 0
  /-- Loop record words as applied: loop × 256 + word (R258). -/
  words : Sparse TWord := []
  /-- Writes that have landed and wait for their boundary, in the order of acceptance (R259). -/
  pend : List LoopWrite := []
  /-- Loops whose next sample is the first since LOOP.CTRL.EN was set (R278). -/
  fresh : List Nat := []
  /-- Loops that have entered a tuning session in the running frame (R310). -/
  entered : List Nat := []
  /-- SUP_CMD.ACK has applied and acts at the next sample, by loop (R292). -/
  ack : List Nat := []
  /-- Loop words that a write applied to at the latest boundary, by loop × 256 + word (R278). -/
  written : List Nat := []
  /-- Running sessions, by loop (spec/12). -/
  tune : Sparse (Option TuneState) := []
  /-- Capture sessions: capture points passed since arm, the previous point's value and tag of the trigger signal, records left
  after the trigger, and a software trigger that waits (R325, R326), by session. -/
  capPoint : Sparse Nat := []
  capPrev : Sparse (Option TWord) := []
  /-- The place in the ring of the next record, by session (R326). -/
  capPlace : Sparse Nat := []
  capLeft : Sparse Nat := []
  capSoft : List Nat := []
  /-- In lockstep: own copies of commands and the holder's commands that wait for one another, in the order of acceptance (R305). -/
  own : List MirrorCmd := []
  held : List MirrorCmd := []
deriving DecidableEq, Repr
/-- A sub-stream at a field group controller (R346). -/
structure Stream where
  adm : Bool := false
  valid : Bool := false
  run : Nat := 0
  last : Nat := 0
  quiet : Nat := 0
deriving DecidableEq, Repr

/-- A digital channel at its controller (R332 to R339). -/
structure DgChan where
  /-- The raw state of the latest sample; none before the first (R332). -/
  raw : Option Bool := none
  /-- The band of the latest sample (R334). -/
  rawBand : Band := .opened
  /-- Samples in a row whose raw state has differed from the filtered state, or whose band has been one other than the filtered band. -/
  run : Nat := 0
  /-- The filtered state takes the next sample at once: after the power-on reset or a change of MODE (R333). -/
  first : Bool := true
  filtered : Bool := false
  /-- The filtered band; of the two INDET ranges the one of the latest sample that lay in either (R334). -/
  band : Band := .opened
  /-- The value of the last filtered OPEN or CLOSED band (R334). -/
  prev : Bool := false
  /-- The state commanded: the last obeyed command, a safe state or the state of the fuse map. -/
  want : Bool := false
  cmdTag : Tag := 0
  /-- The stage's switch is closed. -/
  on : Bool := false
  /-- Cut off: 0 no, 1 short, 2 overload or shed (R336). -/
  cut : Nat := 0
  shed : Bool := false
  latched : Bool := false
  /-- A report has shown the cut-off that latched the channel (R357). -/
  cutShown : Bool := false
  disagree : Bool := false
deriving DecidableEq, Repr

/-- A current-loop or temperature channel at its controller (R359 to R382). Currents are in nA, targets in µA. -/
structure AgChan where
  /-- The band of R365, 0 wire break to 6 overload; none before the first conversion. For a temperature channel, CODE. -/
  band : Option Nat := none
  val : BitVec 27 := 0
  limited : Bool := false
  /-- No report has carried the latest conversion yet (NEW). -/
  fresh : Bool := false
  current : Int := 0
  overload : Bool := false
  fault : Bool := false
  calFail : Bool := false
  opened : Bool := false
  disagree : Bool := false
  /-- The offset correction (R378) and the d of the latest visit. -/
  offset : Int := 0
  lastD : Int := 0
  /-- What an output is to carry: 0 with its source off or its regulator fully conducting. -/
  target : Nat := 0
  /-- What the stage regulates now in µA; 0 in the state of R59: source off, or regulator fully conducting (R59, R360, R361). -/
  stage : Nat := 0
  /-- Field periods left of the linear ramp of `stage` to `target` (R374). -/
  ramp : Nat := 0
  /-- Field periods left of the 2 ms after a change of command by more than 0.2 mA, in which nothing is compared (R371). -/
  window : Nat := 0
  /-- The source of an active input, or the excitation of a resistance thermometer, is on (R59, R359, R379). -/
  excited : Bool := false
deriving DecidableEq, Repr

/-- An entry of a counter channel's record queue (R397, R403). -/
structure CgRecord where
  latch : Bool
  num : Nat
  raw : Nat
deriving DecidableEq, Repr

/-- An input A or B of a counter channel (R392): the level of its latest sample and the one that the glitch filter passes, samples in a row
that differ from it, and samples since its latest edge. -/
structure CgInput where
  raw : Option Bool := none
  level : Option Bool := none
  run : Nat := 0
  since : Nat := 500
deriving DecidableEq, Repr

/-- A counter channel at its controller (R391 to R399). -/
structure CgChan where
  raw : W32 := 0
  inA : CgInput := {}
  inB : CgInput := {}
  /-- Overspeed or a phase error waits for its report; the latter is remembered. -/
  err : Bool := false
  phase : Bool := false
  /-- The input that has a fault: 1 A, 2 B, 3 Z (R392). -/
  inFault : Nat := 0
  /-- Rising edges counted and the time of the latest, in LTB ticks (R395). -/
  edges : Nat := 0
  edgeAt : W32 := 0
  queue : List CgRecord := []
  replaced : Nat := 0
  /-- SSI: CODE, the latest valid read and its number and instant, the next segment, skipped reads, the instant of the read in
  progress (R398, R399, R403). -/
  ssiCode : Nat := 0
  ssiVal : Nat := 0
  ssiNo : Nat := 0
  ssiAt : W64 := 0
  ssiSeg : Nat := 0
  skips : Nat := 0
  reading : Option W64 := none
deriving DecidableEq, Repr

/-- A counter channel at the logic end (R394 to R400). -/
structure CgEnd where
  started : Bool := false
  last20 : Nat := 0
  ext : W64 := 0
  offset : W64 := 0
  code3 : Bool := false
  code2 : Bool := false
  /-- A write of POSSETc waits for the next report (R415). -/
  posset : Option W32 := none
  /-- Running count of rising edges, time of the latest and of the one before in units of 2 ns, and (SAMPLE_T in those units, count,
  time) of earlier reports (R395). -/
  edges : Nat := 0
  edgeAt : W64 := 0
  edgePrev : W64 := 0
  history : List (W64 × Nat × W64) := []
  /-- Segments received of the read `segNo` (R403). -/
  segs : Sparse (Option Nat) := []
  segNo : Nat := 0
deriving DecidableEq, Repr

/-- An annunciator channel at its controller (R596 to R604). -/
structure AnChan where
  on : Bool := false
  sound : Nat := 0
  /-- Field periods since the pattern began (R597). -/
  phase : Nat := 0
  probe : Nat := 0
  probeNew : Nat := 0
  trips : Nat := 0
  tripped : Bool := false
  latched : Bool := false
  /-- 0 no limit, 1 limited, 2 off (R598), and the bridge temperature in 0.0625 °C; none with a failed sensor. -/
  therm : Nat := 0
  temp : Option Int := some 0
  /-- The channel it plays for (R601). -/
  playsFor : Option Nat := none
deriving DecidableEq, Repr

/-- A mailbox operation (R350). -/
structure MbOp where
  seq : Nat := 0
  op : Nat := 0
  addr : Nat := 0
  data : W32 := 0
deriving DecidableEq, Repr

/-- The logic end of a field link (R341 to R354, R361, R461). -/
structure LinkEnd where
  seq : Nat := 0
  mbSeq : Nat := 0
  /-- The next register of the mailbox cycle, and registers written since they were last sent (R350). -/
  cyc : Nat := 0
  dirty : List Nat := []
  /-- Bits of an unacknowledged clear, and its MB_SEQ once sent (R350). -/
  clr : Nat := 0
  clrSeq : Option Nat := none
  /-- Operations of Proof, Test Strip and production test that wait (R485, R639, R644). -/
  special : List MbOp := []
  /-- An AG operation whose data goes in the next burst (R384). -/
  half : Option MbOp := none
  /-- What the latest pulse test came to: MB_RES (R485). -/
  pulseRes : Option Nat := none
  /-- Operations sent, latest first, for R358's cause 0x17. -/
  sent : List MbOp := []
  /-- The burst composed for the next period (R461), the bursts of this period in slots 0 and 1, the report and the value burst on
  the wire. -/
  composed : Option (List Byte) := none
  wire0 : Option (List Byte) := none
  relay : Option (List Byte) := none
  wireRep : Option (List Byte) := none
  wireVal : Option (List Byte) := none
  /-- What the report on the wire carries of AFS-1 and AFS-2 (R74). -/
  wireFeeds : Nat × Nat := (0, 0)
  /-- Reports of this group are accepted: its supplies count (R74). -/
  reporting : Bool := false
  /-- The peer last reported this group's field domain ON (R335). -/
  peerDomOn : Bool := false
  /-- The peer's reports of this group are admitted there (R474). -/
  peerAdm : Bool := false
  rxRun : Nat := 0
  rxLast : Nat := 0
  rxOk : Bool := false
  /-- Periods since the last accepted report. -/
  missed : Nat := 0
  /-- A report has shown the local sub-stream admitted since EN was set (R354). -/
  shown : Bool := false
  timedOut : Bool := false
  /-- The latest values of the group region (R351). -/
  region : Sparse TWord := []
  /-- The accepted report of this period: its SEQ and extended SAMPLE_T (R386). -/
  rep : Option (Nat × W64) := none
  valDone : Bool := true
  vmissRun : Bool := false
  /-- Events 0x06 and 0x08 that wait for their channel's report (R357), by channel. -/
  waitCut : List Nat := []
  waitDis : List Nat := []
  /-- Channel states, GSTAT, FRESH and SPARE_BAD as last logged (R357). -/
  seenCodes : List Nat := []
  seenG : W32 := 0
  seenFresh : Bool := false
  seenBad : Bool := false
  /-- CALFAIL of the last admitted report, and the channels whose calibration failure is logged (R378, R390). -/
  seenFails : Option Nat := none
  seenCal : Nat := 0
  seenCj : Bool := false
  seenTherm : List Nat := []
  seenPlays : List Nat := []
  seenAck : Nat := 0
  fmapSeen : Nat := 0
  /-- Feed states of the last accepted report (R74). -/
  feed1 : Nat := 4
  feed2 : Nat := 4
  /-- Tables in use for outputs and whether one has passed (R367). -/
  tblUse : Sparse W32 := []
  tblOk : Nat := 0
  cg : Sparse CgEnd := []
deriving DecidableEq, Repr

/-- One field group: its controller beyond the barrier and its logic end (spec/13 to spec/15, spec/23). -/
structure GroupState where
  /-- The controller is held in its power-on reset (R73). -/
  held : Bool := false
  /-- It has received a first accepted local burst and sends reports (R345). -/
  started : Bool := false
  tied : Bool := false
  fresh : Bool := true
  own : Stream := {}
  peer : Stream := {}
  /-- 0 none, 1 local, 2 peer. -/
  holder : Nat := 0
  hclaim : Nat := 0
  silent : Nat := 0
  safe : Bool := false
  released : Bool := false
  /-- Consecutive periods without a burst in either slot (R348). -/
  empty : Nat := 0
  /-- Bursts accepted in this period. -/
  rx0 : Option (List Byte) := none
  rx1 : Option (List Byte) := none
  /-- Field domain: 0 OFF, 1 rising, 2 ON, 3 draining (R86). -/
  dom : Nat := 2
  /-- The domain has come on in this period: outputs follow from the next field frame (R86). -/
  domNew : Bool := false
  /-- A stream was admitted with a role other than 3, and no burst has been obeyed since (R132). -/
  starting : Bool := false
  /-- The differential terminations of a counter group are on (R60). -/
  term : Bool := false
  /-- Supply states of R72: the group's own, and of AFS-1 and AFS-2. -/
  sup : Nat := 0
  feed1 : Nat := 0
  feed2 : Nat := 0
  /-- The side that the obeyed burst names as driving, and this controller's own side (R375). -/
  named : Nat := 0
  side : Nat := 0
  peerAct : Bool := false
  /-- TIME of the period's local burst, extrapolated where there is none (R345). -/
  time : W32 := 0
  /-- CLK_FAB cycles from the start of this period to the next loop frame boundary, once a local burst has given LFPH (R364). -/
  lfph : Option Nat := none
  seq : Nat := 0
  lrej : Nat := 0
  prej : Nat := 0
  hchg : Nat := 0
  mbAck : Nat := 0
  mbRes : Nat := 0
  lastClear : Option Nat := none
  /-- The first half of an AG operation: its stream, SEQ and operation (R384). -/
  mbHalf : Option (Nat × Nat × MbOp) := none
  /-- The fuse operation of the previous local burst (R644). -/
  fuseAsk : Option (Nat × W32) := none
  /-- Field periods of loopback left (R639). -/
  loopback : Nat := 0
  /-- A pulse test that runs: its MB_SEQ, channel and length (R485). -/
  pulse : Option (Nat × Nat × Nat) := none
  /-- The latch commanded: LID (R402), and the latch carried out since the previous report. -/
  latch : Option Nat := none
  latched : Option Nat := none
  /-- Fuse map codes, and those in force since the last power-on reset (R349, R373). -/
  fuse : Sparse Nat := []
  map : Sparse Nat := []
  /-- Configuration received through the mailbox, by offset. -/
  cfg : Sparse W32 := []
  dg : Sparse DgChan := []
  ag : Sparse AgChan := []
  cg : Sparse CgChan := []
  an : Sparse AnChan := []
  /-- The spare converter (R377, R378). -/
  spareCh : Nat := 0
  spareNext : Nat := 0
  spareBusy : Bool := false
  spareBad : Bool := false
  calFails : Nat := 0
  /-- Tables being received: the next word of each, what has come, what is in use, which have passed and failed (R367, R596). -/
  tblNext : Sparse Nat := []
  tblBuf : Sparse W32 := []
  tblUse : Sparse W32 := []
  tblOk : Nat := 0
  tblBad : Nat := 0
  /-- The cold junction (R381). -/
  cjVal : W64 := 0
  cjFault : Bool := false
  cjFresh : Bool := false
  link : LinkEnd := {}
deriving DecidableEq, Repr

/-- A record of Shutter's FIFO (R408). -/
structure ShutRec where
  ots : W64
  ltb : W64
  word : W32
  count : W32
deriving DecidableEq, Repr

/-- A pending snapshot of Contact Sheet (R409 to R414). -/
structure Snapshot where
  slot : Nat
  id : Nat
  t : W64
  /-- LTB(T), once the latch has been commanded (R410). -/
  ltbT : Option W64 := none
  /-- OTS reached T: the domain, the boundary and the ROLE byte at T. -/
  domain : Nat := 0
  frame : W64 := 0
  domainChanged : Bool := false
  stepped : Bool := false
  /-- Group slots whose values have been taken, and whether the loops' have. -/
  taken : List Nat := []
  loops : Bool := false
  /-- Counter channels whose latch record has arrived. -/
  latched : List Nat := []
  /-- A latch record has been missed 200 µs after T (R414). -/
  partially : Bool := false
  /-- Words of the record taken so far, by their place in it. -/
  words : Sparse TWord := []
deriving DecidableEq, Repr

/-- Shutter and Contact Sheet (R406 to R414). -/
structure CapState where
  fifo : List ShutRec := []
  shutCount : W32 := 0
  /-- The LTB tick of a channel's latest captured edge, and channels whose next record is marked MISSED (R407). -/
  lastEdge : Sparse (Option W64) := []
  missed : List Nat := []
  /-- A capture has been dropped since the FIFO last had room (R408). -/
  dropping : Bool := false
  snaps : List Snapshot := []
deriving DecidableEq, Repr

/-- An event of a lane that its mirror page is to log: the bit of SAF_EVT, where there is one, and the record (R448, R449). -/
structure LaneEvent where
  bit : Option Nat := none
  cause : Option Nat := none
  chan : Nat := 0xFFF
  data : W64 := 0
deriving DecidableEq, Repr

/-- A cross-link frame (R420). -/
structure XFrame where
  st : Nat
  causes : Nat
  effects : Nat
  cmds : Nat
  id : Nat
  check : Nat
  lock : Bool
deriving DecidableEq, Repr

/-- A safety lane (spec/16). Vectors of causes, inputs, effects and outputs are numbers, bit i for number i. -/
structure LaneState where
  /-- STATE as R448 codes it: 0 STOPPED to 5 CONFIG. -/
  st : Nat := 0
  cycle : Nat := 0
  /-- Inputs: raw states, filtered states, pairs with a discrepancy, pairs both of whose inputs have since been de-energised (R425,
  R426). -/
  raw : Nat := 0
  filt : Nat := 0
  /-- The samples in a row that have differed from the filtered state, by input (R425). -/
  run : Sparse Nat := []
  disc : Nat := 0
  discLow : Nat := 0
  causes : Nat := 0
  /-- Active effects, effects held by their latch, and cycle starts for which a function has been true, by effect (R429). -/
  effects : Nat := 0
  latched : Nat := 0
  since : Sparse Nat := []
  /-- This lane's closed switches, and latched output faults (R430, R432). -/
  cmds : Nat := 0
  outFlt : Nat := 0
  rbIn : Nat := 0
  rbMid : Nat := 0
  rbOut : Nat := 0
  /-- SFS as the lane finds it: 0 OK, 1 LOW, 2 LOST, 3 HIGH (R428). -/
  sfs : Nat := 0
  /-- SFS has been HIGH in TAKEUP and not OK since (R444). -/
  halted : Bool := false
  bh : Bool := false
  /-- The latest frame of the other lane, frames missed and out of period in a row (R420), and cycles in a row in which the lanes have
  differed (R435). -/
  rx : Option XFrame := none
  xok : Bool := false
  missed : Nat := 0
  offPeriod : Nat := 0
  causeDiff : Nat := 0
  effectDiff : Nat := 0
  idDiff : Nat := 0
  /-- Inputs whose latest coupler test failed (R427). -/
  failing : List Nat := []
  couplerTests : Nat := 0
  switchTests : Nat := 0
  /-- LOCKOUT, its first fault and the lock-outs since manufacture, in the lane's own store (R435, R436). -/
  lockout : Bool := false
  code : Nat := 0
  detail : Nat := 0xFFFF
  lockCount : Nat := 0
  /-- The two banks of the lane's store: generation and image (R442). -/
  bank0 : Option (Nat × List Byte) := none
  bank1 : Option (Nat × List Byte) := none
  bank : Nat := 0
  table : List Byte := []
  /-- Bytes 0x10 to 0x1B of the half of the lock-out record that waits for MRAM (R437). -/
  record : Option (List Byte) := none
  /-- The press: both inputs energised, begun after the last change of the staged image, its length and class (R438). -/
  pressed : Bool := false
  pressFresh : Bool := false
  pressDur : Nat := 0
  pressRes : Nat := 0
  /-- A valid press in LOCKOUT has started the self-test (R439). -/
  testing : Bool := false
  /-- The staged copy and CFG_RES (R441, R442). -/
  staged : Option (List Byte) := none
  result : Nat := 0
  offset : Nat := 0xFFFF
  confirmed : Bool := false
  events : List LaneEvent := []
deriving DecidableEq, Repr


/-- A frame in a CAN controller's staging queue (R510): the object that accepts it, what a receiver sees of it, and, once they are known,
its release boundary and the time stamps to write. -/
structure StagedCan where
  obj : Nat
  frame : CanFrame
  stamps : Stamps
  release : Option W64
deriving DecidableEq, Repr

/-- A CAN controller beside its page and its message memory (spec/19). -/
structure CanState where
  /-- Bus-off recovery runs (R516). -/
  recovering : Bool := false
  /-- The transceiver has released the bus after 4 ms dominant (R499). -/
  released : Bool := false
  /-- Objects that are PENDING or ON_WIRE, in order of posting (R513). -/
  posts : List Nat := []
  /-- Held frames still to be offered in order of posting (R517). -/
  replay : List Nat := []
  /-- Objects ON_WIRE whose frame ends them by an abort or by a disable (R514). -/
  aborting : List Nat := []
  disabling : List Nat := []
  /-- Transmit objects of twin mode not posted since their enable (R518). -/
  unposted : List Nat := []
  /-- The next object of a receive chain to fill, by head (R509). -/
  fill : Sparse Nat := []
  /-- Heads and objects with an overrun since their RELEASE (R509) and with a run of stale frames (R519). -/
  overrun : List Nat := []
  staleRun : List Nat := []
  /-- The LTB time stamp of the last accepted frame since enable, in twin mode (R519). -/
  accepted : Sparse (Option W64) := []
  staging : List StagedCan := []
deriving DecidableEq, Repr

/-- A frame in a switch's staging area (R540): as buffered, with its header bytes, INFO and stamps, and its ring and release boundary once a
receipt gives them. -/
structure StagedEth where
  bytes : List Byte
  info : W32
  stamps : Stamps
  ring : Nat
  release : Option W64
deriving DecidableEq, Repr

/-- A descriptor that the DMA has taken and not completed (R537, R538). -/
structure TakenDesc where
  ring : Nat
  /-- The program-memory offset of the descriptor. -/
  place : Nat
  /-- The frame length of R537. -/
  len : Nat
deriving DecidableEq, Repr

/-- An Ethernet switch beside its page (spec/20). -/
structure EthState where
  /-- Learnt addresses and their ports (R526). -/
  table : Sparse (Option Nat) := []
  /-- Descriptors taken, in order of posting. -/
  taken : List TakenDesc := []
  /-- Runs whose first event has been logged: oversize by port, drops by receive ring, refused headers, stopped rings (transmit r, receive
  8 + r) (R528, R531, R537, R539). -/
  overRun : List Nat := []
  dropRun : List Nat := []
  headerRun : Bool := false
  stopRun : List Nat := []
  staging : List StagedEth := []
  /-- The frames that the latest reception sent on to external ports, by port. -/
  forwarded : List (Nat × List Byte) := []
deriving DecidableEq, Repr

/-- An entry of the discard table (R535). -/
structure DdEntry where
  epoch : Nat
  l : Nat
  /-- Bit i stands for sequence L − i. -/
  w : Nat
  cand : Option Nat := none
  staleRun : Bool := false
deriving DecidableEq, Repr

/-- The networks. -/
structure NetState where
  can : Sparse CanState := []
  ethA : EthState := {}
  ethB : EthState := {}
  /-- The discard table, by pair identifier (R534). -/
  dd : Sparse (Option DdEntry) := []
deriving DecidableEq, Repr


/-- An authorisation that is being verified (R620): the response, and whether the challenge in force when it began was valid, with its
bytes. -/
structure AuthJob where
  resp : List Byte
  challenge : List Byte
  valid : Bool
deriving DecidableEq, Repr

/-- Security, debug and fuses (spec/24, spec/25). -/
structure SecState where
  /-- The hashes of the key slots, by slot (R612). -/
  keys : Sparse (BitVec 384) := []
  /-- The fuses of R643 that FUSEPROG has blown, by index. -/
  fuses : List Nat := []
  /-- PRODLOCK has taken effect (R643). -/
  prodLock : Bool := false
  /-- The key store: the customer CA hash and the operational certificate (R611, R617). -/
  caHash : Option (BitVec 384) := none
  opCert : Option (BitVec 384) := none
  /-- The LTB at which the challenge in force was drawn; none where it is used or never drawn (R620). -/
  challenge : Option W64 := none
  auth : Option AuthJob := none
  /-- The minutes of a grant, and the LTB at which it began (R620). -/
  grantMin : Nat := 0
  grantAt : W64 := 0
  /-- Halted cores that may retire one instruction (R631). -/
  stepping : List Nat := []
  /-- Open sessions: the rights of each, bit 0 VIEW to bit 4 ADMIN (R617, R618), by number. -/
  sessions : Sparse (Option (BitVec 5)) := []
deriving DecidableEq, Repr

/-- What drives the carrier pins (R642). -/
inductive PinDrive where
  | normal | extest | clamp | highz
deriving DecidableEq, Repr

/-- The idle-slot check of a group (R635, R639). -/
structure CheckState where
  sync : Bool := false
  bits : W64 := 0
  berr : Nat := 0
  secs : Nat := 0
  es : Nat := 0
  lossSync : Nat := 0
  /-- Out of sync at some time in the second that runs. -/
  bad : Bool := true
  /-- Windows of 1 s with errors, and without, in a row, and the condition of bit 26 of the latent-fault map (R490). -/
  errRun : Nat := 0
  cleanRun : Nat := 0
  faulty : Bool := false
deriving DecidableEq, Repr

/-- A session of Test Strip beside its registers (R635, R636). -/
structure SessionState where
  /-- Out of sync at some time in the second that runs. -/
  bad : Bool := true
  /-- Seconds since the start, the seconds that it is to last, 0 without end, and what R489 watches, as it stood at the start. -/
  secs : Nat := 0
  dur : Nat := 0
  duty : Nat := 0
  /-- DSTAT.FRAMES at the start of a segment walk (R634). -/
  frame : Nat := 0
deriving DecidableEq, Repr

/-- Test Strip and the test access port (spec/25). -/
structure TestState where
  sessions : Sparse SessionState := []
  idle : Sparse CheckState := []
  /-- The latched boundary register and what it drives (R642). -/
  boundary : BitVec 120 := 0
  drive : PinDrive := .normal
  /-- The data register as the last TAP instruction captured it (R642). -/
  tdo : BitVec 120 := 0
  /-- FUSEREAD: BUSY, VALUE and RESULT, and the fuse being blown (R643). -/
  fuseValue : Bool := false
  fuseResult : BitVec 3 := 0
  fuseBusy : Option Nat := none
  /-- The response and data of the previous access of DAPACC (R619). -/
  dap : BusResult := {}
deriving DecidableEq, Repr

/-- What AON and the real-time clock hold beside their registers (spec/22). -/
structure AonState where
  /-- Cell and supercapacitor were exhausted: AON has stopped (R570). -/
  stopped : Bool := false
  /-- The part of a crystal cycle that has passed, in 2^−20 of 1/125 000 000 of one (R569). -/
  frac : Nat := 0
  /-- Each master's shadow of TIME0 to TIME7, by master number (R573). -/
  shadows : Sparse (Option (List W32)) := []
  /-- The last eight readings of the backup cell in mV, oldest first (R572). -/
  cell : List Nat := []
  /-- A commit of the staged time waits for the next crystal cycle (R574). -/
  commit : Bool := false
deriving DecidableEq, Repr

/-- A record of a time-stamp FIFO (R556). -/
structure TsfRec where
  ltb : W64
  dc : W64
  word : W32
  crc : W32
deriving DecidableEq, Repr

/-- A record of the TPI FIFO (R564). -/
structure TpiRec where
  ltb : W64
  ots : W64
  dc0 : W64
  dc1 : W64
  interval : W32
  flags : W32
deriving DecidableEq, Repr

/-- The link-delay engine of a port (R560): the sequenceId and the stamp of its last request, whether a usable response has come,
requests in a row without one, and the last eight delays in ns. -/
structure PortDelay where
  seq : Nat := 0
  t1 : W64 := 0
  open_ : Bool := false
  missed : Nat := 0
  vals : List Nat := []
deriving DecidableEq, Repr

/-- The time bases (spec/21). -/
structure TimeState where
  /-- The local time base, in ticks of 8 ns (R547). -/
  ltb : W64 := 0
  /-- DC0, DC1 and OTS: nanoseconds in the upper 64 bits, their fraction in the lower 32 (R548). -/
  dc0 : BitVec 96 := 0
  dc1 : BitVec 96 := 0
  ots : BitVec 96 := 0
  /-- INC of DC0 and DC1, 32.32 ns per tick (R548). -/
  inc0 : W64 := 0x800000000
  inc1 : W64 := 0x800000000
  /-- PEND of DC0 and DC1, in 2^−32 ns (R548). -/
  pend0 : Int := 0
  pend1 : Int := 0
  /-- A SET that acts at the next tick, and the last values written to SET_HI (R549). -/
  set0 : Option W64 := none
  set1 : Option W64 := none
  setHi0 : W32 := 0
  setHi1 : W32 := 0
  /-- The LTB at which the servo watchdogs of DC0 and DC1 last started again (R550). -/
  wd0 : W64 := 0
  wd1 : W64 := 0
  /-- Each master's copy of a HI register, by master number × 4: of LFI_HI at + 0, LTB_HI + 1, OTS_HI + 2; and of DCn_HI, by master
  number × 2 + n (R255, R567). -/
  hiCopies : Sparse W32 := []
  dcCopies : Sparse W32 := []
  /-- The time-stamp FIFOs, oldest first, and whether a record has been dropped since a FIFO last had room (R556). -/
  tsf0 : List TsfRec := []
  tsf1 : List TsfRec := []
  tsfDrop0 : Bool := false
  tsfDrop1 : Bool := false
  /-- The TPI FIFO, oldest first, and the LTB of the last captured edge (R564). -/
  tpi : List TpiRec := []
  tpiEdge : Option W64 := none
  /-- TPO is high, and the LTB at which its pulse ends (R563). -/
  tpo : Bool := false
  tpoEnd : W64 := 0
  /-- The link-delay engines, by port: 0 EA0, 1 EA1, 2 EB0, 3 EB1 (R560). -/
  ports : Sparse PortDelay := []
  /-- The time service: offsets in a row below 1 µs, by domain (R551). -/
  good0 : Nat := 0
  good1 : Nat := 0
  /-- The time service has measured a mean path delay of the domain (R551). -/
  delay0 : Bool := false
  delay1 : Bool := false
deriving DecidableEq, Repr

/-- A queued request of Proof (R486). -/
structure ProofReq where
  kind : Nat
  target : Nat
  ticket : Nat
deriving DecidableEq, Repr

/-- Proof beside its page (spec/18). -/
structure ProofState where
  /-- The units for which a bit of the latent-fault map is set, by bit: a page for the bits of groups, 16 × group slot + channel for those
  of channels, 0 for the others (R490). -/
  units : Sparse (List Nat) := []
  /-- Requests in the order of their tickets; the front one runs where `busy` holds what R489 watches, as it stood when it began. -/
  queue : List ProofReq := []
  busy : Option Nat := none
  /-- Groups, by slot, that the peer confirms to cover, and groups that this module covers for the peer until its test ends (R488). -/
  covered : List Nat := []
  reserved : List Nat := []
  /-- Bits whose test has failed once and is repeated, and bits whose repeat has failed too (R484). -/
  failed : List Nat := []
  latched : List Nat := []
  /-- Channels, 16 × group slot + channel, with a failed calibration of KIND 0x05, a pulse test failed once, and failed twice. -/
  calBad : List Nat := []
  pulseOnce : List Nat := []
  pulseBad : List Nat := []
  /-- The LTB of a channel's latest continuous pulse test (R481). -/
  pulseAt : Sparse (Option W64) := []
  /-- LTB times of the latest 17 corrected errors of TPM and program memory, and of the latest uncorrectable one of TPM (R490). -/
  ceTpm : List W64 := []
  cePm : List W64 := []
  ueTpm : Option W64 := none
  /-- The program memory scrubber has found an uncorrectable unit. -/
  uePm : Bool := false
  /-- MRAM units that failed their check at the latest scan, and on two scans (R490, R492). -/
  mramOnce : List Nat := []
  mramBad : List Nat := []
  /-- Since when the die has been above 105 °C and below 100 °C (R490). -/
  hot : Option W64 := none
  cool : Option W64 := none
  /-- Since when CLMI has disagreed and agreed with the peer's heartbeats (R490). -/
  differ : Option W64 := none
  agree : Option W64 := none
  /-- Since when the peer's score has exceeded the own one by MARGIN (R469, R493). -/
  margin : Option W64 := none
  /-- The LTB of the last completed round, and the tests that have completed a pass since (R481). -/
  roundAt : W64 := 0
  done : List Nat := []
  /-- Class C put the module OFF-LINE, or will once its planned switch-over has taken effect (R492). -/
  offLine : Bool := false
  leaving : Bool := false
  /-- The module's own SEQ counter of NODUP frames (R533). -/
  seq : Nat := 0
deriving DecidableEq, Repr

/-- The front panel beside its page (spec/23). -/
structure DispState where
  /-- Rails at 95 %, and blank display frames still to come (R590, R591). -/
  rails : Nat := 0
  blanks : Nat := 0
  /-- DCFG in force, and writes to the shown page that wait for the display frame boundary, by register key (R588, R589). -/
  inForce : W32 := 0x00323250
  pend : Sparse (Option W32) := []
  /-- The waveforms are inverted in this display frame (R588). -/
  inverted : Bool := false
  /-- Open results of the crack loop in a row, the result that stands, and intact results since EN was written with CRACK set (R592). -/
  opens : Nat := 0
  open_ : Bool := false
  retry : Option Nat := none
  /-- A lamp test runs (R595). -/
  lamp : Bool := false
deriving DecidableEq, Repr

/-- The state of the block. DESIGN CHOICE: log entry 113. -/
structure State where
  /-- The registers of all pages, by key (R140, R143 to R145; Machine/RegMap.lean). -/
  regs : Sparse W32 := []
  /-- What CTRL.FREEZE holds: the values of the frozen registers, by key (R147). -/
  frozen : Sparse (Option W32) := []
  log : LogState := {}
  pwr : PwrState := {}
  rst : RstState := {}
  carrier : CarrierState := {}
  boot : BootState := {}
  cores : Sparse Core := []
  mem : MemState := {}
  loop : LoopState := {}
  /-- Field groups, by group slot: page index − 0x080. -/
  groups : Sparse GroupState := []
  cap : CapState := {}
  /-- The safety lanes SAFX and SAFY. -/
  laneX : LaneState := {}
  laneY : LaneState := {}
  net : NetState := {}
  time : TimeState := {}
  pair : PairState := {}
  sec : SecState := {}
  aon : AonState := {}
  test : TestState := {}
  proof : ProofState := {}
  disp : DispState := {}
  /-- The response of the last access made from outside the cores (R141). -/
  bus : BusResult := {}
  /-- The counter that the next free value is drawn with: the model's own field (log entry 3). -/
  free : Nat := 0
  /-- The commands that wait, first in first out. -/
  pending : List Instr := []
deriving DecidableEq, Repr

/-- Reasons for which a step stops the machine. The spec names no stop of the block, so no meaning answers one of these on
ordinary data. -/
inductive Fault where
  /-- A command whose operands no source can send; raised by no meaning (safe). -/
  | illFormed
deriving DecidableEq, Repr

/-- Reasons for which a command has no meaning. -/
inductive Refusal where
  /-- The meaning of this command is not modelled; answered by exec's arms alone (safe). -/
  | notModelled (mnemonic : String)
deriving DecidableEq, Repr

/-- The state right after the first power-up's release: POR with an AON power-on, released by R111 up to the start of ECORE0 at
its reset vector, with the reset's own record in the logger's queue (log entry 1). DESIGN CHOICE: log entry 7. -/
def State.reset : State :=
  { regs := [(0x10100, 0x25#32)],
    log := { queue := [{ ots := 0, ltb := 0, data := 0, code := 0x002FFF01#32, role := 0xC0#8, sev := 1#8 }] } }

end Sys2Proof.Machine
end

