-- ==== Sys2Proof/Machine/RegMap.lean ====
section
/-! DEFINITION. The register map: the page directory (R143), the name, offset, access masks and reset value of
every register that spec/02 to spec/25 give (the rule stands in each comment), and what a register that nothing has
written reads as. A register is named by one number, its KEY: page index times 0x1000 plus offset (R140). -/

namespace Sys2Proof.Machine

/-- The key of the register at offset `off` of page `page` (R140). -/
def rk (page off : Nat) : Nat := page * 4096 + off

namespace Reg

-- SYS: R49 (spec/02_terminals_and_connectors.md)
abbrev SYS_CT_IN0 : Nat := 0x200
abbrev SYS_CT_IN1 : Nat := 0x204
-- SYS: R50 (spec/02_terminals_and_connectors.md)
abbrev SYS_CT_ID : Nat := 0x208
-- SYS: R51 (spec/02_terminals_and_connectors.md)
abbrev SYS_CT_OUT : Nat := 0x20C
-- SYS: R52 (spec/02_terminals_and_connectors.md)
abbrev SYS_CT_EVT : Nat := 0x210
-- SYS: R53 (spec/02_terminals_and_connectors.md)
abbrev SYS_CT_TEMP : Nat := 0x214
-- SYS: R54 (spec/02_terminals_and_connectors.md)
abbrev SYS_GP_CFG : Nat := 0x240
-- PWR: R92 (spec/03_supplies_isolation_power_domains.md)
abbrev PWR_LSA_MON : Nat := 0x3100
abbrev PWR_LSB_MON : Nat := 0x3104
abbrev PWR_HOLD_MON : Nat := 0x3108
abbrev PWR_SUP_STAT : Nat := 0x310C
abbrev PWR_SUP_EVT : Nat := 0x3110
abbrev PWR_HOLDUP_MEAS : Nat := 0x3114
abbrev PWR_BUDGET : Nat := 0x3118
abbrev PWR_LOAD_EST : Nat := 0x311C
abbrev PWR_FSUP_STAT : Nat := 0x3120
abbrev PWR_FSUP_DG_OK : Nat := 0x3124
abbrev PWR_FSUP_EVT : Nat := 0x3128
abbrev PWR_FSUP_DG_EVT : Nat := 0x312C
abbrev PWR_PD_STATE0 : Nat := 0x3140
abbrev PWR_PD_STATE1 : Nat := 0x3144
abbrev PWR_PD_STATE2 : Nat := 0x3148
abbrev PWR_PD_STATE3 : Nat := 0x314C
abbrev PWR_PD_STATE4 : Nat := 0x3150
-- CLK: R101 (spec/04_clocks_and_resets.md)
abbrev CLK_CLK_STAT : Nat := 0x1100
abbrev CLK_REF_CNT : Nat := 0x1104
abbrev CLK_CLK_EVT : Nat := 0x1108
-- RST: R105 (spec/04_clocks_and_resets.md)
abbrev RST_CAUSE : Nat := 0x2100
abbrev RST_COUNT : Nat := 0x2104
abbrev RST_SWREQ : Nat := 0x2110
abbrev RST_FRST : Nat := 0x2114
abbrev RST_WDG_CTRL : Nat := 0x2120
abbrev RST_WDG_WIN : Nat := 0x2124
abbrev RST_WDG_KICK : Nat := 0x2128
abbrev RST_WDG_STAT : Nat := 0x212C
-- SYS: R137 (spec/05_start_up_and_shut_down.md)
abbrev SYS_BOOT_STAT : Nat := 0x100
-- SYS: R138 (spec/05_start_up_and_shut_down.md)
abbrev SYS_SHUTDOWN : Nat := 0x108
-- SYS: R163 (spec/06_register_pages.md)
abbrev SYS_EVLOG_HEAD : Nat := 0x300
abbrev SYS_EVLOG_STAT : Nat := 0x304
abbrev SYS_EVLOG_CTRL : Nat := 0x308
abbrev SYS_EVLOG_PDATA0 : Nat := 0x310
abbrev SYS_EVLOG_PDATA1 : Nat := 0x314
abbrev SYS_EVLOG_PSEV : Nat := 0x318
abbrev SYS_EVLOG_POST : Nat := 0x31C
-- ECORE: R193 (spec/07_eftik_engine.md)
abbrev ECORE_CORE_STAT : Nat := 0x100
abbrev ECORE_RVEC_LO : Nat := 0x104
abbrev ECORE_RVEC_HI : Nat := 0x108
abbrev ECORE_EVBASE_LO : Nat := 0x10C
abbrev ECORE_EVBASE_HI : Nat := 0x110
abbrev ECORE_EPC_LO : Nat := 0x114
abbrev ECORE_EPC_HI : Nat := 0x118
abbrev ECORE_ECAUSE : Nat := 0x11C
abbrev ECORE_EADDR_LO : Nat := 0x120
abbrev ECORE_EADDR_HI : Nat := 0x124
abbrev ECORE_ETAG : Nat := 0x128
abbrev ECORE_CORE_CFG : Nat := 0x12C
abbrev ECORE_CWDG_CTRL : Nat := 0x130
abbrev ECORE_CWDG_KICK : Nat := 0x134
abbrev ECORE_CWDG_STAT : Nat := 0x138
abbrev ECORE_TASK_BUDGET : Nat := 0x140
abbrev ECORE_CACHE_OP : Nat := 0x150
abbrev ECORE_WINk_BASE : Nat := 0x180
abbrev ECORE_WINk_LIM : Nat := 0x184
abbrev ECORE_IRQ_SLOTk : Nat := 0x200
abbrev ECORE_IRQ_SEL : Nat := 0x280
abbrev ECORE_LX_STAT : Nat := 0x300
abbrev ECORE_LX_ISSUED : Nat := 0x304
abbrev ECORE_LX_DONE : Nat := 0x308
-- TPMC: R195 (spec/07_eftik_engine.md)
abbrev TPMC_NTAG : Nat := 0x20100
abbrev TPMC_CE_CNT : Nat := 0x20104
abbrev PMC_CE_CNT : Nat := 0x21104
abbrev TPMC_UE_CNT : Nat := 0x20108
abbrev PMC_UE_CNT : Nat := 0x21108
abbrev TPMC_ERR_ADDR : Nat := 0x2010C
abbrev PMC_ERR_ADDR : Nat := 0x2110C
abbrev TPMC_SCRUB : Nat := 0x20110
abbrev PMC_SCRUB : Nat := 0x21110
abbrev TPMC_TAGW_ADDR : Nat := 0x20118
abbrev TPMC_TAGW_DATA : Nat := 0x2011C
-- SYS: R255 (spec/10_loop_engine.md)
abbrev SYS_LFI_LO : Nat := 0x400
abbrev SYS_LFI_HI : Nat := 0x404
abbrev SYS_LFI_CYC : Nat := 0x408
-- LOOP: R285 (spec/10_loop_engine.md)
abbrev LOOP_LD_LAST : Nat := 0x40100
abbrev LOOP_LD_PEAK : Nat := 0x40104
abbrev LOOP_EN_CNT : Nat := 0x40108
abbrev LOOP_REFUSE : Nat := 0x4010C
abbrev LOOP_LOOP_EVT : Nat := 0x40110
abbrev LOOP_IMG_BASE : Nat := 0x40114
abbrev LOOP_IMG_STRIDE : Nat := 0x40118
abbrev LOOP_CFGERRm : Nat := 0x40180
abbrev LOOP_NUMERRm : Nat := 0x401C0
abbrev LOOP_TSK_SELn : Nat := 0x40200
abbrev LOOP_TSK_DLTn : Nat := 0x40204
-- LOOP: R308 (spec/11_loop_supervision_and_coefficients.md)
abbrev LOOP_FIX_CMD : Nat := 0x40120
abbrev LOOP_FIX_LAST : Nat := 0x40124
abbrev LOOP_SUP_EVT : Nat := 0x40130
abbrev LOOP_FIXPENDm : Nat := 0x40300
abbrev LOOP_SUPACTm : Nat := 0x40340
abbrev LOOP_TRIPm : Nat := 0x40380
-- CAPT: R323 (spec/12_exposure_and_bracket.md)
abbrev CAPT_CAPT_EVT : Nat := 0x41100
abbrev CAPT_CAPT_BUSY : Nat := 0x41104
abbrev CAPT_SCTRL : Nat := 0x41200
abbrev CAPT_SCLK : Nat := 0x41204
abbrev CAPT_BASE : Nat := 0x41208
abbrev CAPT_LEN : Nat := 0x4120C
abbrev CAPT_PRE : Nat := 0x41210
abbrev CAPT_TRIG : Nat := 0x41214
abbrev CAPT_TLVL_LO : Nat := 0x41218
abbrev CAPT_TLVL_HI : Nat := 0x4121C
abbrev CAPT_SIGk : Nat := 0x41220
abbrev CAPT_COUNT : Nat := 0x41240
abbrev CAPT_TRIGPOS : Nat := 0x41244
abbrev CAPT_FIRST : Nat := 0x41248
-- BRKT: R329 (spec/12_exposure_and_bracket.md)
abbrev BRKT_SLOTn : Nat := 0x42100
abbrev BRKT_BRKT_EVT : Nat := 0x42140
abbrev BRKT_TUNEm : Nat := 0x42180
-- DG: R356 (spec/13_digital_channels.md)
abbrev DG_GCFG : Nat := 0x100
abbrev DG_GSTAT : Nat := 0x104
abbrev DG_IN_STATE : Nat := 0x108
abbrev DG_CHSTAT_LO : Nat := 0x10C
abbrev DG_CHSTAT_HI : Nat := 0x110
abbrev DG_OUT_CLR : Nat := 0x114
abbrev DG_CNT_RX : Nat := 0x118
abbrev DG_CNT_FGC : Nat := 0x11C
abbrev DG_FMAP_LO : Nat := 0x120
abbrev DG_FMAP_HI : Nat := 0x124
abbrev DG_DG_EVT : Nat := 0x128
abbrev DG_CHCFGc : Nat := 0x140
-- AG: R388 (spec/14_current_loops_and_temperature.md)
abbrev AG_GCFG : Nat := 0x100
abbrev AG_GSTAT : Nat := 0x104
abbrev AG_CHSTAT_LO : Nat := 0x10C
abbrev AG_CHSTAT_HI : Nat := 0x110
abbrev AG_CNT_RX : Nat := 0x118
abbrev AG_CNT_FGC : Nat := 0x11C
abbrev AG_FMAP_LO : Nat := 0x120
abbrev AG_FMAP_HI : Nat := 0x124
abbrev AG_AG_EVT : Nat := 0x128
abbrev AG_SPSTAT : Nat := 0x12C
abbrev AG_CHCFGc : Nat := 0x140
abbrev AG_LOc : Nat := 0x180
abbrev AG_HIc : Nat := 0x184
abbrev AG_TXt_k : Nat := 0x200
abbrev AG_TYt_k : Nat := 0x204
-- TG: R389 (spec/14_current_loops_and_temperature.md)
abbrev TG_TG_EVT : Nat := 0x128
abbrev TG_CJ : Nat := 0x12C
abbrev TG_CHCFGc : Nat := 0x140
-- CG: R415 (spec/15_counters_shutter_contact_sheet.md)
abbrev CG_CLR : Nat := 0x114
abbrev CG_CG_EVT : Nat := 0x128
abbrev CG_HOME : Nat := 0x12C
abbrev CG_CHCFGc : Nat := 0x140
abbrev CG_SSICFGc : Nat := 0x180
abbrev CG_SSIC2c : Nat := 0x184
abbrev CG_SCALEc : Nat := 0x200
abbrev CG_POSSETc : Nat := 0x204
abbrev CG_ZEXPc : Nat := 0x300
abbrev CG_ZPERc : Nat := 0x304
abbrev CG_IXCFGc : Nat := 0x380
-- SHUT: R416 (spec/15_counters_shutter_contact_sheet.md)
abbrev SHUT_EDGEm : Nat := 0xB9100
abbrev SHUT_COMP : Nat := 0xB9200
abbrev SHUT_FIFO_LVL : Nat := 0xB9204
abbrev SHUT_DROP : Nat := 0xB9208
abbrev SHUT_RECk : Nat := 0xB9210
abbrev SHUT_POP : Nat := 0xB9230
abbrev SHUT_SHUT_EVT : Nat := 0xB9234
-- CSHEET: R417 (spec/15_counters_shutter_contact_sheet.md)
abbrev CSHEET_RBASE : Nat := 0xBA100
abbrev CSHEET_RCNT : Nat := 0xBA104
abbrev CSHEET_T_LO : Nat := 0xBA108
abbrev CSHEET_T_HI : Nat := 0xBA10C
abbrev CSHEET_ID : Nat := 0xBA110
abbrev CSHEET_CMD : Nat := 0xBA114
abbrev CSHEET_RESULT : Nat := 0xBA118
abbrev CSHEET_PEND : Nat := 0xBA11C
abbrev CSHEET_SLOTk : Nat := 0xBA120
abbrev CSHEET_NEXT : Nat := 0xBA140
abbrev CSHEET_CS_EVT : Nat := 0xBA144
-- SAF: R448 (spec/16_stop_bath_safety_lanes.md)
abbrev SAF_LSTAT : Nat := 0x100
abbrev SAF_FAULT : Nat := 0x104
abbrev SAF_MATRIX_ID : Nat := 0x108
abbrev SAF_CHECK : Nat := 0x10C
abbrev SAF_STG_ID : Nat := 0x110
abbrev SAF_STG_CHECK : Nat := 0x114
abbrev SAF_CFG_RES : Nat := 0x118
abbrev SAF_PRESS : Nat := 0x11C
abbrev SAF_CAUSEm : Nat := 0x120
abbrev SAF_RAWm : Nat := 0x130
abbrev SAF_DISC0 : Nat := 0x140
abbrev SAF_DISC1 : Nat := 0x144
abbrev SAF_EFFECT : Nat := 0x150
abbrev SAF_LATCHED : Nat := 0x154
abbrev SAF_OUTCMD : Nat := 0x158
abbrev SAF_RB_IN : Nat := 0x15C
abbrev SAF_RB_MID : Nat := 0x160
abbrev SAF_RB_OUT : Nat := 0x164
abbrev SAF_OUTFLT : Nat := 0x168
abbrev SAF_CYCLE_LO : Nat := 0x170
abbrev SAF_CYCLE_HI : Nat := 0x174
abbrev SAF_TESTS : Nat := 0x178
abbrev SAF_LOCKCNT : Nat := 0x17C
abbrev SAF_SAF_EVT : Nat := 0x184
-- TWIN: R478 (spec/17_station_pair.md)
abbrev TWIN_LANE_STAT : Nat := 0xD0100
abbrev TWIN_LANE_CNTk : Nat := 0xD0104
abbrev TWIN_HB_MISS : Nat := 0xD010C
abbrev TWIN_SYNC : Nat := 0xD0110
abbrev TWIN_HASH_LO : Nat := 0xD0114
abbrev TWIN_HASH_HI : Nat := 0xD0118
abbrev TWIN_BULK : Nat := 0xD011C
abbrev TWIN_RELAY : Nat := 0xD0120
abbrev TWIN_TWIN_EVT : Nat := 0xD0124
abbrev TWIN_REJOIN : Nat := 0xD0128
-- CLAIM: R479 (spec/17_station_pair.md)
abbrev CLAIM_OWN : Nat := 0xD1100
abbrev CLAIM_PEER : Nat := 0xD1104
abbrev CLAIM_CFG : Nat := 0xD1108
abbrev CLAIM_SWITCH : Nat := 0xD110C
abbrev CLAIM_COUNT : Nat := 0xD1110
abbrev CLAIM_NETHOLD : Nat := 0xD1114
abbrev CLAIM_MOVED : Nat := 0xD1118
abbrev CLAIM_MOVED_X : Nat := 0xD111C
abbrev CLAIM_CLAIM_EVT : Nat := 0xD1120
-- PROOF: R496 (spec/18_proof_and_health.md)
abbrev PROOF_SCORE : Nat := 0xD2100
abbrev PROOF_LATENT_LO : Nat := 0xD2104
abbrev PROOF_LATENT_HI : Nat := 0xD2108
abbrev PROOF_NEW_LO : Nat := 0xD210C
abbrev PROOF_NEW_HI : Nat := 0xD2110
abbrev PROOF_REQ : Nat := 0xD2120
abbrev PROOF_REQ_TKT : Nat := 0xD2124
abbrev PROOF_REQ_RES : Nat := 0xD2128
abbrev PROOF_ROUND : Nat := 0xD212C
abbrev PROOF_ROUND_AGE : Nat := 0xD2130
abbrev PROOF_CFG : Nat := 0xD2134
abbrev PROOF_PROOF_EVT : Nat := 0xD2138
abbrev PROOF_REPORTk : Nat := 0xD2140
-- CAN: R522 (spec/19_can_fd_controllers.md)
abbrev CAN_CFG : Nat := 0x100
abbrev CAN_NBT : Nat := 0x104
abbrev CAN_DBT : Nat := 0x108
abbrev CAN_TDC : Nat := 0x10C
abbrev CAN_ESTAT : Nat := 0x110
abbrev CAN_ERRCNT : Nat := 0x114
abbrev CAN_RXCNT : Nat := 0x118
abbrev CAN_TXCNT : Nat := 0x11C
abbrev CAN_LOST : Nat := 0x120
abbrev CAN_DROPCNT : Nat := 0x124
abbrev CAN_REJCNT : Nat := 0x128
abbrev CAN_MAXT : Nat := 0x12C
abbrev CAN_CAN_EVT : Nat := 0x130
abbrev CAN_TXPENDm : Nat := 0x140
abbrev CAN_RXPOSTm : Nat := 0x150
abbrev CAN_TMOm : Nat := 0x160
-- NET: R544 (spec/20_ethernet_and_twin_header.md)
abbrev NET_CFG : Nat := 0x100
abbrev NET_PORTk : Nat := 0x104
abbrev NET_MAC_LO : Nat := 0x10C
abbrev NET_MAC_HI : Nat := 0x110
abbrev NET_ERRk : Nat := 0x114
abbrev NET_DROPk : Nat := 0x11C
abbrev NET_NET_EVT : Nat := 0x128
abbrev NET_VLANv : Nat := 0x180
abbrev NET_RXCLSr : Nat := 0x280
abbrev NET_TX_RBASE : Nat := 0x300
abbrev NET_RX_RBASE : Nat := 0x380
abbrev NET_TX_RCTL : Nat := 0x304
abbrev NET_RX_RCTL : Nat := 0x384
abbrev NET_TX_RHEAD : Nat := 0x308
abbrev NET_RX_RHEAD : Nat := 0x388
abbrev NET_TX_RTAIL : Nat := 0x30C
abbrev NET_RX_RTAIL : Nat := 0x38C
-- NET: R545 (spec/20_ethernet_and_twin_header.md)
abbrev NET_DD_CFG : Nat := 0x400
abbrev NET_TW_EPOCH : Nat := 0x404
abbrev NET_DD_CNT0 : Nat := 0x408
abbrev NET_DD_CNT1 : Nat := 0x40C
abbrev NET_DD_USED : Nat := 0x410
-- TIME: R567 (spec/21_network_time.md)
abbrev TIME_LTB_LO : Nat := 0xF2100
abbrev TIME_LTB_HI : Nat := 0xF2104
abbrev TIME_DCn_LO : Nat := 0xF2110
abbrev TIME_DCn_HI : Nat := 0xF2114
abbrev TIME_DCn_INC_LO : Nat := 0xF2118
abbrev TIME_DCn_INC_HI : Nat := 0xF211C
abbrev TIME_DCn_SLEW : Nat := 0xF2120
abbrev TIME_DCn_PEND : Nat := 0xF2124
abbrev TIME_DCn_SET_LO : Nat := 0xF2128
abbrev TIME_DCn_SET_HI : Nat := 0xF212C
abbrev TIME_DC_CTRLn : Nat := 0xF2150
abbrev TIME_DC_KICK : Nat := 0xF2158
abbrev TIME_OTS_LO : Nat := 0xF2160
abbrev TIME_OTS_HI : Nat := 0xF2164
abbrev TIME_OTS_CTRL : Nat := 0xF2168
abbrev TIME_OTS_STEP : Nat := 0xF216C
abbrev TIME_OTS_STAT : Nat := 0xF2170
abbrev TIME_TIME_EVT : Nat := 0xF2174
abbrev TIME_OTS_DIFF : Nat := 0xF2178
abbrev TIME_TC_CFG : Nat := 0xF2180
abbrev TIME_PORT_LDLYk : Nat := 0xF2184
abbrev TIME_TC_CNT0 : Nat := 0xF2194
abbrev TIME_TC_CNT1 : Nat := 0xF2198
abbrev TIME_PTP_RING : Nat := 0xF219C
abbrev TIME_DOM_CFGn : Nat := 0xF21A0
abbrev TIME_TSFn_LVL : Nat := 0xF21C0
abbrev TIME_TSFn_RECk : Nat := 0xF21C4
abbrev TIME_TSFn_POP : Nat := 0xF21DC
abbrev TIME_TPI_CFG : Nat := 0xF2200
abbrev TIME_TPI_LVL : Nat := 0xF2204
abbrev TIME_TPI_RECk : Nat := 0xF2208
abbrev TIME_TPI_POP : Nat := 0xF2230
abbrev TIME_TPI_STAT : Nat := 0xF2234
abbrev TIME_TPO_CFG : Nat := 0xF2240
-- RTC: R584 (spec/22_rtc_and_retain.md)
abbrev RTC_TIME0 : Nat := 0xF8100
abbrev RTC_TIME1 : Nat := 0xF8104
abbrev RTC_TIME2 : Nat := 0xF8108
abbrev RTC_TIME3 : Nat := 0xF810C
abbrev RTC_TIME4 : Nat := 0xF8110
abbrev RTC_TIME5 : Nat := 0xF8114
abbrev RTC_TIME6 : Nat := 0xF8118
abbrev RTC_TIME7 : Nat := 0xF811C
abbrev RTC_WTIMEk : Nat := 0xF8124
abbrev RTC_SET : Nat := 0xF8140
abbrev RTC_CAL : Nat := 0xF8144
abbrev RTC_CELL : Nat := 0xF8148
abbrev RTC_RTC_STAT : Nat := 0xF814C
abbrev RTC_BKSW0 : Nat := 0xF8150
abbrev RTC_BKSW1 : Nat := 0xF8154
abbrev RTC_BKSW2 : Nat := 0xF8158
abbrev RTC_BKSW3 : Nat := 0xF815C
abbrev RTC_RTC_EVT : Nat := 0xF8160
-- MRAM: R585 (spec/22_rtc_and_retain.md)
abbrev MRAM_MSTAT : Nat := 0x23100
abbrev MRAM_CE_CNT : Nat := 0x23104
abbrev MRAM_UE_CNT : Nat := 0x23108
abbrev MRAM_ERR_ADDR : Nat := 0x2310C
abbrev MRAM_REFUSE : Nat := 0x23110
abbrev MRAM_MRAM_EVT : Nat := 0x23114
-- DISP: R606 (spec/23_front_panel_and_annunciators.md)
abbrev DISP_DCFG : Nat := 0xF9100
abbrev DISP_DSTAT : Nat := 0xF9104
abbrev DISP_FLIP : Nat := 0xF9108
abbrev DISP_CRACK : Nat := 0xF910C
abbrev DISP_PGp_Wk : Nat := 0xF9140
abbrev DISP_PGp_W6 : Nat := 0xF9158
abbrev DISP_SL_STAT : Nat := 0xF9180
abbrev DISP_SL_CFG : Nat := 0xF9184
abbrev DISP_LAMPTEST : Nat := 0xF9188
abbrev DISP_DISP_EVT : Nat := 0xF918C
-- AN: R607 (spec/23_front_panel_and_annunciators.md)
abbrev AN_GCFG : Nat := 0xB8100
abbrev AN_OUT_CLR : Nat := 0xB8114
abbrev AN_AN_EVT : Nat := 0xB8128
abbrev AN_CHCFGc : Nat := 0xB8140
abbrev AN_SOUNDs_A : Nat := 0xB8180
abbrev AN_SOUNDs_B : Nat := 0xB8184
abbrev AN_SOUNDs_C : Nat := 0xB8188
abbrev AN_WAVEt_k : Nat := 0xB8300
-- SEC: R630 (spec/24_security_debug_power_states.md)
abbrev SEC_LCSTATE : Nat := 0x4100
abbrev SEC_LCREQ : Nat := 0x4104
abbrev SEC_CHALk : Nat := 0x4110
abbrev SEC_RESPk : Nat := 0x4140
abbrev SEC_AUTH : Nat := 0x41C0
abbrev SEC_KEYPROG : Nat := 0x41C4
abbrev SEC_RB : Nat := 0x41C8
abbrev SEC_RBCOMMIT : Nat := 0x41CC
abbrev SEC_SESS : Nat := 0x41D0
abbrev SEC_SEC_EVT : Nat := 0x41D4
-- OTP: R631 (spec/24_security_debug_power_states.md)
abbrev OTP_SERIAL_LO : Nat := 0x5100
abbrev OTP_SERIAL_HI : Nat := 0x5104
abbrev OTP_PINMODE : Nat := 0x5108
abbrev OTP_GPRSTm : Nat := 0x510C
abbrev OTP_KSTAT : Nat := 0x5118
abbrev DBG_DLEVEL : Nat := 0x7100
abbrev DBG_DROP : Nat := 0x7104
abbrev DBG_RUNCTL : Nat := 0x7108
abbrev DBG_DBGREQ : Nat := 0x710C
abbrev DBG_BPk_LO : Nat := 0x7140
abbrev DBG_BPk_HI : Nat := 0x7144
abbrev NOR_NSTAT : Nat := 0x22100
abbrev NOR_NCMD : Nat := 0x22104
abbrev NOR_NADDR : Nat := 0x22108
abbrev NOR_NBUFk : Nat := 0x22200
-- PWR: R632 (spec/24_security_debug_power_states.md)
abbrev PWR_PSTATE : Nat := 0x3160
abbrev PWR_PSREQ : Nat := 0x3164
-- TEST: R640 (spec/25_test_strip_and_production_test.md)
abbrev TEST_IDLE_SEL : Nat := 0x6100
abbrev TEST_IDLE_CNT : Nat := 0x6104
abbrev TEST_TEST_EVT : Nat := 0x6110
abbrev TEST_SCFG : Nat := 0x6200
abbrev TEST_SCMD : Nat := 0x6204
abbrev TEST_SSTAT : Nat := 0x6208
abbrev TEST_BITS_LO : Nat := 0x620C
abbrev TEST_BITS_HI : Nat := 0x6210
abbrev TEST_BERR : Nat := 0x6214
abbrev TEST_SEC0 : Nat := 0x6218
abbrev TEST_SEC1 : Nat := 0x621C
-- TG: R388 (spec/14_current_loops_and_temperature.md)
abbrev TG_GSTAT : Nat := 0x104
abbrev TG_CHSTAT_LO : Nat := 0x10C
abbrev TG_CHSTAT_HI : Nat := 0x110
abbrev TG_CNT_FGC : Nat := 0x11C
abbrev TG_CNT_RX : Nat := 0x118
abbrev CG_GSTAT : Nat := 0x104
abbrev CG_CHSTAT_LO : Nat := 0x10C
abbrev CG_CHSTAT_HI : Nat := 0x110
abbrev CG_CNT_RX : Nat := 0x118
abbrev CG_CNT_FGC : Nat := 0x11C
abbrev AN_GSTAT : Nat := 0xB8104
abbrev AN_CHSTAT_LO : Nat := 0xB810C
abbrev AN_CHSTAT_HI : Nat := 0xB8110
abbrev AN_CNT_RX : Nat := 0xB8118
abbrev AN_CNT_FGC : Nat := 0xB811C
-- TG: R356 (spec/13_digital_channels.md)
abbrev TG_GCFG : Nat := 0x100
abbrev CG_GCFG : Nat := 0x100

-- offsets of the common registers of every page: R145 (spec/06_register_pages.md)
abbrev PID : Nat := 0x000
abbrev CAP : Nat := 0x004
abbrev CTRL : Nat := 0x008
abbrev STAT : Nat := 0x00C
abbrev IRQ_RAW : Nat := 0x010
abbrev IRQ_EN : Nat := 0x014
abbrev IRQ_PEND : Nat := 0x018
abbrev FAULT_CAUSE : Nat := 0x01C
abbrev LOCK : Nat := 0x020
abbrev WSEQ : Nat := 0x024
abbrev TAG_CFG : Nat := 0x028
abbrev PWR_REQ : Nat := 0x030
end Reg

/-- The page directory of R143: first page, number of pages, first power domain, and whether the domain counts up with
the page (otherwise every page of the row lies in that domain). -/
def pageRows : List (Nat × Nat × Nat × Bool) :=
  [(0x000, 6, 1, false),
   (0x006, 1, 23, false),
   (0x007, 1, 1, false),
   (0x010, 4, 2, true),
   (0x020, 4, 1, false),
   (0x040, 1, 6, false),
   (0x041, 1, 7, false),
   (0x042, 1, 6, false),
   (0x080, 32, 24, true),
   (0x0A0, 16, 56, true),
   (0x0B0, 2, 72, true),
   (0x0B4, 4, 74, true),
   (0x0B8, 1, 78, false),
   (0x0B9, 1, 22, false),
   (0x0BA, 1, 7, false),
   (0x0C0, 2, 20, true),
   (0x0D0, 1, 18, false),
   (0x0D1, 1, 1, false),
   (0x0D2, 1, 1, false),
   (0x0E0, 8, 10, true),
   (0x0F0, 2, 8, true),
   (0x0F2, 1, 1, false),
   (0x0F8, 1, 0, false),
   (0x0F9, 1, 19, false)]

/-- A page's block type, instance and domain (R143): the block type is the index of the first page of its kind. Every
page from 0x000 to 0x007 and from 0x020 to 0x023 is a kind of its own. -/
def pageInfo (p : Nat) : Option (Nat × Nat × Nat) :=
  (pageRows.find? fun r => decide (r.1 ≤ p ∧ p < r.1 + r.2.1)).map fun r =>
    if r.1 = 0x000 ∨ r.1 = 0x020 then (p, 0, r.2.2.1)
    else (r.1, p - r.1, if r.2.2.2 then r.2.2.1 + (p - r.1) else r.2.2.1)

/-- The block type of a page; 0xFFFF for a page that the directory does not list. -/
def pageBlock (p : Nat) : Nat := ((pageInfo p).map (·.1)).getD 0xFFFF

/-- "Always on" of R147: the pages of PD00 and PD01, SAFX, SAFY and ECORE0. -/
def alwaysOn (p : Nat) : Bool :=
  match pageInfo p with
  | some (_, _, d) => decide (d ≤ 2) || decide (p = 0x0C0) || decide (p = 0x0C1)
  | none => false

/-- Offset `o` is one of `n` registers from `b` on, `st` bytes apart. -/
def within (b st n o : Nat) : Bool := decide (b ≤ o ∧ (o - b) % st = 0 ∧ (o - b) / st < n)

/-- As `within`, for a family with two indices. -/
def within2 (b s1 n1 s2 n2 o : Nat) : Bool :=
  decide (b ≤ o ∧ (o - b) / s1 < n1) && within 0 s2 n2 ((o - b) % s1)

/-- The reset value of the block-specific register at offset `o` of a page of block type `blk`; zero where the spec's
table gives zero. A "Kept" field has the value that its AON power-on gives it; a "pin" or "fuse" field has the value of log
entries 4 and 5. -/
def blockReset (blk o : Nat) : Nat :=
  match blk with
  | 0x0 =>
    if o = 0x200 then 0xFFFFBFBF else
    if o = 0x204 then 0xFF else
    if o = 0x208 then 0x17 else
    if within 0x240 4 24 o then 0x810 else
    if o = 0x214 then 0xD8000000 else 0
  | 0x1 =>
    if o = 0x100 then 0x7 else 0
  | 0x2 =>
    if o = 0x100 then 0x1 else
    if o = 0x120 then 0x107D0 else
    if o = 0x12C then 0x7D00000 else 0
  | 0x3 =>
    if o = 0x100 then 0xD8000000 else
    if o = 0x104 then 0xD8000000 else
    if o = 0x108 then 0xD8000000 else
    if o = 0x118 then 0x118 else
    if o = 0x11C then 0xC6 else
    if o = 0x120 then 0x924 else
    if o = 0x140 then 0x2A else
    if o = 0x144 then 0xAAAA0A00 else
    if o = 0x148 then 0xAAAAAAAA else
    if o = 0x14C then 0xAAAAAAAA else
    if o = 0x150 then 0xAAAAAAAA else 0
  | 0x10 =>
    if o = 0x100 then 0x24 else
    if o = 0x10C then 0x1000 else
    if o = 0x12C then 0x20 else
    if o = 0x130 then 0x3E8 else
    if o = 0x138 then 0x3E80000 else 0
  | 0x20 =>
    if o = 0x100 then 0x20 else
    if o = 0x110 then 0x64 else 0
  | 0x21 =>
    if o = 0x110 then 0x3C else 0
  | 0x40 =>
    if o = 0x124 then 0xF00000 else 0
  | 0x80 =>
    if o = 0x100 then 0x3E8 else
    if o = 0x104 then 0x9000 else
    if within 0x140 4 16 o then 0x32 else 0
  | 0xA0 =>
    if o = 0x100 then 0x108003E8 else
    if o = 0x104 then 0x9000 else
    if within 0x140 4 16 o then 0xC0500 else
    if within 0x184 8 16 o then 0x42C80000 else 0
  | 0xB0 =>
    if o = 0x12C then 0xD8000000 else
    if o = 0x104 then 0x9000 else
    if o = 0x100 then 0x3E8 else 0
  | 0xB4 =>
    if within 0x140 4 16 o then 0x1900 else
    if within 0x180 8 16 o then 0x64325000 else
    if within 0x184 8 16 o then 0x500 else
    if within 0x200 8 16 o then 0x3F800000 else
    if within 0x380 4 16 o then 0x40000 else
    if o = 0x104 then 0x9000 else
    if o = 0x100 then 0x3E8 else 0
  | 0xB8 =>
    if o = 0x100 then 0x3E8 else
    if within 0x180 16 16 o then 0x13E8 else
    if within 0x184 16 16 o then 0xFFFFFFFF else
    if within 0x188 16 16 o then 0x1F else
    if o = 0x104 then 0x9000 else 0
  | 0xB9 =>
    if o = 0x200 then 0x1E1E else 0
  | 0xBA =>
    if o = 0x104 then 0x1 else 0
  | 0xC0 =>
    if o = 0x100 then 0x88000000 else
    if o = 0x104 then 0xFFFF else
    if o = 0x118 then 0xFFFF else 0
  | 0xD1 =>
    if o = 0x108 then 0x10080 else 0
  | 0xD2 =>
    if o = 0x100 then 0x3E8 else
    if o = 0x134 then 0x1012C else 0
  | 0xE0 =>
    if o = 0x100 then 0x10006400 else
    if o = 0x104 then 0x10000 else
    if o = 0x110 then 0xC0000000 else 0
  | 0xF0 =>
    if o = 0x180 then 0x80010707 else
    if o = 0x29C then 0x8FFF0000 else
    if o = 0x100 then 0x20000 else
    if within 0x104 4 2 o then 0x70000001 else
    if within 0x280 4 8 o then 0xFFF0000 else
    if within 0x304 16 8 o then 0x4 else
    if within 0x384 16 8 o then 0x4 else
    if o = 0x400 then 0x800000C8 else 0
  | 0xF2 =>
    if o = 0x1A4 then 0x1 else
    if within 0x11C 32 2 o then 0x8 else
    if within 0x150 4 2 o then 0x6400190 else
    if o = 0x168 then 0x80320000 else
    if o = 0x16C then 0xF4240 else
    if o = 0x180 then 0x80000000 else
    if o = 0x19C then 0x80070006 else
    if o = 0x240 then 0x400186A0 else 0
  | 0xF8 =>
    if o = 0x110 then 0x1 else
    if o = 0x114 then 0x1 else
    if o = 0x118 then 0x7D0 else
    if o = 0x11C then 0xB8000105 else
    if o = 0x130 then 0x1 else
    if o = 0x134 then 0x1 else
    if o = 0x138 then 0x7D0 else
    if o = 0x14C then 0x1 else
    if o = 0x148 then 0xD8040000 else 0
  | 0xF9 =>
    if o = 0x100 then 0x323250 else
    if o = 0x10C then 0xD8000000 else 0
  | _ => 0

/-- What the register with key `k` reads as after a reset that reaches its page: the common registers by R146 to R156,
the others by the tables of their chapters. -/
def regDefault (k : Nat) : BitVec 32 :=
  let p := k / 4096
  let o := k % 4096
  match pageInfo p with
  | none => 0
  | some (blk, inst, dom) =>
    BitVec.ofNat 32 <|
      if 0x100 ≤ o then blockReset blk o
      else if o = Reg.PID then blk * 65536 + inst * 256 + 1
      else if o = Reg.CTRL then 0x80000000 + (if alwaysOn p && decide (p ≠ 0x0D1) then 1 else 0)
      else if o = Reg.STAT then (if alwaysOn p then 1 else 0)
      else if o = Reg.TAG_CFG then 0x111
      else if o = Reg.PWR_REQ then dom * 65536
      else 0

/-- One row of a register table: where the registers of the row lie (a family of `n1` times `n2` registers) and which of
its bits software may write freely (`rw`), only on an unlocked page (`rwl`), may clear by a 1 (`w1c`) or writes as a
command (`wo`); `tagLo` is the low bit of the row's TAG field (R156), where it has one. -/
structure RegRow where
  base : Nat
  s1 : Nat := 4
  n1 : Nat := 1
  s2 : Nat := 4
  n2 : Nat := 1
  rw : Nat := 0
  rwl : Nat := 0
  w1c : Nat := 0
  wo : Nat := 0
  kept : Nat := 0
  tagLo : Option Nat := none
deriving DecidableEq, Repr

/-- The row covers offset `o`. -/
def RegRow.covers (r : RegRow) (o : Nat) : Bool :=
  if r.n2 = 1 then within r.base r.s1 r.n1 o else within2 r.base r.s1 r.n1 r.s2 r.n2 o

/-- The block-specific registers of the SYS pages (R49, R50, R51, R52, R53, R54, R137, R138, R163, R255). -/
def regRowsSYS : List RegRow := [
  { base := 0x200 } /- CT_IN0 -/,
  { base := 0x204 } /- CT_IN1 -/,
  { base := 0x208 } /- CT_ID -/,
  { base := 0x20C, rw := 0x1 } /- CT_OUT -/,
  { base := 0x210, w1c := 0x7F } /- CT_EVT -/,
  { base := 0x214, tagLo := some 24 } /- CT_TEMP -/,
  { base := 0x240, s1 := 4, n1 := 24, rw := 0xFF37 } /- GP_CFG -/,
  { base := 0x100, kept := 0xF00000 } /- BOOT_STAT -/,
  { base := 0x108, wo := 0xFFFF0003 } /- SHUTDOWN -/,
  { base := 0x300 } /- EVLOG_HEAD -/,
  { base := 0x304 } /- EVLOG_STAT -/,
  { base := 0x308, rwl := 0xFF } /- EVLOG_CTRL -/,
  { base := 0x310, rw := 0xFFFFFFFF } /- EVLOG_PDATA0 -/,
  { base := 0x314, rw := 0xFFFFFFFF } /- EVLOG_PDATA1 -/,
  { base := 0x318, rw := 0xFF } /- EVLOG_PSEV -/,
  { base := 0x31C, wo := 0xFFFFFFFF } /- EVLOG_POST -/,
  { base := 0x400 } /- LFI_LO -/,
  { base := 0x404 } /- LFI_HI -/,
  { base := 0x408 } /- LFI_CYC -/]

/-- The block-specific registers of the CLK pages (R101). -/
def regRowsCLK : List RegRow := [
  { base := 0x100 } /- CLK_STAT -/,
  { base := 0x104 } /- REF_CNT -/,
  { base := 0x108, w1c := 0x1 } /- CLK_EVT -/]

/-- The block-specific registers of the RST pages (R105). -/
def regRowsRST : List RegRow := [
  { base := 0x100, w1c := 0xFF, kept := 0xFFF } /- CAUSE -/,
  { base := 0x104, kept := 0xFFFFFFF0 } /- COUNT -/,
  { base := 0x110, wo := 0xFFFF0001 } /- SWREQ -/,
  { base := 0x114, wo := 0xFFFF03FF } /- FRST -/,
  { base := 0x120, rwl := 0x1FFFF } /- WDG_CTRL -/,
  { base := 0x124, rwl := 0xFFFF } /- WDG_WIN -/,
  { base := 0x128, wo := 0xFFFFFFFF } /- WDG_KICK -/,
  { base := 0x12C } /- WDG_STAT -/]

/-- The block-specific registers of the PWR pages (R92, R632). -/
def regRowsPWR : List RegRow := [
  { base := 0x100, tagLo := some 24 } /- LSA_MON -/,
  { base := 0x104, tagLo := some 24 } /- LSB_MON -/,
  { base := 0x108, tagLo := some 24 } /- HOLD_MON -/,
  { base := 0x10C } /- SUP_STAT -/,
  { base := 0x110, w1c := 0xF } /- SUP_EVT -/,
  { base := 0x114 } /- HOLDUP_MEAS -/,
  { base := 0x118, rwl := 0xFFF } /- BUDGET -/,
  { base := 0x11C } /- LOAD_EST -/,
  { base := 0x120 } /- FSUP_STAT -/,
  { base := 0x124 } /- FSUP_DG_OK -/,
  { base := 0x128, w1c := 0xF } /- FSUP_EVT -/,
  { base := 0x12C, w1c := 0xFFFFFFFF } /- FSUP_DG_EVT -/,
  { base := 0x140 } /- PD_STATE0 -/,
  { base := 0x144 } /- PD_STATE1 -/,
  { base := 0x148 } /- PD_STATE2 -/,
  { base := 0x14C } /- PD_STATE3 -/,
  { base := 0x150 } /- PD_STATE4 -/,
  { base := 0x160, kept := 0x130 } /- PSTATE -/,
  { base := 0x164, wo := 0xFFFF0003 } /- PSREQ -/]

/-- The block-specific registers of the SEC pages (R630). -/
def regRowsSEC : List RegRow := [
  { base := 0x100, kept := 0xF } /- LCSTATE -/,
  { base := 0x104, wo := 0xFFFF0007 } /- LCREQ -/,
  { base := 0x110, s1 := 4, n1 := 4 } /- CHALk -/,
  { base := 0x140, s1 := 4, n1 := 32, rw := 0xFFFFFFFF } /- RESPk -/,
  { base := 0x1C0, wo := 0xFFFF0001 } /- AUTH -/,
  { base := 0x1C4, wo := 0xFFFF0307 } /- KEYPROG -/,
  { base := 0x1C8, kept := 0xFF } /- RB -/,
  { base := 0x1CC, wo := 0xFFFF0001 } /- RBCOMMIT -/,
  { base := 0x1D0 } /- SESS -/,
  { base := 0x1D4, w1c := 0x7 } /- SEC_EVT -/]

/-- The block-specific registers of the OTP pages (R631). -/
def regRowsOTP : List RegRow := [
  { base := 0x100, kept := 0xFFFFFFFF } /- SERIAL_LO -/,
  { base := 0x104, kept := 0xFFFFFFFF } /- SERIAL_HI -/,
  { base := 0x108, kept := 0xFFFFFFFF } /- PINMODE -/,
  { base := 0x10C, s1 := 4, n1 := 3, kept := 0xFFFFFFFF } /- GPRSTm -/,
  { base := 0x118, kept := 0xFFFFFFFF } /- KSTAT -/]

/-- The block-specific registers of the TEST pages (R640). -/
def regRowsTEST : List RegRow := [
  { base := 0x100, rw := 0x3F } /- IDLE_SEL -/,
  { base := 0x104 } /- IDLE_CNT -/,
  { base := 0x110, w1c := 0xFFFF } /- TEST_EVT -/,
  { base := 0x200, s1 := 64, n1 := 8, rw := 0xFFFFFFFF } /- SCFG -/,
  { base := 0x204, s1 := 64, n1 := 8, wo := 0x3 } /- SCMD -/,
  { base := 0x208, s1 := 64, n1 := 8 } /- SSTAT -/,
  { base := 0x20C, s1 := 64, n1 := 8 } /- BITS_LO -/,
  { base := 0x210, s1 := 64, n1 := 8 } /- BITS_HI -/,
  { base := 0x214, s1 := 64, n1 := 8 } /- BERR -/,
  { base := 0x218, s1 := 64, n1 := 8 } /- SEC0 -/,
  { base := 0x21C, s1 := 64, n1 := 8 } /- SEC1 -/]

/-- The block-specific registers of the DBG pages (R631). -/
def regRowsDBG : List RegRow := [
  { base := 0x100, wo := 0x300 } /- DLEVEL -/,
  { base := 0x104, wo := 0x1 } /- DROP -/,
  { base := 0x108, rw := 0xF, wo := 0xF0 } /- RUNCTL -/,
  { base := 0x10C, wo := 0xFFFF0007 } /- DBGREQ -/,
  { base := 0x140, s1 := 8, n1 := 16, rw := 0xFFFFFFFD } /- BPk_LO -/,
  { base := 0x144, s1 := 8, n1 := 16, rw := 0xFFFFFFFF } /- BPk_HI -/]

/-- The block-specific registers of the ECORE pages (R193). -/
def regRowsECORE : List RegRow := [
  { base := 0x100, rw := 0x10, w1c := 0x8 } /- CORE_STAT -/,
  { base := 0x104, rw := 0xFFFFFFFC } /- RVEC_LO -/,
  { base := 0x108, rw := 0xFFFFFFFF } /- RVEC_HI -/,
  { base := 0x10C, rw := 0xFFFFF000 } /- EVBASE_LO -/,
  { base := 0x110, rw := 0xFFFFFFFF } /- EVBASE_HI -/,
  { base := 0x114, rw := 0xFFFFFFFF } /- EPC_LO -/,
  { base := 0x118, rw := 0xFFFFFFFF } /- EPC_HI -/,
  { base := 0x11C } /- ECAUSE -/,
  { base := 0x120 } /- EADDR_LO -/,
  { base := 0x124 } /- EADDR_HI -/,
  { base := 0x128, tagLo := some 0 } /- ETAG -/,
  { base := 0x12C, rw := 0x13F } /- CORE_CFG -/,
  { base := 0x130, rwl := 0x1FFFF } /- CWDG_CTRL -/,
  { base := 0x134, wo := 0xFFFFFFFF } /- CWDG_KICK -/,
  { base := 0x138 } /- CWDG_STAT -/,
  { base := 0x140, rw := 0xFFFFFFFF } /- TASK_BUDGET -/,
  { base := 0x150, wo := 0x1 } /- CACHE_OP -/,
  { base := 0x180, s1 := 8, n1 := 8, rwl := 0xFFFFFF } /- WINk_BASE -/,
  { base := 0x184, s1 := 8, n1 := 8, rwl := 0xE0FFFFFF } /- WINk_LIM -/,
  { base := 0x200, s1 := 4, n1 := 32, rw := 0x8C0003FF } /- IRQ_SLOTk -/,
  { base := 0x280 } /- IRQ_SEL -/,
  { base := 0x300 } /- LX_STAT -/,
  { base := 0x304 } /- LX_ISSUED -/,
  { base := 0x308 } /- LX_DONE -/]

/-- The block-specific registers of the TPMC pages (R195). -/
def regRowsTPMC : List RegRow := [
  { base := 0x100, rwl := 0xFF, tagLo := some 0 } /- NTAG -/,
  { base := 0x104 } /- CE_CNT -/,
  { base := 0x108 } /- UE_CNT -/,
  { base := 0x10C } /- ERR_ADDR -/,
  { base := 0x110, rwl := 0xFFFF } /- SCRUB -/,
  { base := 0x118, rw := 0x7FFFFF } /- TAGW_ADDR -/,
  { base := 0x11C, rw := 0xFF, tagLo := some 0 } /- TAGW_DATA -/]

/-- The block-specific registers of the PMC pages (R195). -/
def regRowsPMC : List RegRow := [
  { base := 0x104 } /- CE_CNT -/,
  { base := 0x108 } /- UE_CNT -/,
  { base := 0x10C } /- ERR_ADDR -/,
  { base := 0x110, rwl := 0xFFFF } /- SCRUB -/]

/-- The block-specific registers of the NOR pages (R631). -/
def regRowsNOR : List RegRow := [
  { base := 0x100 } /- NSTAT -/,
  { base := 0x104, wo := 0xFFFFC000 } /- NCMD -/,
  { base := 0x108, rw := 0xFFFFF00 } /- NADDR -/,
  { base := 0x200, s1 := 4, n1 := 64, rw := 0xFFFFFFFF } /- NBUFk -/]

/-- The block-specific registers of the MRAM pages (R585). -/
def regRowsMRAM : List RegRow := [
  { base := 0x100 } /- MSTAT -/,
  { base := 0x104 } /- CE_CNT -/,
  { base := 0x108 } /- UE_CNT -/,
  { base := 0x10C } /- ERR_ADDR -/,
  { base := 0x110 } /- REFUSE -/,
  { base := 0x114, w1c := 0x7 } /- MRAM_EVT -/]

/-- The block-specific registers of the LOOP pages (R285, R308). -/
def regRowsLOOP : List RegRow := [
  { base := 0x100 } /- LD_LAST -/,
  { base := 0x104, wo := 0x80000000 } /- LD_PEAK -/,
  { base := 0x108 } /- EN_CNT -/,
  { base := 0x10C } /- REFUSE -/,
  { base := 0x110, w1c := 0x7 } /- LOOP_EVT -/,
  { base := 0x114, rwl := 0x7FFFFF } /- IMG_BASE -/,
  { base := 0x118, rwl := 0x7FFFFF } /- IMG_STRIDE -/,
  { base := 0x180, s1 := 4, n1 := 16 } /- CFGERRm -/,
  { base := 0x1C0, s1 := 4, n1 := 16, w1c := 0xFFFFFFFF } /- NUMERRm -/,
  { base := 0x200, s1 := 8, n1 := 32, rwl := 0x7FFFFF } /- TSK_SELn -/,
  { base := 0x204, s1 := 8, n1 := 32, rwl := 0x7FFFFF } /- TSK_DLTn -/,
  { base := 0x120, wo := 0x800301FF } /- FIX_CMD -/,
  { base := 0x124 } /- FIX_LAST -/,
  { base := 0x130, w1c := 0x1F } /- SUP_EVT -/,
  { base := 0x300, s1 := 4, n1 := 16 } /- FIXPENDm -/,
  { base := 0x340, s1 := 4, n1 := 16 } /- SUPACTm -/,
  { base := 0x380, s1 := 4, n1 := 16 } /- TRIPm -/]

/-- The block-specific registers of the CAPT pages (R323). -/
def regRowsCAPT : List RegRow := [
  { base := 0x100, w1c := 0xFFFFFFFF } /- CAPT_EVT -/,
  { base := 0x104 } /- CAPT_BUSY -/,
  { base := 0x200, s1 := 128, n1 := 16, rw := 0xF, wo := 0xC0000000 } /- SCTRL -/,
  { base := 0x204, s1 := 128, n1 := 16, rw := 0x81FFFFFF } /- SCLK -/,
  { base := 0x208, s1 := 128, n1 := 16, rw := 0x1FFF } /- BASE -/,
  { base := 0x20C, s1 := 128, n1 := 16, rw := 0x3FFF } /- LEN -/,
  { base := 0x210, s1 := 128, n1 := 16, rw := 0xFFFFFFFF } /- PRE -/,
  { base := 0x214, s1 := 128, n1 := 16, rw := 0xE00701FF } /- TRIG -/,
  { base := 0x218, s1 := 128, n1 := 16, rw := 0xFFFFFFFF } /- TLVL_LO -/,
  { base := 0x21C, s1 := 128, n1 := 16, rw := 0xFFFFFFFF } /- TLVL_HI -/,
  { base := 0x220, s1 := 128, n1 := 16, s2 := 4, n2 := 8, rw := 0xC07FFFFF } /- SIGk -/,
  { base := 0x240, s1 := 128, n1 := 16 } /- COUNT -/,
  { base := 0x244, s1 := 128, n1 := 16 } /- TRIGPOS -/,
  { base := 0x248, s1 := 128, n1 := 16 } /- FIRST -/]

/-- The block-specific registers of the BRKT pages (R329). -/
def regRowsBRKT : List RegRow := [
  { base := 0x100, s1 := 4, n1 := 16 } /- SLOTn -/,
  { base := 0x140, w1c := 0xF } /- BRKT_EVT -/,
  { base := 0x180, s1 := 4, n1 := 16 } /- TUNEm -/]

/-- The block-specific registers of the DG pages (R356). -/
def regRowsDG : List RegRow := [
  { base := 0x100, rwl := 0x1FFFF } /- GCFG -/,
  { base := 0x104 } /- GSTAT -/,
  { base := 0x108 } /- IN_STATE -/,
  { base := 0x10C } /- CHSTAT_LO -/,
  { base := 0x110 } /- CHSTAT_HI -/,
  { base := 0x114, wo := 0xFFFF } /- OUT_CLR -/,
  { base := 0x118 } /- CNT_RX -/,
  { base := 0x11C } /- CNT_FGC -/,
  { base := 0x120 } /- FMAP_LO -/,
  { base := 0x124 } /- FMAP_HI -/,
  { base := 0x128, w1c := 0x7F } /- DG_EVT -/,
  { base := 0x140, s1 := 4, n1 := 16, rw := 0x2007FF, rwl := 0xC70000 } /- CHCFGc -/]

/-- The block-specific registers of the AG pages (R388). -/
def regRowsAG : List RegRow := [
  { base := 0x100, rw := 0x800000, rwl := 0xFF01FFFF } /- GCFG -/,
  { base := 0x104 } /- GSTAT -/,
  { base := 0x10C } /- CHSTAT_LO -/,
  { base := 0x110 } /- CHSTAT_HI -/,
  { base := 0x118 } /- CNT_RX -/,
  { base := 0x11C } /- CNT_FGC -/,
  { base := 0x120 } /- FMAP_LO -/,
  { base := 0x124 } /- FMAP_HI -/,
  { base := 0x128, w1c := 0x1FF } /- AG_EVT -/,
  { base := 0x12C } /- SPSTAT -/,
  { base := 0x140, s1 := 4, n1 := 16, rw := 0x278FFF80, rwl := 0xD8700000 } /- CHCFGc -/,
  { base := 0x180, s1 := 8, n1 := 16, rw := 0xFFFFFFFF } /- LOc -/,
  { base := 0x184, s1 := 8, n1 := 16, rw := 0xFFFFFFFF } /- HIc -/,
  { base := 0x200, s1 := 264, n1 := 4, s2 := 8, n2 := 33, rw := 0xFFFFFFFF } /- TXt_k -/,
  { base := 0x204, s1 := 264, n1 := 4, s2 := 8, n2 := 33, rw := 0xFFFFFFFF } /- TYt_k -/]

/-- The block-specific registers of the TG pages (R389, R388, R356). -/
def regRowsTG : List RegRow := [
  { base := 0x128, w1c := 0xFF } /- TG_EVT -/,
  { base := 0x12C, tagLo := some 24 } /- CJ -/,
  { base := 0x140, s1 := 4, n1 := 16, rwl := 0xFC000000 } /- CHCFGc -/,
  { base := 0x104 } /- GSTAT -/,
  { base := 0x10C } /- CHSTAT_LO -/,
  { base := 0x110 } /- CHSTAT_HI -/,
  { base := 0x11C } /- CNT_FGC -/,
  { base := 0x118 } /- CNT_RX -/,
  { base := 0x100, rwl := 0x1FFFF } /- GCFG -/]

/-- The block-specific registers of the CG pages (R415, R388, R356). -/
def regRowsCG : List RegRow := [
  { base := 0x114, wo := 0xFFFF } /- CLR -/,
  { base := 0x128, w1c := 0x1FF } /- CG_EVT -/,
  { base := 0x12C, wo := 0xFFFF } /- HOME -/,
  { base := 0x140, s1 := 4, n1 := 16, rw := 0x7FEFFC0, rwl := 0xF8000000 } /- CHCFGc -/,
  { base := 0x180, s1 := 8, n1 := 16, rwl := 0xFFFFFC00 } /- SSICFGc -/,
  { base := 0x184, s1 := 8, n1 := 16, rw := 0xFF, rwl := 0xFF00 } /- SSIC2c -/,
  { base := 0x200, s1 := 8, n1 := 16, rw := 0xFFFFFFFF } /- SCALEc -/,
  { base := 0x204, s1 := 8, n1 := 16, wo := 0xFFFFFFFF } /- POSSETc -/,
  { base := 0x300, s1 := 8, n1 := 16, rw := 0xFFFFFFFF } /- ZEXPc -/,
  { base := 0x304, s1 := 8, n1 := 16, rw := 0xFFFFFFFF } /- ZPERc -/,
  { base := 0x380, s1 := 4, n1 := 16, rw := 0xFFFF0000 } /- IXCFGc -/,
  { base := 0x104 } /- GSTAT -/,
  { base := 0x10C } /- CHSTAT_LO -/,
  { base := 0x110 } /- CHSTAT_HI -/,
  { base := 0x118 } /- CNT_RX -/,
  { base := 0x11C } /- CNT_FGC -/,
  { base := 0x100, rwl := 0x1FFFF } /- GCFG -/]

/-- The block-specific registers of the AN pages (R607, R388). -/
def regRowsAN : List RegRow := [
  { base := 0x100, rw := 0xFF000000, rwl := 0x1FFFF } /- GCFG -/,
  { base := 0x114, wo := 0xFFFF } /- OUT_CLR -/,
  { base := 0x128, w1c := 0x1FF } /- AN_EVT -/,
  { base := 0x140, s1 := 4, n1 := 16, rw := 0x2000000, rwl := 0xFC000000 } /- CHCFGc -/,
  { base := 0x180, s1 := 16, n1 := 16, rw := 0xFFFFFFFF } /- SOUNDs_A -/,
  { base := 0x184, s1 := 16, n1 := 16, rw := 0xFFFFFFFF } /- SOUNDs_B -/,
  { base := 0x188, s1 := 16, n1 := 16, rw := 0x1F } /- SOUNDs_C -/,
  { base := 0x300, s1 := 64, n1 := 3, s2 := 4, n2 := 16, rw := 0xFFFFFFFF } /- WAVEt_k -/,
  { base := 0x104 } /- GSTAT -/,
  { base := 0x10C } /- CHSTAT_LO -/,
  { base := 0x110 } /- CHSTAT_HI -/,
  { base := 0x118 } /- CNT_RX -/,
  { base := 0x11C } /- CNT_FGC -/]

/-- The block-specific registers of the SHUT pages (R416). -/
def regRowsSHUT : List RegRow := [
  { base := 0x100, s1 := 4, n1 := 36, rw := 0xFFFFFFFF } /- EDGEm -/,
  { base := 0x200, rwl := 0xFFFF } /- COMP -/,
  { base := 0x204 } /- FIFO_LVL -/,
  { base := 0x208 } /- DROP -/,
  { base := 0x210, s1 := 4, n1 := 8 } /- RECk -/,
  { base := 0x230, wo := 0x1 } /- POP -/,
  { base := 0x234, w1c := 0x3 } /- SHUT_EVT -/]

/-- The block-specific registers of the CSHEET pages (R417). -/
def regRowsCSHEET : List RegRow := [
  { base := 0x100, rwl := 0x7FFFFF } /- RBASE -/,
  { base := 0x104, rwl := 0x7F } /- RCNT -/,
  { base := 0x108, rw := 0xFFFFFFFF } /- T_LO -/,
  { base := 0x10C, rw := 0xFFFFFFFF } /- T_HI -/,
  { base := 0x110, rw := 0xFFFF } /- ID -/,
  { base := 0x114, wo := 0xC0000000 } /- CMD -/,
  { base := 0x118 } /- RESULT -/,
  { base := 0x11C } /- PEND -/,
  { base := 0x120, s1 := 4, n1 := 8 } /- SLOTk -/,
  { base := 0x140 } /- NEXT -/,
  { base := 0x144, w1c := 0xF } /- CS_EVT -/]

/-- The block-specific registers of the SAF pages (R448). -/
def regRowsSAF : List RegRow := [
  { base := 0x100 } /- LSTAT -/,
  { base := 0x104 } /- FAULT -/,
  { base := 0x108 } /- MATRIX_ID -/,
  { base := 0x10C } /- CHECK -/,
  { base := 0x110 } /- STG_ID -/,
  { base := 0x114 } /- STG_CHECK -/,
  { base := 0x118 } /- CFG_RES -/,
  { base := 0x11C } /- PRESS -/,
  { base := 0x120, s1 := 4, n1 := 3 } /- CAUSEm -/,
  { base := 0x130, s1 := 4, n1 := 3 } /- RAWm -/,
  { base := 0x140 } /- DISC0 -/,
  { base := 0x144 } /- DISC1 -/,
  { base := 0x150 } /- EFFECT -/,
  { base := 0x154 } /- LATCHED -/,
  { base := 0x158 } /- OUTCMD -/,
  { base := 0x15C } /- RB_IN -/,
  { base := 0x160 } /- RB_MID -/,
  { base := 0x164 } /- RB_OUT -/,
  { base := 0x168 } /- OUTFLT -/,
  { base := 0x170 } /- CYCLE_LO -/,
  { base := 0x174 } /- CYCLE_HI -/,
  { base := 0x178 } /- TESTS -/,
  { base := 0x17C } /- LOCKCNT -/,
  { base := 0x184, w1c := 0xFF } /- SAF_EVT -/]

/-- The block-specific registers of the TWIN pages (R478). -/
def regRowsTWIN : List RegRow := [
  { base := 0x100 } /- LANE_STAT -/,
  { base := 0x104, s1 := 4, n1 := 2 } /- LANE_CNTk -/,
  { base := 0x10C } /- HB_MISS -/,
  { base := 0x110 } /- SYNC -/,
  { base := 0x114 } /- HASH_LO -/,
  { base := 0x118 } /- HASH_HI -/,
  { base := 0x11C } /- BULK -/,
  { base := 0x120 } /- RELAY -/,
  { base := 0x124, w1c := 0x3F } /- TWIN_EVT -/,
  { base := 0x128, wo := 0xFFFF0001 } /- REJOIN -/]

/-- The block-specific registers of the CLAIM pages (R479). -/
def regRowsCLAIM : List RegRow := [
  { base := 0x100 } /- OWN -/,
  { base := 0x104 } /- PEER -/,
  { base := 0x108, rwl := 0x103FF } /- CFG -/,
  { base := 0x10C, wo := 0xFFFF0001 } /- SWITCH -/,
  { base := 0x110 } /- COUNT -/,
  { base := 0x114 } /- NETHOLD -/,
  { base := 0x118 } /- MOVED -/,
  { base := 0x11C } /- MOVED_X -/,
  { base := 0x120, w1c := 0xF } /- CLAIM_EVT -/]

/-- The block-specific registers of the PROOF pages (R496). -/
def regRowsPROOF : List RegRow := [
  { base := 0x100 } /- SCORE -/,
  { base := 0x104 } /- LATENT_LO -/,
  { base := 0x108 } /- LATENT_HI -/,
  { base := 0x10C, w1c := 0xFFFFFFFF } /- NEW_LO -/,
  { base := 0x110, w1c := 0xFFFFFFFF } /- NEW_HI -/,
  { base := 0x120, wo := 0xC0FFFFFF } /- REQ -/,
  { base := 0x124 } /- REQ_TKT -/,
  { base := 0x128 } /- REQ_RES -/,
  { base := 0x12C } /- ROUND -/,
  { base := 0x130 } /- ROUND_AGE -/,
  { base := 0x134, rw := 0x10000, rwl := 0xFFFF } /- CFG -/,
  { base := 0x138, w1c := 0x7 } /- PROOF_EVT -/,
  { base := 0x140, s1 := 4, n1 := 16 } /- REPORTk -/]

/-- The block-specific registers of the CAN pages (R522). -/
def regRowsCAN : List RegRow := [
  { base := 0x100, rw := 0x1800FF00, rwl := 0xE0000000 } /- CFG -/,
  { base := 0x104, rw := 0xFFFF7F7F } /- NBT -/,
  { base := 0x108, rw := 0x1F1F0F0F } /- DBT -/,
  { base := 0x10C, rw := 0x7F0000 } /- TDC -/,
  { base := 0x110 } /- ESTAT -/,
  { base := 0x114 } /- ERRCNT -/,
  { base := 0x118 } /- RXCNT -/,
  { base := 0x11C } /- TXCNT -/,
  { base := 0x120 } /- LOST -/,
  { base := 0x124 } /- DROPCNT -/,
  { base := 0x128 } /- REJCNT -/,
  { base := 0x12C } /- MAXT -/,
  { base := 0x130, w1c := 0xFF } /- CAN_EVT -/,
  { base := 0x140, s1 := 4, n1 := 4 } /- TXPENDm -/,
  { base := 0x150, s1 := 4, n1 := 4 } /- RXPOSTm -/,
  { base := 0x160, s1 := 4, n1 := 4 } /- TMOm -/]

/-- The block-specific registers of the NET pages (R544, R545). -/
def regRowsNET : List RegRow := [
  { base := 0x100, rw := 0x20000 } /- CFG -/,
  { base := 0x104, s1 := 4, n1 := 2, rw := 0x7FFF, rwl := 0xF0000000 } /- PORTk -/,
  { base := 0x10C, kept := 0xFFFFFFFF } /- MAC_LO -/,
  { base := 0x110, kept := 0xFFFFFFFF } /- MAC_HI -/,
  { base := 0x114, s1 := 4, n1 := 2 } /- ERRk -/,
  { base := 0x11C, s1 := 4, n1 := 3 } /- DROPk -/,
  { base := 0x128, w1c := 0xFF } /- NET_EVT -/,
  { base := 0x180, s1 := 4, n1 := 64, rwl := 0x8FFF0707 } /- VLANv -/,
  { base := 0x280, s1 := 4, n1 := 8, rw := 0x8FFFFFFF } /- RXCLSr -/,
  { base := 0x300, s1 := 16, n1 := 8, rw := 0x3FFFFFE0 } /- TX_RBASE -/,
  { base := 0x380, s1 := 16, n1 := 8, rw := 0x3FFFFFE0 } /- RX_RBASE -/,
  { base := 0x304, s1 := 16, n1 := 8, rw := 0x8007000F } /- TX_RCTL -/,
  { base := 0x384, s1 := 16, n1 := 8, rw := 0x8007000F } /- RX_RCTL -/,
  { base := 0x308, s1 := 16, n1 := 8 } /- TX_RHEAD -/,
  { base := 0x388, s1 := 16, n1 := 8 } /- RX_RHEAD -/,
  { base := 0x30C, s1 := 16, n1 := 8, rw := 0xFFF } /- TX_RTAIL -/,
  { base := 0x38C, s1 := 16, n1 := 8, rw := 0xFFF } /- RX_RTAIL -/,
  { base := 0x400, rwl := 0x8FFFFFFF } /- DD_CFG -/,
  { base := 0x404, rwl := 0xFF } /- TW_EPOCH -/,
  { base := 0x408 } /- DD_CNT0 -/,
  { base := 0x40C } /- DD_CNT1 -/,
  { base := 0x410 } /- DD_USED -/]

/-- The block-specific registers of the TIME pages (R567). -/
def regRowsTIME : List RegRow := [
  { base := 0x100 } /- LTB_LO -/,
  { base := 0x104 } /- LTB_HI -/,
  { base := 0x110, s1 := 32, n1 := 2 } /- DCn_LO -/,
  { base := 0x114, s1 := 32, n1 := 2 } /- DCn_HI -/,
  { base := 0x118, s1 := 32, n1 := 2, rw := 0xFFFFFFFF } /- DCn_INC_LO -/,
  { base := 0x11C, s1 := 32, n1 := 2, rw := 0xFFFFFFFF } /- DCn_INC_HI -/,
  { base := 0x120, s1 := 32, n1 := 2, wo := 0xFFFFFFFF } /- DCn_SLEW -/,
  { base := 0x124, s1 := 32, n1 := 2 } /- DCn_PEND -/,
  { base := 0x128, s1 := 32, n1 := 2, wo := 0xFFFFFFFF } /- DCn_SET_LO -/,
  { base := 0x12C, s1 := 32, n1 := 2, wo := 0xFFFFFFFF } /- DCn_SET_HI -/,
  { base := 0x150, s1 := 4, n1 := 2, rw := 0xC0000000, rwl := 0x3FF0FFFF } /- DC_CTRLn -/,
  { base := 0x158, wo := 0x3 } /- DC_KICK -/,
  { base := 0x160 } /- OTS_LO -/,
  { base := 0x164 } /- OTS_HI -/,
  { base := 0x168, rw := 0x1000000, rwl := 0x807F0000 } /- OTS_CTRL -/,
  { base := 0x16C, rwl := 0xFFFFFFFF } /- OTS_STEP -/,
  { base := 0x170 } /- OTS_STAT -/,
  { base := 0x174, w1c := 0x3FF } /- TIME_EVT -/,
  { base := 0x178 } /- OTS_DIFF -/,
  { base := 0x180, rwl := 0xCF000000 } /- TC_CFG -/,
  { base := 0x184, s1 := 4, n1 := 4 } /- PORT_LDLYk -/,
  { base := 0x194 } /- TC_CNT0 -/,
  { base := 0x198 } /- TC_CNT1 -/,
  { base := 0x19C, rwl := 0x80070007 } /- PTP_RING -/,
  { base := 0x1A0, s1 := 4, n1 := 2, rwl := 0x8F0000FF } /- DOM_CFGn -/,
  { base := 0x1C0, s1 := 32, n1 := 2 } /- TSFn_LVL -/,
  { base := 0x1C4, s1 := 32, n1 := 2, s2 := 4, n2 := 6 } /- TSFn_RECk -/,
  { base := 0x1DC, s1 := 32, n1 := 2, wo := 0x1 } /- TSFn_POP -/,
  { base := 0x200, rw := 0xC000FFFF } /- TPI_CFG -/,
  { base := 0x204 } /- TPI_LVL -/,
  { base := 0x208, s1 := 4, n1 := 10 } /- TPI_RECk -/,
  { base := 0x230, wo := 0x1 } /- TPI_POP -/,
  { base := 0x234 } /- TPI_STAT -/,
  { base := 0x240, rw := 0xC007FFFF } /- TPO_CFG -/]

/-- The block-specific registers of the RTC pages (R584). -/
def regRowsRTC : List RegRow := [
  { base := 0x100, kept := 0x7FFF } /- TIME0 -/,
  { base := 0x104, kept := 0x3F } /- TIME1 -/,
  { base := 0x108, kept := 0x3F } /- TIME2 -/,
  { base := 0x10C, kept := 0x1F } /- TIME3 -/,
  { base := 0x110, kept := 0x1F } /- TIME4 -/,
  { base := 0x114, kept := 0xF } /- TIME5 -/,
  { base := 0x118, kept := 0xFFFF } /- TIME6 -/,
  { base := 0x11C, kept := 0xFF000107, tagLo := some 24 } /- TIME7 -/,
  { base := 0x124, s1 := 4, n1 := 6, rw := 0xFFFF, kept := 0xFFFF } /- WTIMEk -/,
  { base := 0x140, wo := 0xFFFF0001 } /- SET -/,
  { base := 0x144, rwl := 0xFF, kept := 0xFF } /- CAL -/,
  { base := 0x148, tagLo := some 24 } /- CELL -/,
  { base := 0x14C, kept := 0x5 } /- RTC_STAT -/,
  { base := 0x150, kept := 0xFFFFFFFF } /- BKSW0 -/,
  { base := 0x154, kept := 0xFFFFFF } /- BKSW1 -/,
  { base := 0x158, kept := 0x7FFF } /- BKSW2 -/,
  { base := 0x15C, wo := 0x40000000, kept := 0x8000FFFF } /- BKSW3 -/,
  { base := 0x160, w1c := 0xF } /- RTC_EVT -/]

/-- The block-specific registers of the DISP pages (R606). -/
def regRowsDISP : List RegRow := [
  { base := 0x100, rw := 0xFFFFFF } /- DCFG -/,
  { base := 0x104, kept := 0x4000000 } /- DSTAT -/,
  { base := 0x108, wo := 0x1 } /- FLIP -/,
  { base := 0x10C, tagLo := some 24 } /- CRACK -/,
  { base := 0x140, s1 := 32, n1 := 2, s2 := 4, n2 := 6, rw := 0xFFFFFFFF, kept := 0xFFFFFFFF } /- PGp_Wk -/,
  { base := 0x158, s1 := 32, n1 := 2, rw := 0xFFFF, kept := 0xFFFF } /- PGp_W6 -/,
  { base := 0x180, kept := 0xFFFF } /- SL_STAT -/,
  { base := 0x184, rwl := 0x1, kept := 0x1 } /- SL_CFG -/,
  { base := 0x188, wo := 0xFFFF0001 } /- LAMPTEST -/,
  { base := 0x18C, w1c := 0xF } /- DISP_EVT -/]

/-- The register rows of a block type. -/
def regRows (blk : Nat) : List RegRow :=
  match blk with
  | 0x0 => regRowsSYS
  | 0x1 => regRowsCLK
  | 0x2 => regRowsRST
  | 0x3 => regRowsPWR
  | 0x4 => regRowsSEC
  | 0x5 => regRowsOTP
  | 0x6 => regRowsTEST
  | 0x7 => regRowsDBG
  | 0x10 => regRowsECORE
  | 0x20 => regRowsTPMC
  | 0x21 => regRowsPMC
  | 0x22 => regRowsNOR
  | 0x23 => regRowsMRAM
  | 0x40 => regRowsLOOP
  | 0x41 => regRowsCAPT
  | 0x42 => regRowsBRKT
  | 0x80 => regRowsDG
  | 0xA0 => regRowsAG
  | 0xB0 => regRowsTG
  | 0xB4 => regRowsCG
  | 0xB8 => regRowsAN
  | 0xB9 => regRowsSHUT
  | 0xBA => regRowsCSHEET
  | 0xC0 => regRowsSAF
  | 0xD0 => regRowsTWIN
  | 0xD1 => regRowsCLAIM
  | 0xD2 => regRowsPROOF
  | 0xE0 => regRowsCAN
  | 0xF0 => regRowsNET
  | 0xF2 => regRowsTIME
  | 0xF8 => regRowsRTC
  | 0xF9 => regRowsDISP
  | _ => []

/-- The row of the register with key `k`; none for a common register, a reserved offset or a page that is not listed. -/
def regRowOf (k : Nat) : Option RegRow :=
  (regRows (pageBlock (k / 4096))).find? fun r => r.covers (k % 4096)

/-- The bits of the register with key `k` that live in AON, or show fuses, and are kept by a reset of the logic side ("Kept" and "fuse" of
R105). -/
def keptMask (k : Nat) : BitVec 32 :=
  if k % 4096 < 0x100 then 0 else BitVec.ofNat 32 (((regRowOf k).map (·.kept)).getD 0)

end Sys2Proof.Machine
end

