-- ==== Sys2Proof/Machine/Ops.lean ====
section
/-! DEFINITION. The operations every meaning is built from: sparse maps, the raw content of registers and their fields, power
domains and isolation, and the free values. -/

namespace Sys2Proof.Machine

/-! ## Sparse maps -/

/-- What the map `m` with default `d` holds at key `k`. -/
def sget {α : Type} (d : Nat → α) : Sparse α → Nat → α
  | [], k => d k
  | (a, v) :: m, k => if a = k then v else sget d m k

/-- Put `v` at key `k`, keeping the keys in rising order. -/
def sins {α : Type} : Sparse α → Nat → α → Sparse α
  | [], k, v => [(k, v)]
  | (a, w) :: m, k, v =>
    if k < a then (k, v) :: (a, w) :: m
    else if k = a then (k, v) :: m
    else (a, w) :: sins m k v

/-- Remove key `k`. -/
def sdel {α : Type} (m : Sparse α) (k : Nat) : Sparse α := m.filter fun e => !(e.1 == k)

/-- Store `v` at key `k`: a value equal to what an unlisted key reads as is not listed. -/
def sset {α : Type} [DecidableEq α] (d : Nat → α) (m : Sparse α) (k : Nat) (v : α) : Sparse α :=
  if v = d k then sdel m k else sins m k v

/-- The keys rise strictly. -/
def keysRise {α : Type} : Sparse α → Bool
  | [] => true
  | [_] => true
  | (a, _) :: (b, w) :: m => decide (a < b) && keysRise ((b, w) :: m)

/-- The canonical form: keys strictly rising, and no entry equal to what an unlisted key reads as. -/
def swf {α : Type} [DecidableEq α] (d : Nat → α) (m : Sparse α) : Bool :=
  keysRise m && m.all fun e => !decide (e.2 = d e.1)

/-- The default of a map whose unlisted entries all hold `v`. -/
def dflt {α : Type} (v : α) : Nat → α := fun _ => v

/-! ## Registers -/

/-- The content of the register with key `k`. -/
def State.reg (s : State) (k : Nat) : W32 := sget regDefault s.regs k

/-- Store `v` in the register with key `k`. -/
def State.setReg (s : State) (k : Nat) (v : W32) : State := { s with regs := sset regDefault s.regs k v }

/-- The mask of the field of `w` bits from bit `lo` on. -/
def fieldMask (lo w : Nat) : W32 := BitVec.ofNat 32 ((2 ^ w - 1) * 2 ^ lo)

/-- The field of `w` bits from bit `lo` on. -/
def fieldOf (v : W32) (lo w : Nat) : Nat := (v >>> lo).toNat % 2 ^ w

/-- `v` with `n` in the field of `w` bits from bit `lo` on. -/
def withField (v : W32) (lo w n : Nat) : W32 :=
  (v &&& ~~~ fieldMask lo w) ||| (BitVec.ofNat 32 (n % 2 ^ w) <<< lo)

/-- A field of the register with key `k`. -/
def State.fld (s : State) (k lo w : Nat) : Nat := fieldOf (s.reg k) lo w

/-- Store `n` in a field of the register with key `k`. -/
def State.setFld (s : State) (k lo w n : Nat) : State := s.setReg k (withField (s.reg k) lo w n)

/-- Bit `b` of the register with key `k`. -/
def State.flag (s : State) (k b : Nat) : Bool := (s.reg k).getLsbD b

/-- Set or clear bit `b` of the register with key `k`. -/
def State.setFlag (s : State) (k b : Nat) (on : Bool) : State := s.setFld k b 1 on.toNat

/-- Set every bit of `m` in the register with key `k`. -/
def State.orReg (s : State) (k : Nat) (m : W32) : State := s.setReg k (s.reg k ||| m)

/-- Clear every bit of `m` in the register with key `k`. -/
def State.andNotReg (s : State) (k : Nat) (m : W32) : State := s.setReg k (s.reg k &&& ~~~ m)

/-- Count `n` more in a counter field that stops at its greatest value. -/
def State.countSat (s : State) (k lo w n : Nat) : State := s.setFld k lo w (min (s.fld k lo w + n) (2 ^ w - 1))

/-- Count `n` more in a counter field that wraps. -/
def State.countMod (s : State) (k lo w n : Nat) : State := s.setFld k lo w (s.fld k lo w + n)

/-- What a register holds after a reset that reaches its page: its reset value, but for the bits that AON keeps. -/
def afterReset (k : Nat) (v : W32) : W32 := (v &&& keptMask k) ||| (regDefault k &&& ~~~ keptMask k)

/-- The registers with those that `sel` selects reset. -/
def resetSome (sel : Nat → Bool) (m : Sparse W32) : Sparse W32 :=
  m.foldl (fun r e => if sel e.1 then sset regDefault r e.1 (afterReset e.1 e.2) else r) m

/-- Every register that `sel` selects is reset, and nothing of it is frozen any longer (R147). -/
def State.resetRegs (s : State) (sel : Nat → Bool) : State :=
  { s with
    regs := resetSome sel s.regs
    frozen := s.frozen.filter fun e => !sel e.1 }

/-- Bit `n` of a bitmap of words from the register with key `base` on, 32 bits in each. -/
def State.mapBit (s : State) (base n : Nat) : Bool := s.flag (base + 4 * (n / 32)) (n % 32)

/-- Set or clear bit `n` of a bitmap of words from the register with key `base` on. -/
def State.setMapBit (s : State) (base n : Nat) (on : Bool) : State :=
  s.setFlag (base + 4 * (n / 32)) (n % 32) on

/-- The 64-bit value of a register pair, low word at key `lo`. -/
def State.reg64 (s : State) (lo : Nat) : W64 := (s.reg (lo + 4)) ++ (s.reg lo)

/-- Store a 64-bit value in a register pair, low word at key `lo`. -/
def State.setReg64 (s : State) (lo : Nat) (v : W64) : State :=
  (s.setReg lo (v.setWidth 32)).setReg (lo + 4) ((v >>> 32).setWidth 32)

/-! ## Power domains (R79, R80, R92) -/

/-- The domain of a page (R143); PD01 for a page that is not listed. -/
def pageDomain (p : Nat) : Nat := ((pageInfo p).map (·.2.2)).getD 1

/-- STATE of a domain: 0 OFF, 1 rising, 2 ON, 3 draining (R81). -/
def State.domState (s : State) (d : Nat) : Nat := s.fld (Reg.PWR_PD_STATE0 + 4 * (d / 16)) (2 * (d % 16)) 2

/-- Store the STATE of a domain. -/
def State.setDomState (s : State) (d v : Nat) : State :=
  s.setFld (Reg.PWR_PD_STATE0 + 4 * (d / 16)) (2 * (d % 16)) 2 v

/-- Instance `n` of ECORE: its page. -/
def ecorePage (n : Nat) : Nat := 0x010 + n

/-- The key of a register of core `c`'s page. -/
def coreKey (c off : Nat) : Nat := rk (ecorePage c) off

/-- The pages that a domain holds, in the directory of R143. -/
def domainPages (d : Nat) : List Nat :=
  (List.range 0x100).filter fun p => match pageInfo p with
    | some (_, _, e) => e == d
    | none => false

/-! ## Free values -/

/-- A value that the spec leaves open. DESIGN CHOICE: log entry 3. -/
def State.freeVal (s : State) : W64 := Config.freeValue s.free

/-- The next free value is another one. DESIGN CHOICE: log entry 3. -/
def State.drawn (s : State) : State := { s with free := s.free + 1 }

/-! ## Time, as the log and the records carry it -/

/-- OTS in nanoseconds (R548). -/
def State.otsNs (s : State) : W64 := (s.time.ots >>> 32).setWidth 64

/-! ## Cores -/

/-- What core `c` holds. -/
def State.core (s : State) (c : Nat) : Core := sget (dflt {}) s.cores c

/-- Store what core `c` holds. -/
def State.setCore (s : State) (c : Nat) (x : Core) : State := { s with cores := sset (dflt {}) s.cores c x }

/-- A general register of a core; G0 reads 0 with tag 0x00 (R169). DESIGN CHOICE: log entry 11. -/
def State.greg (s : State) (c r : Nat) : TWord := if r = 0 then {} else sget (dflt {}) (s.core c).g r

/-- Write a general register of a core; a write to G0 has no effect (R169). -/
def State.setGreg (s : State) (c r : Nat) (v : TWord) : State :=
  if r = 0 then s else s.setCore c { s.core c with g := sset (dflt {}) (s.core c).g r v }

/-- Add `v` to a list that holds no element twice. -/
def insertNew (l : List Nat) (v : Nat) : List Nat := if l.contains v then l else l ++ [v]

end Sys2Proof.Machine
end

