-- ==== Sys2Proof/Machine/Flags.lean ====
section
/-! DEFINITION. Flags, interrupts, faults and events: the interrupt registers of every page (R149), FAULT_CAUSE (R150), the
severity of every cause (R159, R161 and the tables of the chapters) and the event log's queue (R158 to R164). -/

namespace Sys2Proof.Machine

/-! ## Interrupts (R149) -/

/-- The offset of the event register whose OR is bit 0 of a block's IRQ_RAW (R101, R323, R329, R356, R388, R389, R415 to R417,
R448, R478, R479, R496, R522, R544, R567, R584, R585, R606, R607, R630, R640). -/
def evtOffset (blk : Nat) : Option Nat :=
  match blk with
  | 0x01 => some 0x108 | 0x04 => some 0x1D4 | 0x06 => some 0x110 | 0x23 => some 0x114 | 0x41 => some 0x100
  | 0x42 => some 0x140 | 0x80 => some 0x128 | 0xA0 => some 0x128 | 0xB0 => some 0x128 | 0xB4 => some 0x128
  | 0xB8 => some 0x128 | 0xB9 => some 0x234 | 0xBA => some 0x144 | 0xC0 => some 0x184 | 0xD0 => some 0x124
  | 0xD1 => some 0x120 | 0xD2 => some 0x138 | 0xE0 => some 0x130 | 0xF0 => some 0x128 | 0xF2 => some 0x174
  | 0xF8 => some 0x160 | 0xF9 => some 0x18C
  | _ => none

/-- A condition as the value of an interrupt bit. -/
def bitIf (c : Bool) (n : Nat) : W32 := if c then 1#32 <<< n else 0

/-- The bits of IRQ_RAW that a block's chapters assign (R52, R92, R149, R163, R193, R254, R308): those that IRQ_EN and IRQ_PEND have.
DEDUCED: log entry 15. -/
def irqBits (blk : Nat) : W32 :=
  match blk with
  | 0x00 => 0x70 | 0x02 => 1 | 0x03 => 0xF | 0x10 => 7 | 0x20 => 1 | 0x21 => 1 | 0x40 => 0x3F
  | b => if (evtOffset b).isSome then 1 else 0

/-- The interrupt conditions of a page (IRQ_RAW) that hold as long as a register shows them. The conditions that last one
CLK_FAB cycle only are `State.pulseIrq`. -/
def State.irqRaw (s : State) (p : Nat) : W32 :=
  match pageBlock p with
  | 0x00 => bitIf (s.reg Reg.SYS_CT_EVT != 0) 4 ||| bitIf (s.fld Reg.SYS_EVLOG_STAT 16 16 != 0) 5
  | 0x02 => bitIf (decide (s.fld Reg.RST_WDG_STAT 16 16 * 4 < s.fld Reg.RST_WDG_CTRL 0 16)) 0
  | 0x03 => bitIf (s.reg Reg.PWR_SUP_EVT != 0) 0
      ||| bitIf (s.reg Reg.PWR_FSUP_EVT != 0 || s.reg Reg.PWR_FSUP_DG_EVT != 0) 1
      ||| bitIf (s.flag Reg.PWR_SUP_STAT 8) 2
  | 0x40 => bitIf (s.reg Reg.LOOP_LOOP_EVT != 0) 0 ||| ((s.reg Reg.LOOP_SUP_EVT &&& 0x1F) <<< 1)
  | b => match evtOffset b with
    | some o => bitIf (s.reg (rk p o) != 0) 0
    | none => 0

/-- IRQ_PEND of a page takes every bit of `raw` that IRQ_EN enables (R149). DEDUCED: log entry 15. -/
def State.pendIrq (s : State) (p : Nat) (raw : W32) : State :=
  s.orReg (rk p Reg.IRQ_PEND) (raw &&& s.reg (rk p Reg.IRQ_EN))

/-- R149 in a cycle in which the conditions of page `p` may have changed. -/
def State.irqUpdate (s : State) (p : Nat) : State := s.pendIrq p (s.irqRaw p)

/-- A condition of bit `n` of page `p` that lasts one CLK_FAB cycle. -/
def State.pulseIrq (s : State) (p n : Nat) : State := s.pendIrq p (1#32 <<< n)

/-- Set bit `b` of the event register with key `k`; the page's interrupt follows. -/
def State.setEvt (s : State) (k b : Nat) : State := (s.setFlag k b true).irqUpdate (k / 4096)

/-! ## Severities -/

/-- The severity of a cause of a page, 0 INFO to 4 CRITICAL (R159, R161 and the chapters' tables). The severity of cause 0x01
of PROOF comes from its class (R492) and that of a software post from its writer (R164): both give it themselves. -/
def severity (src cause : Nat) : Nat :=
  if cause = 0xF4 then 2 else if 0xF0 ≤ cause then 1 else
  match pageBlock src with
  | 0x0 => if [0x42, 0x43, 0x50, 0x5A, 0x66].contains cause then 1 else if [0x40, 0x41, 0x44, 0x46, 0x51, 0x55, 0x59, 0x60, 0x61, 0x62, 0x68, 0x69].contains cause then 2 else if [0x45, 0x52, 0x63, 0x64, 0x6A].contains cause then 3 else if [0x65].contains cause then 4 else 0
  | 0x1 => if [0x30].contains cause then 2 else 0
  | 0x2 => if [0x01, 0x03, 0x05, 0x06, 0x12, 0x13, 0x20, 0x21, 0x22].contains cause then 1 else if [0x02, 0x04, 0x07, 0x08, 0x11, 0x23].contains cause then 3 else 0
  | 0x3 => if [0x22, 0x25, 0x31].contains cause then 1 else if [0x01, 0x02, 0x03, 0x07, 0x10, 0x11, 0x12, 0x23, 0x24, 0x26].contains cause then 2 else if [0x05].contains cause then 3 else 0
  | 0x4 => if [0x01, 0x03, 0x04, 0x05, 0x06].contains cause then 1 else if [0x02, 0x07, 0x09].contains cause then 2 else 0
  | 0x6 => if [0x03, 0x05, 0x10, 0x12].contains cause then 1 else if [0x04].contains cause then 2 else if [0x11].contains cause then 3 else 0
  | 0x10 => if [0x11].contains cause then 1 else if [0x10].contains cause then 2 else if [0x13].contains cause then 3 else 0
  | 0x20 => if [0x01].contains cause then 1 else if [0x02].contains cause then 3 else 0
  | 0x21 => if [0x01].contains cause then 1 else if [0x02].contains cause then 3 else 0
  | 0x22 => if [0x01].contains cause then 1 else 0
  | 0x23 => if [0x01, 0x03].contains cause then 1 else if [0x05].contains cause then 2 else if [0x02].contains cause then 3 else 0
  | 0x40 => if [0x04, 0x06, 0x1A, 0x23, 0x25].contains cause then 1 else if [0x01, 0x03, 0x10, 0x12, 0x14, 0x16, 0x21, 0x30].contains cause then 2 else if [0x18].contains cause then 3 else 0
  | 0x41 => if [0x04, 0x05].contains cause then 1 else 0
  | 0x42 => if [0x04, 0x06].contains cause then 1 else if [0x03].contains cause then 2 else 0
  | 0x80 => if [0x11, 0x12, 0x15, 0x16, 0x17].contains cause then 1 else if [0x01, 0x03, 0x05, 0x06, 0x07, 0x08, 0x13].contains cause then 2 else if [0x10].contains cause then 3 else 0
  | 0xA0 => if [0x11, 0x12, 0x15, 0x16, 0x17, 0x18].contains cause then 1 else if [0x01, 0x03, 0x05, 0x06, 0x07, 0x09, 0x13].contains cause then 2 else if [0x0B, 0x10].contains cause then 3 else 0
  | 0xB0 => if [0x11, 0x12, 0x15, 0x16, 0x17].contains cause then 1 else if [0x01, 0x03, 0x05, 0x07, 0x13].contains cause then 2 else if [0x10].contains cause then 3 else 0
  | 0xB4 => if [0x0A, 0x11, 0x12, 0x15, 0x16, 0x17].contains cause then 1 else if [0x01, 0x04, 0x05, 0x06, 0x07, 0x08, 0x13].contains cause then 2 else if [0x10].contains cause then 3 else 0
  | 0xB8 => if [0x0A, 0x11, 0x12, 0x15, 0x16, 0x17].contains cause then 1 else if [0x01, 0x03, 0x05, 0x07, 0x08, 0x13].contains cause then 2 else if [0x06, 0x10].contains cause then 3 else 0
  | 0xB9 => if [0x02].contains cause then 1 else if [0x01].contains cause then 2 else 0
  | 0xBA => if [0x06].contains cause then 1 else if [0x03, 0x04, 0x05].contains cause then 2 else 0
  | 0xC0 => if [0x02, 0x05, 0x09, 0x0A, 0x0C, 0x0D].contains cause then 1 else if [0x03, 0x06, 0x07, 0x08, 0x0B, 0x0F].contains cause then 2 else if [0x01].contains cause then 4 else 0
  | 0xD0 => if [0x02, 0x04, 0x05, 0x0A, 0x0D].contains cause then 2 else if [0x03, 0x08, 0x09].contains cause then 3 else 0
  | 0xD1 => if [0x02, 0x03, 0x0B, 0x0C].contains cause then 1 else if [0x04, 0x06, 0x09, 0x0A].contains cause then 2 else if [0x01, 0x05].contains cause then 4 else 0
  | 0xD2 => if [0x03, 0x05].contains cause then 1 else if [0x07].contains cause then 2 else if [0x06].contains cause then 4 else 0
  | 0xE0 => if [0x04, 0x06, 0x09, 0x0C, 0x0D, 0x10].contains cause then 1 else if [0x01, 0x05, 0x07, 0x0B, 0x0E, 0x0F, 0x11].contains cause then 2 else if [0x03].contains cause then 3 else 0
  | 0xF0 => if [0x03, 0x05, 0x06, 0x09, 0x0C].contains cause then 1 else if [0x02, 0x04, 0x07, 0x0A, 0x0B, 0x0D].contains cause then 2 else 0
  | 0xF2 => if [0x03, 0x04, 0x05, 0x0B, 0x0D, 0x0E].contains cause then 1 else if [0x02, 0x06, 0x08, 0x09, 0x0C].contains cause then 2 else 0
  | 0xF8 => if [0x02, 0x03, 0x07].contains cause then 1 else if [0x01, 0x04, 0x08].contains cause then 2 else if [0x05].contains cause then 3 else 0
  | 0xF9 => if [0x02].contains cause then 2 else if [0x03].contains cause then 3 else 0
  | _ => 0

/-! ## Faults (R148, R150) -/

/-- A page records a fault of cause `cause`. -/
def State.recordFault (s : State) (p cause : Nat) : State :=
  let k := rk p Reg.FAULT_CAUSE
  let s := s.countSat k 8 8 1
  let s := if s.fld k 0 8 = 0 then s.setFld k 0 8 cause else s
  s.setFlag (rk p Reg.STAT) 2 true

/-! ## The event log (R158 to R164) -/

/-- An event code (R158). -/
def eventCode (src chan cause : Nat) : W32 := BitVec.ofNat 32 (src % 4096 * 2 ^ 20 + chan % 4096 * 2 ^ 8 + cause % 256)

/-- ROLE of a record: side code and role (R160). -/
def State.roleByte (s : State) : Byte :=
  BitVec.ofNat 8 (s.fld Reg.SYS_CT_ID 0 2 * 64 + s.fld Reg.CLAIM_OWN 16 3)

/-- The record that an event makes when it enters the queue now. -/
def State.mkRec (s : State) (code : W32) (sev : Nat) (data : W64) : LogRec :=
  { ots := s.otsNs, ltb := s.time.ltb, data := data, code := code, role := s.roleByte, sev := BitVec.ofNat 8 sev }

/-- A record enters the logger's queue of 64, or is dropped and counted (R162). -/
def State.enqueue (s : State) (r : LogRec) : State :=
  if s.log.queue.length < 64 then { s with log := { s.log with queue := s.log.queue ++ [r] } }
  else
    (({ s with log := { s.log with drops := s.log.drops + 1 } }).countSat Reg.SYS_EVLOG_STAT 16 16 1).irqUpdate 0x000

/-- The record of cause 0xF4 enters the queue once it has room again, whatever MINSEV is (R159, R162). DESIGN CHOICE: log entry 116. -/
def State.enqueueLost (s : State) : State :=
  if s.log.drops = 0 ∨ 64 ≤ s.log.queue.length then s
  else
    let r := s.mkRec (eventCode 0x000 0xFFF 0xF4) 2 (BitVec.ofNat 64 s.log.drops)
    { s with log := { s.log with queue := s.log.queue ++ [r], drops := 0 } }

/-- An event of a page with a severity given. -/
def State.logSev (s : State) (src chan cause sev : Nat) (data : W64) : State :=
  let s := if 3 ≤ sev then s.recordFault src cause else s
  if sev < s.fld Reg.SYS_EVLOG_CTRL 0 8 then s else s.enqueue (s.mkRec (eventCode src chan cause) sev data)

/-- An event of a page (R158, R162). -/
def State.logEvt (s : State) (src chan cause : Nat) (data : W64 := 0) : State :=
  s.logSev src chan cause (severity src cause) data

/-! ## Fields of quality tags (R171) -/

/-- A tag from its Q, cause and the F and S bits. -/
def mkTag (q cause : Nat) : Tag := BitVec.ofNat 8 (q % 4 * 64 + cause % 8 * 8)

end Sys2Proof.Machine
end

