-- ==== Sys2Proof/Machine/Operands.lean ====
section
/-! DEFINITION. The forms in which a register access reaches the block: the gate an access passes before it takes effect (R80,
R141 to R144, R157, R193, R619 to R621), the lock (R151 to R153), the count of accepted writes (R154) and the plain write of a
register's fields. -/

namespace Sys2Proof.Machine

/-- The last access from outside the cores completes with a response. -/
def State.respond (s : State) (r : Resp) : State := { s with bus := { resp := r } }

/-- The tag that a write brings: a master that carries no tag stores with tag 0x00 (R157). -/
def writeTag (w : Writer) : Tag :=
  match w.master with
  | .dbg | .dmaA | .dmaB | .proof => 0
  | _ => w.tag

/-- The registers of the Darkslide wrapper (R80, R145). -/
def wrapperOffset (off : Nat) : Bool :=
  off == Reg.PID || off == Reg.CAP || off == Reg.STAT || off == Reg.PWR_REQ

/-- The port of the block is closed: its domain is not ON (R80), or a block reset of it runs (R116); a core
reset closes no port (R113). -/
def State.isolated (s : State) (p : Nat) : Bool :=
  s.domState (pageDomain p) != 2 || (s.flag (rk p Reg.CTRL) 1 && !decide (0x010 ≤ p ∧ p ≤ 0x013))

/-- The debug level of the debug port (R621): 0 NONE to 3 FULL. -/
def State.debugLevel (s : State) : Nat := s.fld Reg.DBG_DLEVEL 0 2

/-- The master's privilege or debug level does not allow the write (R193, R621). -/
def State.privRefused (s : State) (m : Master) (p off : Nat) : Bool :=
  match m with
  | .dbg =>
    if p = 0x006 then decide (s.debugLevel < 3)
    else if p = 0x007 then decide (s.debugLevel < 1)
    else decide (s.debugLevel < 2) || p == 0x0C0 || p == 0x0C1
  | .core n =>
    decide (0x010 ≤ p ∧ p ≤ 0x013 ∧ p ≠ 0x010 + n.val) &&
      !(off == 0x104 || off == 0x108 || off == Reg.CTRL || off == 0x150 || off == Reg.PWR_REQ || off == 0x134)
  | _ => false

/-- The register at offset `off` of page `p` is one that a chapter assigns at 0x100 or above. -/
def assigned (p off : Nat) : Bool := decide (0x100 ≤ off) && (regRowOf (rk p off)).isSome

/-- TAG_CFG of the page refuses a store with tag `t` (R156, R157). -/
def State.tagRefused (s : State) (p off : Nat) (t : Tag) : Bool :=
  let c := s.reg (rk p Reg.TAG_CFG)
  let q := t.toNat / 64
  let fs := t.getLsbD 2 || t.getLsbD 1
  assigned p off && ((fs && fieldOf c 8 1 == 0)
    || (fieldOf c 4 2 == 1 && decide (2 ≤ q)) || (fieldOf c 4 2 == 2 && decide (q ≠ 0)))

/-- The response that the gate gives a write to offset `off` of page `p`, before the tag check: of several errors the first in the order
decode, size, isolation, privilege. DESIGN CHOICE: log entry 117. -/
def State.gate (s : State) (m : Master) (p off : Nat) : Resp :=
  if (pageInfo p).isNone then .errDecode
  else if off % 4 ≠ 0 ∨ 0x1000 ≤ off then .errSize
  else if !wrapperOffset off && s.isolated p then .errIsolated
  else if s.privRefused m p off then .errPriv
  else .okay

/-- The data of the events 0xF0 to 0xF2 (R159). -/
def refusalData (m tag off value : Nat) : W64 :=
  BitVec.ofNat 64 (m % 256 * 2 ^ 56 + tag % 256 * 2 ^ 48 + off % 4096 * 2 ^ 32 + value % 2 ^ 32)

/-- An event of the causes 0xF0 to 0xF2 (R159). -/
def State.logRefusal (s : State) (p cause : Nat) (w : Writer) (off : Nat) (v : W32) : State :=
  s.logEvt p 0xFFF cause (refusalData w.master.num (writeTag w).toNat off v.toNat)

/-- REFUSED counts one more (R151). -/
def State.countRefused (s : State) (p : Nat) : State := s.countSat (rk p Reg.LOCK) 8 8 1

/-- WSEQ counts one more (R154). DEDUCED: log entry 14. -/
def State.countWrite (s : State) (p : Nat) : State := s.countMod (rk p Reg.WSEQ) 0 32 1

/-- A register write as it arrives: the gate, then the tag check, then its effect `f` (R141, R157). -/
def State.access (s : State) (w : Writer) (p off : Nat) (v : W32) (f : State → State) : State :=
  match s.gate w.master p off with
  | .okay =>
    if s.tagRefused p off (writeTag w) then
      ((s.countRefused p).logRefusal p 0xF2 w off v).respond .errTag
    else f (s.respond .okay)
  | r => s.respond r

/-- The page is locked. -/
def State.locked (s : State) (p : Nat) : Bool := s.flag (rk p Reg.CTRL) 31

/-- The lock's state: 0 locked, 1 armed, 2 unlocked, with CTRL.LOCKED (R147, R151, R152). -/
def State.setLock (s : State) (p st : Nat) (a : Option Armed) : State :=
  let s := (s.setFld (rk p Reg.LOCK) 0 2 st).setFlag (rk p Reg.CTRL) 31 (st != 2)
  { s with carrier := { s.carrier with armed := sset (dflt none) s.carrier.armed p a } }

/-- A write to LOCK (R152). That the second word comes in one of the 64 cycles is what the state armed says: LOCK_ARM_TIMEOUT
ends it. -/
def State.lockWrite (s : State) (w : Writer) (p : Nat) (v : W32) : State :=
  match s.fld (rk p Reg.LOCK) 0 2 with
  | 0 =>
    if v = 0x0000C0DE then s.setLock p 1 (some { master := w.master.num, tag := writeTag w })
    else s.logRefusal p 0xF0 w Reg.LOCK v
  | 1 =>
    if v = 0x0000ED0C ∧ (sget (dflt none) s.carrier.armed p).map (·.master) = some w.master.num then
      s.setLock p 2 none
    else (s.setLock p 0 none).logRefusal p 0xF0 w Reg.LOCK v
  | _ => s.setLock p 0 none

/-- The bits of a register row that a write reaches now: RW, and RW-L while the page is unlocked (R153). -/
def State.openBits (s : State) (p : Nat) (r : RegRow) : W32 :=
  BitVec.ofNat 32 r.rw ||| (if s.locked p then 0 else BitVec.ofNat 32 r.rwl)

/-- What a register holds after a write of `v` that reaches the bits `open_`, where a 1 clears the W1C bits. -/
def writtenValue (old v open_ w1c : W32) : W32 := ((old &&& ~~~ open_) ||| (v &&& open_)) &&& ~~~ (v &&& w1c)

/-- The lock refuses the RW-L part of a write: counted and logged when it would change a field (R153). -/
def State.lockCheck (s : State) (w : Writer) (p off : Nat) (rwl v : W32) : State :=
  if s.locked p && ((v ^^^ s.reg (rk p off)) &&& rwl) != 0 then
    (s.countRefused p).logRefusal p 0xF1 w off v
  else s

/-- A plain write to the register with offset `off`: `stored` is the value with every field as the register stores it (a
value out of a field's range replaced as its description says). A write that reaches no field is not counted (R154). -/
def State.fieldWrite (s : State) (w : Writer) (p off : Nat) (v stored : W32) : State :=
  match regRowOf (rk p off) with
  | none => s
  | some r =>
    let open_ := s.openBits p r
    let w1c := BitVec.ofNat 32 r.w1c
    let s := s.lockCheck w p off (BitVec.ofNat 32 r.rwl) v
    if open_ = 0 ∧ w1c = 0 then s
    else ((s.setReg (rk p off) (writtenValue (s.reg (rk p off)) stored open_ w1c)).irqUpdate p).countWrite p

/-- The high half of a written value is the key it must be. -/
def keyed (v : W32) (key : Nat) : Bool := fieldOf v 16 16 == key

/-- The command registers with a key, and the key (R105, R138, R478, R479, R584, R606, R630 to R632). -/
def keyRows : List (Nat × Nat) :=
  [(0x108, 0x5344), (0x2110, 0x5253), (0x3164, 0x5053), (0x4104, 0x4C43), (0x41C0, 0x4155), (0x41C4, 0x4B50), (0x41CC, 0x5242),
   (0x710C, 0x4452), (0x22104, 0x4E46), (0xD0128, 0x524A), (0xD110C, 0x5357), (0xF8140, 0x5443), (0xF9188, 0x4C54)]

/-- A write to a command register does not bring its key. -/
def wrongKey (k : Nat) (v : W32) : Bool :=
  match keyRows.find? fun r => r.1 == k with
  | some r => !keyed v r.2
  | none => false

/-- A write to a command register is counted in WSEQ, but where its key is wrong: that one is no action (R154). DEDUCED: log entry 14. -/
def State.tookCommand (s : State) (k : Nat) (v : W32) : State := if wrongKey k v then s else s.countWrite (k / 4096)

/-- A command register's write: the gate, then `f`, counted in WSEQ. DEDUCED: log entry 14. -/
def State.command (s : State) (w : Writer) (k : Nat) (v : W32) (f : State → State) : State :=
  s.access w (k / 4096) (k % 4096) v fun s => f (s.tookCommand k v)

end Sys2Proof.Machine
end

