-- ==== Sys2Proof/Machine/PairOps.lean ====
section
/-! DEFINITION. What several chapters do to roles and claims (R46, R451 to R454, R468 to R470) and to loop frame boundaries
(R254, R255). -/

namespace Sys2Proof.Machine

/-- What a meaning answers. -/
abbrev Res := Host.Outcome State Fault Refusal

/-- The loop frame index (R255). -/
def State.lfi (s : State) : W64 := s.reg64 Reg.SYS_LFI_LO

/-- The CLK_FAB cycles since the latest boundary (R255). -/
def State.lfiCyc (s : State) : Nat := s.fld Reg.SYS_LFI_CYC 0 14

/-- The index of the first boundary at least `cycles` CLK_FAB cycles away (R254, R469). -/
def State.boundaryAfter (s : State) (cycles : Nat) : W64 :=
  if s.lfiCyc + cycles ≤ 15625 then s.lfi + 1 else s.lfi + 2

/-- The role code: 0 not decided, 1 SOLO, 2 ACTIVE, 3 STANDBY, 4 SYNCING, 5 OFF-LINE, 6 OFF-LINE-WAIT (R160, R451). -/
def State.role (s : State) : Nat := s.fld Reg.CLAIM_OWN 16 3

/-- The side code (R35). -/
def State.side (s : State) : Nat := s.fld Reg.SYS_CT_ID 0 2

/-- TIE of the claim number (R453). -/
def State.tie (s : State) : Nat :=
  match s.side with
  | 1 => 2
  | 2 => 1
  | _ => 0

/-- Carrier outputs that follow registers: HEALTHY_L, ROLE_ACT_L and ROLE_SBY_L are low only while driven (R45, R46, R55). -/
def State.outPins (s : State) : State :=
  let s := s.setFlag Reg.SYS_CT_IN0 3 (!s.flag Reg.SYS_CT_OUT 0)
  let s := s.setFlag Reg.SYS_CT_IN0 11 (s.role != 1 && s.role != 2)
  s.setFlag Reg.SYS_CT_IN0 12 (s.role != 3)

/-- The module takes a role; icon SPLIT goes off when it changes, CLMO stops when it enters OFF-LINE, and TPO is driven in ACTIVE and SOLO
alone (R37, R58, R594). -/
def State.setRole (s : State) (r : Nat) : State :=
  let s := { s with
    time := { s.time with tpo := s.time.tpo && (r == 1 || r == 2) }
    pair := { s.pair with split := s.pair.split && s.role == r }
    carrier := { s.carrier with clmo := if r = 5 then none else s.carrier.clmo } }
  (s.setFld Reg.CLAIM_OWN 16 3 r).outPins

/-- The claim role of the claim number in force (R453). -/
def State.claimRole (s : State) : Nat := s.fld Reg.CLAIM_OWN 14 2

/-- The claim number in force takes a claim role, with the score and the tie-break as they are (R453). -/
def State.setClaimRole (s : State) (r : Nat) : State :=
  (s.setFld Reg.CLAIM_OWN 14 2 r).setFld Reg.CLAIM_OWN 0 4 s.tie

/-- The module holds the claim: claim role 3 (R451). -/
def State.holder (s : State) : Bool := s.claimRole == 3

/-- CLMO begins to run, where it does not run yet: EN of CLAIM is set (R37). DEDUCED: log entry 118. -/
def State.startClmo (s : State) : State :=
  if s.carrier.clmo.isSome then s else { s with carrier := { s.carrier with clmo := some s.time.ltb } }

/-- The level of CLMO: a period of 100 µs, high for 75 µs of it while the module holds the claim and for 25 µs while it does not; pulled up
while it does not run (R37, R55). DEDUCED: log entry 118. -/
def State.clmoLevel (s : State) : Bool :=
  match s.carrier.clmo with
  | none => true
  | some t => decide ((s.time.ltb - t).toNat % 12500 < if s.holder then 9375 else 3125)

/-- The TPM word at which frame buffer g mod 4 begins (R234, R285). -/
def State.frameBuffer (s : State) (g : W64) : Nat :=
  s.fld Reg.LOOP_IMG_BASE 0 23 + (g.toNat % 4) * s.fld Reg.LOOP_IMG_STRIDE 0 23

/-- Where the runtime's call of a function block returns to: in the runtime's own program, which the spec does not give (R235, R241).
DEDUCED: log entry 137. -/
def runtimeAddr : W64 := 0x200000000 + (Config.runtimeReturn.setWidth 64 <<< 2)

/-- Core `c` leaves the program of a task: it runs the runtime again, and no budget (R231, R239, R246). -/
def State.toRuntime (s : State) (c : Nat) : State :=
  let s := s.setReg (coreKey c 0x140) 0
  s.setCore c { s.core c with pc := runtimeAddr }

/-- Twin sync (R452). -/
def State.twinSync (s : State) : Bool := s.flag Reg.TWIN_SYNC 27

/-- This module is ACTIVE and its peer is STANDBY-READY, by the peer's last heartbeat (R452, R469). -/
def State.peerReady (s : State) : Bool :=
  s.role == 2 && s.flag Reg.CLAIM_PEER 16 && s.fld Reg.CLAIM_PEER 14 2 == 2

/-- The module transmits on no network: it does not hold the claim and does not have twin sync (R473), and is not a new holder whose frames wait
for the verdict (R466, R467). -/
def State.silent (s : State) : Bool := !s.holder && !s.twinSync && !s.pair.verdict

/-- What R460 mirrors is in force: twin sync, or SYNCING, of this module or of the holder's peer. -/
def State.mirroring (s : State) : Bool :=
  s.twinSync || s.role == 4 || (s.holder && s.flag Reg.CLAIM_PEER 16 && s.pair.peerRole == 4)

/-- A twin lane is up (R455). -/
def State.laneUp (s : State) (lane : Nat) : Bool := s.flag Reg.TWIN_LANE_STAT (3 + 4 * lane)

/-- The roles that send field bursts: all but OFF-LINE and OFF-LINE-WAIT, and a module that has withdrawn until its groups have timed out
(R451, R470). -/
def State.sendsStreams (s : State) : Bool := (s.role != 5 && s.role != 6) || s.pair.withdrawn

/-- The module sends its bursts to the peer and relays the peer's (R461). -/
def State.relays (s : State) : Bool :=
  s.side != 3 && s.role != 5 && s.role != 6 && (s.laneUp 0 || s.laneUp 1)

/-- The debug level drops to a lower one: halted cores resume, breakpoints are disabled, the system watchdog is enabled (R622). -/
def State.dropLevel (s : State) (new reason : Nat) : State :=
  if s.debugLevel ≤ new then s
  else
    let s := s.setFld Reg.DBG_DLEVEL 0 2 new
    let s := if new = 0 then s.setFld Reg.DBG_DLEVEL 16 16 0 else s
    let s := s.setFld Reg.DBG_RUNCTL 0 4 0
    let s := (List.range 16).foldl (fun s k => s.setFlag (Reg.DBG_BPk_LO + 8 * k) 0 false) s
    let s :=
      if s.flag Reg.RST_WDG_CTRL 16 then s
      else
        let s := (s.setFlag Reg.RST_WDG_CTRL 16 true).setFld Reg.RST_WDG_STAT 16 16 (s.fld Reg.RST_WDG_CTRL 0 16)
        { s with rst := { s.rst with sinceKick := 0 } }
    (s.setEvt Reg.SEC_SEC_EVT 1).logEvt 0x004 0xFFF 0x03 (BitVec.ofNat 64 (reason * 256 + new))

/-- A module at HALT or FULL that is about to become the holder drops to OBSERVE (R626). -/
def State.beforeHold (s : State) : State := if 2 ≤ s.debugLevel then s.dropLevel 1 3 else s

/-- The claim role of the next burst takes effect at the start of a field period; a claim raised on the peer's loss is counted and logged
(R452, R466, R480). -/
def State.applyNextRole (s : State) : State :=
  match s.pair.nextRole with
  | none => s
  | some r =>
    let old := s.reg Reg.CLAIM_OWN &&& 0xFFFF
    let s := ({ s with pair := { s.pair with nextRole := none } }).setClaimRole r.toNat
    if r = 3 then
      let data := old.setWidth 64 <<< 16 ||| (s.reg Reg.CLAIM_OWN &&& 0xFFFF).setWidth 64
      ((s.countSat Reg.CLAIM_COUNT 16 16 1).setEvt Reg.CLAIM_CLAIM_EVT 0).logEvt 0x0D1 0xFFF 0x01 data
    else s

/-- An event of the TWIN page. -/
def State.logTwin (s : State) (cause : Nat) (data : W64 := 0) : State := s.logEvt 0x0D0 0xFFF cause data

/-- An event of the CLAIM page. -/
def State.logClaim (s : State) (cause : Nat) (data : W64 := 0) : State := s.logEvt 0x0D1 0xFFF cause data

/-- A planned switch-over is started: the ACTIVE module chooses the first boundary at least 20 µs away, or refuses (R469,
R477). -/
def State.planSwitch (s : State) : State :=
  if s.peerReady && !(s.flag Reg.PWR_SUP_STAT 8 && s.pair.peerBrownout) then
    if s.pair.sched.isSome || s.pair.withdraw then s
    else { s with pair := { s.pair with sched := some (s.boundaryAfter 5000, .given) } }
  else s.logClaim 0x0C

/-- `t` LTB ticks have passed since `a`. -/
def State.since (s : State) (a : Option W64) (t : Nat) : Bool :=
  match a with
  | some a => decide (t ≤ (s.time.ltb - a).toNat)
  | none => false

/-- Seconds in LTB ticks (R96). -/
def secTicks (n : Nat) : Nat := n * 125000000

/-- The STANDBY-READY peer's score exceeds that of the ACTIVE module by at least MARGIN, and AUTO is 1 (R469). -/
def State.outscored (s : State) : Bool :=
  s.flag Reg.CLAIM_CFG 16 && s.peerReady && decide (s.fld Reg.CLAIM_OWN 4 10 + s.fld Reg.CLAIM_CFG 0 10 ≤ s.fld Reg.CLAIM_PEER 4 10)

/-- The step of re-integration that TWIN.SYNC shows (R478). -/
def State.joinStep (s : State) : Nat := s.fld Reg.TWIN_SYNC 28 4

/-- TWIN.SYNC shows a step. -/
def State.setStep (s : State) (n : Nat) : State := s.setFld Reg.TWIN_SYNC 28 4 n

/-- The bit of a group's page in MOVED and MOVED_X (R479): the register and the bit. -/
def movedBit (p : Nat) : Nat × Nat :=
  if p < 0x0A0 then (Reg.CLAIM_MOVED, p - 0x080)
  else if p < 0x0B0 then (Reg.CLAIM_MOVED_X, p - 0x0A0)
  else if p < 0x0B4 then (Reg.CLAIM_MOVED_X, 16 + (p - 0x0B0))
  else if p < 0x0B8 then (Reg.CLAIM_MOVED_X, 18 + (p - 0x0B4))
  else (Reg.CLAIM_MOVED_X, 22)

/-- The holder moves a group to the peer, whose reports of it are admitted (R474). -/
def State.moveGroup (s : State) (p : Nat) : State :=
  let b := movedBit p
  let s := { s with pair := { s.pair with moved := insertNew s.pair.moved p, fromPeer := insertNew s.pair.fromPeer p } }
  let s := (s.setFlag b.1 b.2 true).setEvt Reg.CLAIM_CLAIM_EVT 3
  (s.logEvt 0x0D1 p 0x0A).logEvt 0x0D1 p 0x0B 1

/-- A moved group is the holder's again (R474). -/
def State.unmoveGroup (s : State) (p : Nat) : State :=
  let b := movedBit p
  let s := { s with pair := { s.pair with moved := s.pair.moved.filter (· != p), fromPeer := s.pair.fromPeer.filter (· != p) } }
  s.setFlag b.1 b.2 false

/-- No group is moved any longer: the module is not the holder now. -/
def State.unmoveAll (s : State) : State := s.pair.moved.foldl State.unmoveGroup s

end Sys2Proof.Machine
end

