-- ==== Sys2Proof/Machine/Memory.lean ====
section
/-! DEFINITION. The memories (R140, R165 to R176, R195, R578 to R583, R124): TPM by word with its tag, program memory, capture
and message memory, MRAM and NOR by byte, with their check errors. Multi-byte values lie least significant byte first. -/

namespace Sys2Proof.Machine

/-! ## Bytes in rows -/

/-- `n` bytes from address `a` on as a number, least significant byte first. -/
def leNat (f : Nat → Byte) (a : Nat) : Nat → Nat
  | 0 => 0
  | n + 1 => (f a).toNat + 256 * leNat f (a + 1) n

/-- Byte `i` of a number. -/
def natByte (v i : Nat) : Byte := BitVec.ofNat 8 (v / 256 ^ i)

/-- The bytes of a number, least significant first. -/
def natBytes (v n : Nat) : List Byte := (List.range n).map (natByte v)

/-- A field of a 64-bit value. -/
def bits64 (v : W64) (lo n : Nat) : Nat := v.toNat / 2 ^ lo % 2 ^ n

/-- `v` with `n` in the field of `w` bits from bit `lo` on. -/
def withField64 (v : W64) (lo w n : Nat) : W64 :=
  (v &&& ~~~ (BitVec.ofNat 64 ((2 ^ w - 1) * 2 ^ lo))) ||| BitVec.ofNat 64 (n % 2 ^ w * 2 ^ lo)

/-- One bit of CRC-16 with polynomial 0x1021, not reflected (R42, R160). -/
def crc16Bit (c : BitVec 16) (b : Bool) : BitVec 16 :=
  let top := c.getLsbD 15 != b
  if top then (c <<< 1) ^^^ 0x1021#16 else c <<< 1

/-- One byte of CRC-16, most significant bit first. -/
def crc16Byte (c : BitVec 16) (x : Byte) : BitVec 16 :=
  [7, 6, 5, 4, 3, 2, 1, 0].foldl (fun c i => crc16Bit c (x.getLsbD i)) c

/-- CRC-16 with polynomial 0x1021, initial value 0xFFFF, no reflection, no final XOR (R42, R160). -/
def crc16 (l : List Byte) : BitVec 16 := l.foldl crc16Byte 0xFFFF#16

/-- One step of CRC-32C: reflected, polynomial 0x1EDC6F41 (R343). -/
def crc32cBit (c : W32) : W32 := if c.getLsbD 0 then (c >>> 1) ^^^ 0x82F63B78#32 else c >>> 1

/-- One byte of CRC-32C. -/
def crc32cByte (c : W32) (b : Byte) : W32 :=
  (List.range 8).foldl (fun c _ => crc32cBit c) (c ^^^ b.setWidth 32)

/-- CRC-32C (R343). -/
def crc32c (l : List Byte) : W32 := ~~~ (l.foldl crc32cByte 0xFFFFFFFF#32)

/-- One bit of CRC-64, polynomial 0x42F0E1EBA9EA3693, not reflected (R460). -/
def crc64Bit (c : W64) (b : Bool) : W64 :=
  if c.getLsbD 63 != b then (c <<< 1) ^^^ 0x42F0E1EBA9EA3693#64 else c <<< 1

/-- One byte of CRC-64, most significant bit first. -/
def crc64Byte (c : W64) (x : Byte) : W64 :=
  [7, 6, 5, 4, 3, 2, 1, 0].foldl (fun c i => crc64Bit c (x.getLsbD i)) c

/-- CRC-64 of R460. -/
def crc64 (l : List Byte) : W64 := ~~~ (l.foldl crc64Byte 0xFFFFFFFFFFFFFFFF#64)

/-- A map without the keys of a range. -/
def dropRange {α : Type} (m : Sparse α) (lo hi : Nat) : Sparse α := m.filter fun e => !(decide (lo ≤ e.1) && decide (e.1 < hi))

/-! ## TPM (R165, R174 to R176) -/

/-- The number of TPM words. -/
def tpmWords : Nat := 8388608

/-- The word that TPM holds, check errors apart. -/
def State.tpmAt (s : State) (w : Nat) : TWord :=
  (sget (dflt s.mem.tpmFill) s.mem.tpm w).getD { data := Config.lostWord s.mem.tpmLost w, tag := Config.lostTag s.mem.tpmLost w }

/-- Store a word with its tag; its check bits are right again, and a page under bulk transfer is marked (R175, R475). -/
def State.setTpm (s : State) (w : Nat) (v : TWord) : State :=
  let s := { s with mem := { s.mem with
    tpm := sset (dflt s.mem.tpmFill) s.mem.tpm w (some v)
    tpmErr := sset (dflt 0) s.mem.tpmErr w 0 } }
  if s.pair.marking then { s with pair := { s.pair with marked := insertNew s.pair.marked (w / 512) } } else s

/-- Store the data of a word, keeping its tag or giving another. -/
def State.setTpmData (s : State) (w : Nat) (d : W64) (t : Tag) : State := s.setTpm w { data := d, tag := t }

/-- A correctable error is counted and logged (R176, R195, R196). -/
def State.tpmCorrected (s : State) (w : Nat) : State :=
  let s := { s with proof := { s.proof with ceTpm := (s.time.ltb :: s.proof.ceTpm).take 17 } }
  let s := (s.countSat Reg.TPMC_CE_CNT 0 16 1).setFld Reg.TPMC_ERR_ADDR 0 23 w
  ({ s with mem := { s.mem with tpmErr := sset (dflt 0) s.mem.tpmErr w 0 } }).logEvt 0x020 0xFFF 0x01 (BitVec.ofNat 64 w)

/-- An uncorrectable error rewrites the word as 0 with tag 0xF8, and is counted and logged (R176, R195, R196). -/
def State.tpmUncorrected (s : State) (w : Nat) : State :=
  let s := { s with proof := { s.proof with ueTpm := some s.time.ltb } }
  let s := (s.countSat Reg.TPMC_UE_CNT 0 16 1).setFld Reg.TPMC_ERR_ADDR 0 23 w
  ((s.setTpm w { data := 0, tag := 0xF8 }).logEvt 0x020 0xFFF 0x02 (BitVec.ofNat 64 w)).pulseIrq 0x020 0

/-- What a read of a word leaves behind: its check errors treated (R176). -/
def State.tpmTouched (s : State) (w : Nat) : State :=
  match sget (dflt 0) s.mem.tpmErr w with
  | 0 => s
  | 1 => s.tpmCorrected w
  | _ => s.tpmUncorrected w

/-- The word has an uncorrectable error. -/
def State.tpmBroken (s : State) (w : Nat) : Bool := decide (2 ≤ sget (dflt 0) s.mem.tpmErr w)

/-- The master carries no tag (R175). -/
def untaggedMaster : Master → Bool
  | .dbg | .dmaA | .dmaB | .capt | .proof => true
  | _ => false

/-- The tag that a master's store leaves in a TPM word (R174, R175). -/
def State.tpmStoreTag (s : State) (m : Master) (t : Tag) : Tag :=
  if untaggedMaster m then (s.reg Reg.TPMC_NTAG).setWidth 8 else t

/-! ## Program memory (R165 to R168, R195) -/

/-- The byte that program memory holds at an offset. -/
def State.pmByte (s : State) (a : Nat) : Byte :=
  (sget (dflt none) s.mem.pm a).getD (Config.lostByte s.mem.pmLost a)

/-- Core `c` may still hold older contents of a line of program memory in its L1 instruction cache (R167).
DESIGN CHOICE: log entry 110. -/
def Core.markStale (c : Core) (line : Nat) : Core := { c with stale := insertNew c.stale line }

/-- Store a byte of program memory. -/
def State.setPmByte (s : State) (a : Nat) (b : Byte) : State :=
  { s with mem := { s.mem with
    pm := sset (dflt none) s.mem.pm a (some b)
    pmErr := sset (dflt 0) s.mem.pmErr (a / 8) 0 } }

/-- Store `n` bytes of program memory; every core's L1 instruction cache may be stale there, and L2 may hold the line
dirty (R165, R167). -/
def State.setPm (s : State) (a n v : Nat) : State :=
  let s := (List.range n).foldl (fun s i => s.setPmByte (a + i) (natByte v i)) s
  let s := [0, 1, 2, 3].foldl (fun s c => s.setCore c ((s.core c).markStale (a / 64))) s
  { s with mem := { s.mem with dirty := insertNew s.mem.dirty (a / 64) } }

/-- A line of program memory is discarded before it was written back: what memory then holds there is open (R106, R168). DESIGN CHOICE: log entry 114. -/
def State.discardLine (s : State) (line : Nat) : State :=
  let s := (List.range 8).foldl (fun s i => (s.setPm (line * 64 + 8 * i) 8 s.freeVal.toNat).drawn) s
  { s with mem := { s.mem with dirty := s.mem.dirty.filter (· != line) } }

/-- Store `n` bytes of program memory from offset `a` on, byte `i` of them as `f i` gives; what lies outside program memory is not stored. -/
def State.fillPm (s : State) (a n : Nat) (f : Nat → Byte) : State :=
  let n := min n (0x40000000 - a)
  { s with mem := { s.mem with
    pm := (s.mem.pm.filter fun e => decide (e.1 < a)) ++ ((List.range n).map fun i => (a + i, some (f i)))
      ++ s.mem.pm.filter fun e => decide (a + n ≤ e.1)
    pmErr := s.mem.pmErr.filter fun e => decide (e.1 * 8 + 8 ≤ a ∨ a + n ≤ e.1 * 8) } }

/-- A correctable error of a unit of program memory (R195, R196). -/
def State.pmCorrected (s : State) (u : Nat) : State :=
  let s := { s with proof := { s.proof with cePm := (s.time.ltb :: s.proof.cePm).take 17 } }
  let s := (s.countSat Reg.PMC_CE_CNT 0 16 1).setFld Reg.PMC_ERR_ADDR 0 27 u
  ({ s with mem := { s.mem with pmErr := sset (dflt 0) s.mem.pmErr u 0 } }).logEvt 0x021 0xFFF 0x01 (BitVec.ofNat 64 u)

/-- An uncorrectable error of a unit of program memory is recorded; the unit stays as it is (R195, R196). -/
def State.pmUncorrected (s : State) (u : Nat) : State :=
  let s := (s.countSat Reg.PMC_UE_CNT 0 16 1).setFld Reg.PMC_ERR_ADDR 0 27 u
  (s.logEvt 0x021 0xFFF 0x02 (BitVec.ofNat 64 u)).pulseIrq 0x021 0

/-- What a read of a unit leaves behind (R195). -/
def State.pmTouched (s : State) (u : Nat) : State :=
  match sget (dflt 0) s.mem.pmErr u with
  | 0 => s
  | 1 => s.pmCorrected u
  | _ => s.pmUncorrected u

/-! ## Capture memory and CAN message memory -/

/-- A byte of capture memory. -/
def State.capByte (s : State) (a : Nat) : Byte :=
  (sget (dflt none) s.mem.cap a).getD (Config.lostByte s.mem.capLost (0x80000000 + a))

/-- Store `n` bytes of capture memory. -/
def State.setCap (s : State) (a n v : Nat) : State :=
  (List.range n).foldl (fun s i =>
    { s with mem := { s.mem with cap := sset (dflt none) s.mem.cap (a + i) (some (natByte v i)) } }) s

/-- A byte of CAN message memory: controller × 0x4000 + offset. -/
def State.canByte (s : State) (a : Nat) : Byte := sget (dflt 0) s.mem.can a

/-- Store `n` bytes of CAN message memory. -/
def State.setCan (s : State) (a n v : Nat) : State :=
  (List.range n).foldl (fun s i =>
    { s with mem := { s.mem with can := sset (dflt 0) s.mem.can (a + i) (natByte v i) } }) s

/-! ## Retain MRAM (R578 to R583) -/

/-- What an unlisted byte of MRAM reads as: zero, but for the inverse in an event log control word of slot 0 and WRAP 0 (log
entry 10). DESIGN CHOICE: log entry 10. -/
def mramDflt (a : Nat) : Byte := if 4 ≤ a ∧ a < 8 then 0xFF else 0

/-- A byte of MRAM. -/
def State.mramByte (s : State) (a : Nat) : Byte := sget mramDflt s.mem.mram a

/-- Store `n` bytes of MRAM. -/
def State.setMram (s : State) (a n v : Nat) : State :=
  (List.range n).foldl (fun s i =>
    { s with mem := { s.mem with mram := sset mramDflt s.mem.mram (a + i) (natByte v i) } }) s

/-- Store a list of bytes in MRAM. -/
def State.setMramBytes (s : State) (a : Nat) (l : List Byte) : State :=
  (l.foldl (fun (p : State × Nat) b =>
    ({ p.1 with mem := { p.1.mem with mram := sset mramDflt p.1.mem.mram p.2 b } }, p.2 + 1)) (s, a)).1

/-- Every byte of a range of MRAM becomes zero. -/
def State.zeroMram (s : State) (a n : Nat) : State := { s with mem := { s.mem with mram := dropRange s.mem.mram a (a + n) } }

/-- `n` bytes of MRAM as a number. -/
def State.mramNat (s : State) (a n : Nat) : Nat := leNat s.mramByte a n

/-- Who may write an offset of MRAM (R579). -/
inductive MramWriter where
  | logger | levelP | lanes | staging | none
deriving DecidableEq, Repr

/-- The writer of an offset of MRAM (R579). -/
def mramWriter (a : Nat) : MramWriter :=
  if a < 0x8 then .logger
  else if 0x40 ≤ a ∧ a < 0x50 then .levelP
  else if 0x1000 ≤ a ∧ a < 0x1040 then .lanes
  else if 0x2000 ≤ a ∧ a < 0x23A0 then .staging
  else if 0x3000 ≤ a ∧ a < 0x100000 then .levelP
  else if 0x100000 ≤ a ∧ a < 0x200000 then .logger
  else if 0x200000 ≤ a ∧ a < 0x800000 then .levelP
  else .none

/-- A refused write to MRAM is counted and logged (R579, R585, R586). -/
def State.refuseMram (s : State) (m : Master) (a : Nat) : State :=
  let s := (s.countSat Reg.MRAM_REFUSE 24 8 1).setFld Reg.MRAM_REFUSE 0 20 (a / 8)
  (s.setEvt Reg.MRAM_MRAM_EVT 2).logEvt 0x023 0xFFF 0x03 (BitVec.ofNat 64 (m.num * 2 ^ 56 + a / 8))

/-- The check errors that a read of a unit of MRAM meets: a correctable one is corrected and counted, an uncorrectable one
counted (R578, R585, R586). -/
def State.mramTouched (s : State) (u : Nat) : State :=
  match sget (dflt 0) s.mem.mramErr u with
  | 0 => s
  | 1 =>
    let s := (s.countSat Reg.MRAM_CE_CNT 0 16 1).setFld Reg.MRAM_ERR_ADDR 0 20 u
    let s := { s with mem := { s.mem with mramErr := sset (dflt 0) s.mem.mramErr u 0 } }
    (s.setEvt Reg.MRAM_MRAM_EVT 0).logEvt 0x023 0xFFF 0x01 (BitVec.ofNat 64 u)
  | _ =>
    let s := (s.countSat Reg.MRAM_UE_CNT 0 16 1).setFld Reg.MRAM_ERR_ADDR 0 20 u
    (s.setEvt Reg.MRAM_MRAM_EVT 1).logEvt 0x023 0xFFF 0x02 (BitVec.ofNat 64 u)

/-! ## NOR (R124) -/

/-- The erase marker ERASED (R124). -/
def norErased : Nat := 0xA5C35A3CFFFFFFFF
/-- The erase marker IN_USE (R124). -/
def norInUse : Nat := 0xA5C35A3C00000000

/-- What an unlisted byte of NOR reads as: an erased sector with its marker (log entry 10). -/
def norDflt (a : Nat) : Byte :=
  let o := a % 0x40000
  if 0x3FFF8 ≤ o then natByte norErased (o - 0x3FFF8) else 0xFF

/-- A byte of NOR. -/
def State.norByte (s : State) (a : Nat) : Byte := sget norDflt s.mem.nor a

/-- Store `n` bytes of NOR. -/
def State.setNor (s : State) (a n v : Nat) : State :=
  (List.range n).foldl (fun s i =>
    { s with mem := { s.mem with nor := sset norDflt s.mem.nor (a + i) (natByte v i) } }) s

/-- The erase marker of a sector (R124). -/
def State.norMarker (s : State) (sec : Nat) : Nat := leNat s.norByte (sec * 0x40000 + 0x3FFF8) 8

/-- A sector is erased and its marker programmed ERASED: every byte as an unlisted one (R124). -/
def State.eraseSector (s : State) (sec : Nat) : State :=
  { s with mem := { s.mem with nor := dropRange s.mem.nor (sec * 0x40000) (sec * 0x40000 + 0x40000) } }

/-! ## Scrubbers and the tag port (R175, R176, R195) -/

/-- What a check error is in the memory's map of errors. -/
def findingCode : EccFinding → Nat
  | .clean => 0
  | .correctable => 1
  | .uncorrectable => 2

/-- TPM_SCRUB: the scrubber reads a word and treats what it finds as any read does (R176). A stopped scrubber reads nothing. -/
def execTpmScrub (word : BitVec 23) (found : EccFinding) (s : State) : Res :=
  .next <|
    if s.fld Reg.TPMC_SCRUB 0 16 = 0 then s
    else
      let w := word.toNat
      ({ s with mem := { s.mem with
        tpmErr := sset (dflt 0) s.mem.tpmErr w (max (findingCode found) (sget (dflt 0) s.mem.tpmErr w)) } }).tpmTouched w

/-- PMC_SCRUB: the scrubber checks a unit (R195). -/
def execPmcScrub (unit : BitVec 27) (found : EccFinding) (s : State) : Res :=
  .next <|
    if s.fld Reg.PMC_SCRUB 0 16 = 0 then s
    else
      let u := unit.toNat
      let e := max (findingCode found) (sget (dflt 0) s.mem.pmErr u)
      let s := { s with mem := { s.mem with pmErr := sset (dflt 0) s.mem.pmErr u e } }
      ({ s with proof := { s.proof with uePm := s.proof.uePm || decide (2 ≤ e) } }).pmTouched u

/-- The effect of a write of TPMC.TAGW_DATA: the word's tag is replaced, its data kept (R175, R195). -/
def State.writeTagw (s : State) (v : W32) : State :=
  let w := s.fld Reg.TPMC_TAGW_ADDR 0 23
  s.setTpm w { s.tpmAt w with tag := v.setWidth 8 }

/-- TPM_TAG_WRITE (R175). -/
def execTpmTagWrite (w : Writer) (value : W32) (s : State) : Res :=
  .next (s.access w 0x020 0x11C value fun s => (s.countWrite 0x020).writeTagw value)

end Sys2Proof.Machine
end

