-- ==== Sys2Proof/Machine/EventLog.lean ====
section
/-! DEFINITION. The event logger's ring in MRAM (R160, R162, R580) and software posts (R164). -/

namespace Sys2Proof.Machine

/-- The first 30 bytes of a record (R160). -/
def recordBody (r : LogRec) : List Byte :=
  natBytes r.ots.toNat 8 ++ natBytes r.ltb.toNat 8 ++ natBytes r.data.toNat 8 ++ natBytes r.code.toNat 4 ++ [r.role, r.sev]

/-- The 32 bytes of a record, CHECK included (R160). -/
def recordBytes (r : LogRec) : List Byte := recordBody r ++ natBytes (crc16 (recordBody r)).toNat 2

/-- The MRAM offset of a slot of the ring (R579). -/
def slotOffset (n : Nat) : Nat := 0x100000 + 32 * (n % 32768)

/-- The record in a slot passes its check (R160). -/
def State.slotOk (s : State) (n : Nat) : Bool :=
  (crc16 ((List.range 30).map fun i => s.mramByte (slotOffset n + i))).toNat == s.mramNat (slotOffset n + 30) 2

/-- The logger reads its control word into EVLOG_HEAD, and goes back one slot where the record before NEXT is torn (R162,
R580). -/
def State.loadLogHead (s : State) : State :=
  let lo := s.mramNat 0 4
  if lo + s.mramNat 4 4 = 0xFFFFFFFF then
    let next := lo % 32768
    let wrap := lo / 65536
    let before := if next = 0 then 32767 else next - 1
    if (next = 0 ∧ wrap = 0) ∨ s.slotOk before = true then
      (s.setFld Reg.SYS_EVLOG_HEAD 0 15 next).setFld Reg.SYS_EVLOG_HEAD 16 16 wrap
    else
      (s.setFld Reg.SYS_EVLOG_HEAD 0 15 before).setFld Reg.SYS_EVLOG_HEAD 16 16 (if next = 0 then wrap - 1 else wrap)
  else ((s.setReg Reg.SYS_EVLOG_HEAD 0).setFlag Reg.MRAM_MSTAT 0 true)

/-- NEXT advances by one slot, WRAP with it at the end of the ring, and the control word follows (R162, R580). -/
def State.advanceHead (s : State) : State :=
  let next := s.fld Reg.SYS_EVLOG_HEAD 0 15
  let s := if next = 32767 then s.countSat Reg.SYS_EVLOG_HEAD 16 16 1 else s
  let s := s.setFld Reg.SYS_EVLOG_HEAD 0 15 (next + 1)
  let head := s.reg Reg.SYS_EVLOG_HEAD
  (s.setMram 0 4 head.toNat).setMram 4 4 (~~~ head).toNat

/-- The oldest record goes into the ring (R162). -/
def State.writeRecord (s : State) : State :=
  match s.log.queue with
  | [] => s
  | r :: rest =>
    let s := s.setMramBytes (slotOffset (s.fld Reg.SYS_EVLOG_HEAD 0 15)) (recordBytes r)
    ({ s.advanceHead with log := { s.advanceHead.log with queue := rest } }).enqueueLost

/-- LOGGER_RECORD_WRITE (R162). DEDUCED: log entry 12. -/
def execLoggerRecordWrite (s : State) : Res := .next s.writeRecord

/-- Every record that waits goes into the ring (R610, R624). DEDUCED: log entry 68. -/
def State.drainLog (s : State) : State := (List.range 65).foldl (fun s _ => s.writeRecord) s

/-- The severity a software post stores: above 0x04 as 0x04 (R163). -/
def sevStored (v : W32) : W32 := if 4 < fieldOf v 0 8 then 4 else v &&& 0xFF

/-- The effect of a write of EVLOG_POST by a master: its staged data and severity, or a refusal (R164). -/
def State.writePost (s : State) (m : Master) (code : W32) : State :=
  let src := fieldOf code 20 12
  if src < 0x800 ∨ fieldOf code 0 8 = 0 then s.logEvt 0x000 0xFFF 0xF3 (code.setWidth 64)
  else
    let data : W64 := (sget (dflt 0) s.log.pdata1 m.num) ++ (sget (dflt 0) s.log.pdata0 m.num)
    let sev := (sget (dflt 0) s.log.psev m.num).toNat
    if sev < s.fld Reg.SYS_EVLOG_CTRL 0 8 then s else s.enqueue (s.mkRec code sev data)

/-- EVENT_POST (R164). -/
def execEventPost (w : Writer) (code : W32) (s : State) : Res :=
  .next (s.access w 0x000 0x31C code fun s => (s.countWrite 0x000).writePost w.master code)

end Sys2Proof.Machine
end

