-- ==== Sys2Proof/Machine/TestObj.lean ====
section
/-! DEFINITION. Sessions of Test Strip as other blocks reach them: their registers and the abort of a running one (R634, R638,
R640). -/

namespace Sys2Proof.Machine

/-- The key of a register of session `n` (R640). -/
def testKey (r n : Nat) : Nat := r + 0x40 * n

/-- STATE of a session: 0 IDLE, 1 RUNNING, 2 DONE, 3 REFUSED, 4 ABORTED. -/
def State.testState (s : State) (n : Nat) : Nat := s.fld (testKey Reg.TEST_SSTAT n) 28 4

/-- CLASS, INDEX and MODE of a session. -/
def State.testClass (s : State) (n : Nat) : Nat := s.fld (testKey Reg.TEST_SCFG n) 28 4
def State.testIndex (s : State) (n : Nat) : Nat := s.fld (testKey Reg.TEST_SCFG n) 16 12
def State.testMode (s : State) (n : Nat) : Nat := s.fld (testKey Reg.TEST_SCFG n) 12 4

/-- The page of the block that a resource belongs to (R634). -/
def testPage (cls index : Nat) : Nat :=
  match cls with
  | 1 => 0x0D0
  | 2 => 0x080 + index
  | 3 => 0x0F0 + index / 2
  | 4 => 0x0E0 + index
  | 5 => 0x0F9
  | 6 => 0x0B4 + index / 16
  | _ => 0x0A0 + index / 16

/-- A session takes a state with its WHY code. -/
def State.setTest (s : State) (n st why : Nat) : State :=
  (s.setFld (testKey Reg.TEST_SSTAT n) 28 4 st).setFld (testKey Reg.TEST_SSTAT n) 24 4 why

/-- A running session ends ABORTED (R638). -/
def State.abortTest (s : State) (n : Nat) : State :=
  if s.testState n = 1 then
    ((s.setTest n 4 6).setEvt Reg.TEST_TEST_EVT (8 + n)).logEvt 0x006 n 0x04 ((s.reg (testKey Reg.TEST_BERR n)).setWidth 64)
  else s

/-- Every running session that `sel` selects by class and index ends ABORTED. -/
def State.abortTests (s : State) (sel : Nat → Nat → Bool) : State :=
  (List.range 8).foldl (fun s n => if sel (s.testClass n) (s.testIndex n) then s.abortTest n else s) s

/-- The sessions on the block of a page end ABORTED, and all of them where it is the TEST page (R638). -/
def State.abortTestsOf (s : State) (p : Nat) : State := s.abortTests fun c i => p == 0x006 || testPage c i == p

end Sys2Proof.Machine
end

