-- ==== Sys2Proof/Machine/Safelight.lean ====
section
/-! DEFINITION. The Safelight: its icons, which follow hardware sources, and its backlight (R594, R595); the frame memory of the
segment panel and what the boot ROM and the runtime show there (R587, R589, R593). -/

namespace Sys2Proof.Machine

/-- A class C reaction holds: a bit of class C is set in the latent-fault map (R490, R492). -/
def State.classC (s : State) : Bool := s.reg Reg.PROOF_LATENT_LO &&& 0x001F1000 != 0

/-- The icons as their sources have them now (R594). -/
def State.iconsNow (s : State) : W32 :=
  let role := s.fld Reg.CLAIM_OWN 16 3
  let side := s.fld Reg.SYS_CT_ID 0 2
  let feed := s.fld Reg.PWR_SUP_STAT 0 3 != 0 || s.fld Reg.PWR_SUP_STAT 3 3 != 0
  let field := s.fld Reg.PWR_FSUP_STAT 0 12 != 0 || s.reg Reg.PWR_FSUP_DG_OK != 0xFFFFFFFF
  let l := [s.laneX.lockout || s.laneY.lockout, s.laneX.st == 5 || s.laneY.st == 5, s.laneX.st == 3 && s.laneY.st == 3,
    s.classC || s.fld Reg.SYS_BOOT_STAT 28 4 == 8, role == 2 || role == 1, role == 3, role == 4, role == 5 || role == 6,
    s.pair.split, feed, field, s.fld Reg.RTC_CELL 16 3 != 0, side == 1, side == 2, s.fld Reg.DBG_DLEVEL 0 2 != 0, true]
  BitVec.ofNat 32 (l.foldr (fun b n => 2 * n + b.toNat) 0)

/-- ICON of SL_STAT: every icon during a lamp test; what AON latched while the logic side is in reset or unpowered (R594, R595, R606). -/
def State.icons (s : State) : W32 :=
  if s.disp.lamp then 0xFFFF
  else if s.rst.phase == .running && (s.pwr.power == .run || s.pwr.power == .hold) then s.iconsNow
  else s.reg Reg.DISP_SL_STAT

/-- AON latches the icons as the logic side goes into reset (R595). -/
def State.latchIcons (s : State) : State :=
  if s.rst.phase == .running then s.setReg Reg.DISP_SL_STAT s.iconsNow else s

/-- The backlight of the Safelight (R595). -/
inductive SafelightColour where
  | off | amber | red
deriving DecidableEq, Repr

/-- The backlight: red while icon 0, 1 or 3 is on, and amber otherwise; on backup red with icon 0 or 3 where BL_BACKUP allows it (R595). -/
def State.safelight (s : State) : SafelightColour :=
  let i := s.icons
  if s.pwr.power == .off then
    if (i.getLsbD 0 || i.getLsbD 3) && s.flag Reg.DISP_SL_CFG 0 then .red else .off
  else if i.getLsbD 0 || i.getLsbD 1 || i.getLsbD 3 then .red else .amber

/-! ## The panel's frame memory (R587, R589, R593, R606) -/

/-- The panel's domain PD19 is ON. -/
def State.panelOn (s : State) : Bool := s.domState 19 == 2

/-- The page of frame memory that a register of the DISP page belongs to (R606). -/
def panelPage (off : Nat) : Option Nat := if 0x140 ≤ off ∧ off < 0x180 then some ((off - 0x140) / 0x20) else none

/-- A word of the page shown: its write waits for the display frame boundary (R589). -/
def State.shownWord (s : State) (off : Nat) : Bool := panelPage off == some (s.fld Reg.DISP_DSTAT 26 1)

/-- A write that has been accepted for a word of the page shown waits, the last one counting; `mask` are its bits. -/
def State.waitWord (s : State) (off : Nat) (v mask : W32) : State :=
  { s with disp := { s.disp with pend := sset (dflt none) s.disp.pend (rk 0x0F9 off) (some (v &&& mask)) } }

/-- A character's segments; a blank has none (R587, R593). -/
def glyphOf (code : Nat) : Nat := if code = 0x20 then 0 else (Config.glyph code).toNat

/-- The characters 0 to 10 that R593 gives for a check value: CK, a blank and its eight hexadecimal digits, most significant first. -/
def checkChars (v : Nat) : List Nat :=
  [0x43, 0x4B, 0x20] ++ (List.range 8).map fun i =>
    let d := v / 16 ^ (7 - i) % 16
    if d < 10 then 0x30 + d else 0x37 + d

/-- Word `k` of the page shown as a read gives it, writes that wait included. -/
def State.shownNow (s : State) (off : Nat) : W32 := (sget (dflt none) s.disp.pend (rk 0x0F9 off)).getD (s.reg (rk 0x0F9 off))

/-- The offset of word `k` of the page shown. -/
def State.shownOff (s : State) (k : Nat) : Nat := 0x140 + 0x20 * s.fld Reg.DISP_DSTAT 26 1 + 4 * k

/-- The runtime shows a check value on characters 0 to 10 of the page shown; character 11 and the bar graph stay (R593).
DEDUCED: log entry 115. -/
def State.showCheck (s : State) (v : Nat) : State :=
  if !s.panelOn then s
  else
    let g := (checkChars v).map glyphOf
    (List.range 6).foldl (fun s k =>
      let off := s.shownOff k
      let low := (g[2 * k]?).getD 0
      let high := match g[2 * k + 1]? with
        | some h => h
        | none => (s.shownNow off).toNat / 2 ^ 16
      (s.waitWord off (BitVec.ofNat 32 (low + high * 2 ^ 16)) 0xFFFFFFFF).countWrite 0x0F9) s

/-- The boot ROM shows a text: 0 NO IMAGE, 1 SCRAPPED, 2 WIPE, 3 TEST MODE: the words of the page shown (R121, R593, R611, R615, R641).
DEDUCED: log entry 115. -/
def State.showText (s : State) (t : Nat) : State :=
  (List.range 7).foldl (fun s k =>
    let v := if k = 6 then Config.bootText t k &&& 0xFFFF else Config.bootText t k
    if s.panelOn then s.waitWord (s.shownOff k) v 0xFFFFFFFF else s.setReg (rk 0x0F9 (s.shownOff k)) v) s

end Sys2Proof.Machine
end

