-- ==== Sys2Proof/Machine/CanObj.lean ====
section
/-! DEFINITION. The message objects of the CAN controllers (R504 to R508) and what a reset of a controller does to them (R520). -/

namespace Sys2Proof.Machine

/-- Where object `k` of controller `n` lies in message memory (R504). -/
def objAt (n k : Nat) : Nat := n * 0x4000 + k * 0x80

namespace Obj
abbrev OCFG : Nat := 0x00
abbrev OID : Nat := 0x08
abbrev OCMD : Nat := 0x10
abbrev OSTAT : Nat := 0x18
abbrev TSL : Nat := 0x20
abbrev TSO : Nat := 0x28
abbrev ORXID : Nat := 0x30
abbrev WIN : Nat := 0x38
abbrev DATA : Nat := 0x40
/-- STATE of OSTAT (R507): IDLE of a transmit object, EMPTY of a receive object. -/
abbrev idle : Nat := 0
abbrev pending : Nat := 1
abbrev onWire : Nat := 2
abbrev done : Nat := 3
abbrev aborted : Nat := 4
abbrev dropped : Nat := 5
abbrev posted : Nat := 6
abbrev disabled : Nat := 7
end Obj

/-- A word of an object. -/
def State.objWord (s : State) (n k off : Nat) : W64 := BitVec.ofNat 64 (leNat s.canByte (objAt n k + off) 8)

/-- Store a word of an object. -/
def State.setObjWord (s : State) (n k off : Nat) (v : W64) : State := s.setCan (objAt n k + off) 8 v.toNat

/-- A field of a word of an object. -/
def State.objField (s : State) (n k off lo w : Nat) : Nat := bits64 (s.objWord n k off) lo w

/-- Store a field of a word of an object. -/
def State.setObjField (s : State) (n k off lo w v : Nat) : State :=
  s.setObjWord n k off (withField64 (s.objWord n k off) lo w v)

/-- STATE of an object (R507). -/
def State.objState (s : State) (n k : Nat) : Nat := s.objField n k Obj.OSTAT 0 3

/-- The page of controller `n`. -/
def canPage (n : Nat) : Nat := 0x0E0 + n

/-- An object takes a STATE; TXPENDm and RXPOSTm follow (R522). -/
def State.setObjState (s : State) (n k st : Nat) : State :=
  let s := s.setObjField n k Obj.OSTAT 0 3 st
  let s := s.setMapBit (rk (canPage n) 0x140) k (st == Obj.pending || st == Obj.onWire)
  s.setMapBit (rk (canPage n) 0x150) k (st == Obj.posted)

/-- GEN of an object counts one more (R507). -/
def State.nextGen (s : State) (n k : Nat) : State :=
  s.setObjField n k Obj.OSTAT 56 8 (s.objField n k Obj.OSTAT 56 8 + 1)

/-- A controller beside its page and its memory. -/
def State.canCtl (s : State) (n : Nat) : CanState := sget (dflt {}) s.net.can n

/-- Store what a controller holds. -/
def State.setCanCtl (s : State) (n : Nat) (x : CanState) : State :=
  { s with net := { s.net with can := sset (dflt {}) s.net.can n x } }

/-- An event of controller `n`. -/
def State.logCan (s : State) (n chan cause : Nat) (data : W64 := 0) : State := s.logEvt (canPage n) chan cause data

/-- A reset of the block reaches one object: IDLE or EMPTY again, GEN counted where it was in use (R520). -/
def State.resetObj (s : State) (n k : Nat) : State :=
  let st := s.objState n k
  let s := if st = Obj.pending ∨ st = Obj.onWire ∨ st = Obj.posted then s.nextGen n k else s
  let s := if st = Obj.idle then s else s.setObjState n k Obj.idle
  if s.objField n k Obj.OSTAT 33 1 = 1 then s.setObjField n k Obj.OSTAT 33 1 0 else s

/-- The frame on the wire is cut: its object is PENDING (R83, R513). -/
def State.cutObj (s : State) (n : Nat) : State :=
  match (s.canCtl n).posts.find? fun k => s.objState n k == Obj.onWire with
  | some k => s.setObjState n k Obj.pending
  | none => s

/-- The frame on the wire at the controller of domain `d` has ended. -/
def State.wireEnds (s : State) (d : Nat) : State :=
  { s with pwr := { s.pwr with onWire := s.pwr.onWire.filter fun x => x != d } }

/-- The number of objects of a controller in one of some states. -/
def State.countObjs (s : State) (n : Nat) (sts : List Nat) : Nat :=
  ((List.range 128).filter fun k => sts.contains (s.objState n k)).length

/-- A block reset of a controller, its page already at reset values (R520). -/
def State.canReset (s : State) (n : Nat) : State :=
  let lost := s.countObjs n [Obj.posted]
  let dropped := s.countObjs n [Obj.pending, Obj.onWire]
  let s := (List.range 128).foldl (fun s k => s.resetObj n k) s
  let s := (s.setCanCtl n {}).wireEnds (10 + n)
  let s := s.setFld (rk (canPage n) 0x120) 0 16 lost
  let s := if lost = 0 then s else s.logCan n 0xFFF 0x0B (BitVec.ofNat 64 lost)
  if dropped = 0 then s else s.logCan n 0xFFF 0x0C (BitVec.ofNat 64 dropped)

end Sys2Proof.Machine
end

