-- ==== Sys2Proof/Machine/EthObj.lean ====
section
/-! DEFINITION. The descriptors of the Ethernet switches' rings in program memory (R537) and the block reset of a switch (R543). -/

namespace Sys2Proof.Machine

/-- The first address of program memory (R140). -/
def pmBase : Nat := 0x200000000

/-- The page of switch `sw`: 0 NETA, 1 NETB. -/
def netPage (sw : Nat) : Nat := 0x0F0 + sw

/-- A register of a switch's page. -/
def netKey (sw off : Nat) : Nat := rk (netPage sw) off

/-- A switch beside its page. -/
def State.eth (s : State) (sw : Nat) : EthState := if sw = 0 then s.net.ethA else s.net.ethB

/-- Store what a switch holds. -/
def State.setEth (s : State) (sw : Nat) (x : EthState) : State :=
  { s with net := if sw = 0 then { s.net with ethA := x } else { s.net with ethB := x } }

/-- The size of ring `i`, 0 to 7 transmit and 8 to 15 receive (R544). -/
def State.ringSize (s : State) (sw i : Nat) : Nat := 2 ^ s.fld (netKey sw (0x304 + 0x10 * i)) 0 4

/-- The program-memory offset of a descriptor of a ring. -/
def State.descAt (s : State) (sw i n : Nat) : Nat := s.fld (netKey sw (0x300 + 0x10 * i)) 5 25 * 32 + 32 * n

/-- A field of a descriptor, by its offset and length in bytes. -/
def State.descField (s : State) (at_ off n : Nat) : Nat := leNat s.pmByte (at_ + off) n

/-- The DMA completes a descriptor: STAT, and then OWN cleared (R537). -/
def State.completeDesc (s : State) (at_ stat : Nat) : State :=
  let ctl := s.descField at_ 0x0A 1
  (s.setPm (at_ + 0x0B) 1 stat).setPm (at_ + 0x0A) 1 (ctl % 128)

/-- An event of a switch. -/
def State.logNet (s : State) (sw chan cause : Nat) (data : W64 := 0) : State := s.logEvt (netPage sw) chan cause data

/-- A block reset of a switch: the learning table and every queue empty, every descriptor taken completed with STAT 0x05 (R543). -/
def State.ethReset (s : State) (sw : Nat) : State :=
  let s := (s.eth sw).taken.foldl (fun s d => s.completeDesc d.place 0x05) s
  (s.setEth sw {}).wireEnds (8 + sw)

end Sys2Proof.Machine
end

