-- ==== Sys2Proof/Machine/Resets.lean ====
section
/-! DEFINITION. What resets do (R102 to R120): the whole-logic reset, the reset of one page and of what its block holds, the
core reset. -/

namespace Sys2Proof.Machine

/-! ## Pins and fuses (R54 to R56, R643) -/

/-- A general-purpose pin that drives shows its level: push-pull both ways, open drain only low (R49, R54). DEDUCED: log entry 41. -/
def State.driveGp (s : State) (n : Nat) : State :=
  let k := Reg.SYS_GP_CFG + 4 * n
  let out := s.flag k 2
  let pin := 16 + n
  let show_ := fun (s : State) (on : Bool) => s.setFlag (Reg.SYS_CT_IN0 + 4 * (pin / 32)) (pin % 32) on
  match s.fld k 0 2 with
  | 1 => show_ s out
  | 2 => if out then s else show_ s false
  | _ => s

/-- The reset values that the fuses load into the configuration of a general-purpose pin (R55, R56): MODE, PULL and OUT in the
places of R54. -/
def gpCode (code : Nat) : Nat :=
  match code with
  | 1 => 0x00
  | 2 => 0x20
  | 3 => 0x01
  | 4 => 0x05
  | 5 => 0x16
  | 6 => 0x02
  | _ => 0x10

/-- The general-purpose pins take their reset state, and those that it drives show their level (R55, R56). -/
def State.loadGpPins (s : State) : State :=
  if s.flag Reg.OTP_PINMODE 0 then
    (List.range 24).foldl (fun s n =>
      (s.setFld (Reg.SYS_GP_CFG + 4 * n) 0 8 (gpCode (s.fld (Reg.OTP_GPRSTm + 4 * (n / 8)) (3 * (n % 8)) 3))).driveGp n) s
  else s

/-- The registers that show the fuse with index `i` of R643, and the bit. DESIGN CHOICE: log entry 5. -/
def fuseBit (i : Nat) : Option (Nat × Nat) :=
  if i < 0x40 then some (Reg.OTP_SERIAL_LO + 4 * (i / 32), i % 32)
  else if i < 0x70 then some (rk 0x0F0 Reg.NET_MAC_LO + 4 * ((i - 0x40) / 32), (i - 0x40) % 32)
  else if i < 0xA0 then some (rk 0x0F1 Reg.NET_MAC_LO + 4 * ((i - 0x70) / 32), (i - 0x70) % 32)
  else if i = 0xA0 then some (Reg.OTP_PINMODE, 0)
  else if i < 0xE9 then some (Reg.OTP_GPRSTm + 4 * ((i - 0xA1) / 24), (i - 0xA1) % 24)
  else none

/-- A blown fuse takes effect (R643). -/
def State.loadFuse (s : State) (i : Nat) : State :=
  match fuseBit i with
  | some r => s.setFlag r.1 r.2 true
  | none =>
    if 0x100 ≤ i ∧ i < 0x280 then
      let k := sget (dflt 0) s.sec.keys 0 ||| BitVec.ofNat 384 (2 ^ (i - 0x100))
      ({ s with sec := { s.sec with keys := sset (dflt 0) s.sec.keys 0 k } }).setFlag Reg.OTP_KSTAT 0 true
    else if i = 0x280 then { s with sec := { s.sec with prodLock := true } }
    else s

/-- A page's registers that fuses load take their values from the fuses again (R12, R643). -/
def State.loadPageFuses (s : State) (p : Nat) : State :=
  s.sec.fuses.foldl (fun s i => if ((fuseBit i).map fun r => r.1 / 4096 == p) = some true then s.loadFuse i else s) s

/-! ## The registers of a page -/

/-- A register that the reset of its page leaves: PWR_REQ, and the discard unit's, which lie in PD01 (R106, R545). -/
def keptByPageReset (k : Nat) : Bool := k % 4096 == Reg.PWR_REQ || (k / 4096 == 0x0F0 && decide (0x400 ≤ k % 4096))

/-- The registers of a page take their reset values (PID and CAP are constants), those of the fuses among them, and its lock is locked (R12,
R106, R147, R152). -/
def State.resetPage (s : State) (p : Nat) : State :=
  let s := (s.resetRegs fun k => k / 4096 == p && !keptByPageReset k).loadPageFuses p
  { s with carrier := { s.carrier with armed := sset (dflt none) s.carrier.armed p none } }

/-- What is on the wires of a group's link is cut: the controller finds a burst under way partial; nothing is received (R110, R119, R343). -/
def LinkEnd.cut (l : LinkEnd) : LinkEnd :=
  { l with composed := none, wire0 := l.wire0.map fun _ => [], relay := l.relay.map fun _ => [], wireRep := none, wireVal := none }

/-- A group's link stops with its block reset; the FGC is not reached (R119). -/
def State.stopLink (s : State) (k : Nat) : State :=
  let g := sget (dflt {}) s.groups k
  { s with groups := sset (dflt {}) s.groups k { g with link := g.link.cut } }

/-- The module end of a group's link starts anew; what it last received stays, and times out (R118, R354). -/
def State.resetLink (s : State) (k : Nat) : State :=
  let g := sget (dflt {}) s.groups k
  let l := g.link
  { s with groups := sset (dflt {}) s.groups k { g with link := {
      wire0 := l.wire0, relay := l.relay, region := l.region, shown := l.shown, timedOut := l.timedOut, missed := l.missed
      reporting := l.reporting, feed1 := l.feed1, feed2 := l.feed2, seenCodes := l.seenCodes, seenG := l.seenG, seenFresh := l.seenFresh
      seenAck := l.seenAck, seenBad := l.seenBad, seenCj := l.seenCj, seenTherm := l.seenTherm, seenPlays := l.seenPlays } } }

/-- The lanes of the twin link show the media they run through (R478). -/
def State.showOpt (s : State) : State :=
  (s.setFlag Reg.TWIN_LANE_STAT 0 (s.carrier.opt.getLsbD 0)).setFlag Reg.TWIN_LANE_STAT 4 (s.carrier.opt.getLsbD 1)

/-- What a block reset of TWIN leaves: no cell under way and no join (R455, R475). -/
def State.resetTwin (s : State) : State :=
  let s := s.showOpt
  { s with pair := { s.pair with
    hbSeq0 := none, hbSeq1 := none, hbSend := 0, joinBuf := [], joinRing := [], owed := [], relayNext := [], mirrored := []
    mirroredTpm := [], domReq := [], marking := false, marked := [], aligned := false, ownHash := [], peerHash := [] } }

/-! ## Commands to the loop engine that fail (R189, R190) -/

/-- The command code of R190. -/
def LxCmd.code : LxCmd → Nat
  | .write .. => 1
  | .read .. => 2
  | .fix .. => 3

/-- The address that a command carries. -/
def LxCmd.addr : LxCmd → W64
  | .write a _ => a
  | .read a _ => a
  | .fix a _ => a

/-- LX_COMMAND_FAIL: a command fails with a LAST_ERR code (R190). -/
def State.lxFail (s : State) (c : Nat) (x : LxCmd) (err : Nat) : State :=
  let s := match x with
    | .read _ d => s.setGreg c d.val { data := 0, tag := 0xD8 }
    | _ => s
  let s := (s.countSat (coreKey c 0x300) 24 8 1).setFld (coreKey c 0x300) 16 8 err
  let data := BitVec.ofNat 64 (x.code * 2 ^ 32 + x.addr.toNat % 2 ^ 32)
  (s.pulseIrq (ecorePage c) 0).logEvt (ecorePage c) 0xFFF 0x11 data

/-- LOOP goes off or is reset: the commands still queued complete with ERR_ISOLATED (R189). -/
def State.lxFlush (s : State) : State :=
  [0, 1, 2, 3].foldl (fun s c =>
    let l := (s.core c).lxq
    let s := s.setCore c { s.core c with lxq := [] }
    l.foldl (fun s x => (s.lxFail c x 2).countMod (coreKey c 0x308) 0 32 1) s) s

/-- What the block of page `p` holds beside its registers takes its reset state. Contents of TPM, of capture memory and of the loop records
stay (R118, R261). DEDUCED: log entry 16. -/
def State.resetBlock (s : State) (p : Nat) : State :=
  match pageBlock p with
  | 0x06 => { s with test := { s.test with sessions := [] } }
  | 0x10 => s.setCore (p - 0x010) {}
  | 0x40 =>
    let s := s.lxFlush
    { s with loop := { s.loop with
      pend := [], fresh := [], entered := [], ack := [], written := [] } }
  | 0x41 => { s with loop := { s.loop with capPoint := [], capPrev := [], capPlace := [], capLeft := [], capSoft := [] } }
  | 0x42 => { s with loop := { s.loop with tune := [] } }
  | 0x80 | 0xA0 | 0xB0 | 0xB4 | 0xB8 => s.resetLink (p - 0x080)
  | 0xB9 => { s with cap := { s.cap with fifo := [], shutCount := 0, lastEdge := [], missed := [], dropping := false } }
  | 0xBA => { s with cap := { s.cap with snaps := [] } }
  | 0xD0 => s.resetTwin
  | 0xD2 => { s with proof := {
      roundAt := s.time.ltb, offLine := s.proof.offLine, latched := s.proof.latched, uePm := s.proof.uePm, mramBad := s.proof.mramBad } }
  | 0xE0 => s.canReset (p - 0x0E0)
  | 0xF0 => s.ethReset (p - 0x0F0)
  | 0xF9 => { s with disp := {} }
  | _ => s

/-- The memory of a block whose domain goes off is lost (R84, R106, R261): loop records with LOOP, capture memory with CAPT, message
memory with its controller. -/
def State.loseBlockMemory (s : State) (p : Nat) : State :=
  match pageBlock p with
  | 0x40 => { s with loop := { s.loop with words := [] } }
  | 0x41 => { s with mem := { s.mem with cap := [], capLost := s.mem.capLost + 1 } }
  | 0xE0 =>
    let n := p - 0x0E0
    { s with mem := { s.mem with can := dropRange s.mem.can (n * 0x4000) (n * 0x4000 + 0x4000) } }
  | _ => s

/-! ## The core reset (R102, R103, R106, R113, R193) -/

/-- Registers of an ECORE page that a core reset keeps: the reset vector and the vector base; CTRL.EN is kept too (R106, R193). -/
def keptByCoreReset (off : Nat) : Bool :=
  off == 0x104 || off == 0x108 || off == 0x10C || off == 0x110

/-- Core `n` is in reset: its page at reset values but for what a core reset keeps, its commands already retired still queued
(R113, R189). -/
def State.coreReset (s : State) (n : Nat) : State :=
  let p := ecorePage n
  let en := s.flag (rk p Reg.CTRL) 0
  let s := s.resetRegs fun k => k / 4096 == p && !keptByCoreReset (k % 4096)
  let s := (s.setFlag (rk p Reg.CTRL) 0 en).setFlag (rk p Reg.CTRL) 1 true
  let s := { s with carrier := { s.carrier with armed := sset (dflt none) s.carrier.armed p none } }
  s.setCore n { lxq := (s.core n).lxq, inReset := true }

/-- Core `n` starts to fetch at its reset vector (R111, R113). -/
def State.coreStart (s : State) (n : Nat) (pc : W64) : State :=
  let p := ecorePage n
  let s := (s.setFlag (rk p Reg.CTRL) 1 false).setFlag (rk p 0x100) 0 true
  s.setCore n { s.core n with pc := pc, inReset := false }

/-- The reset vector of core `n` (R193). -/
def State.resetVector (s : State) (n : Nat) : W64 := s.reg64 (rk (ecorePage n) 0x104)

/-! ## The whole-logic reset -/

/-- Everything on the logic side but what AON keeps, the memories that the source keeps, the lanes and the field side (R106,
R108, R120). `cold` is POR, BOR or CLKFAIL; `power` is POR or BOR. -/
def State.logicReset (s : State) (cold power : Bool) : State :=
  let s := if cold then s else s.mem.dirty.foldl State.discardLine s
  let mem := { s.mem with cap := [], can := [], capLost := s.mem.capLost + 1, cacheErr := [], dirty := [] }
  let mem := if cold then { mem with pm := [], pmErr := [], pmLost := mem.pmLost + 1 } else mem
  let mem := if power then { mem with tpm := [], tpmFill := none, tpmErr := [], tpmLost := mem.tpmLost + 1 } else mem
  let s := s.resetRegs fun _ => true
  { s with
    log := {}
    pwr := { s.pwr with
      held := [], fieldReq := [], holdOff := [], onWire := [], brownAt := none
      feedA := { s.pwr.feedA with monFault := false, band := .ok }
      feedB := { s.pwr.feedB with monFault := false, band := .ok }
      hold := { s.pwr.hold with monFault := false, band := .ok }
      power := if s.pwr.power = .hold then .run else s.pwr.power }
    carrier := { bhx := s.carrier.bhx, bhy := s.carrier.bhy, opt := s.carrier.opt }
    boot := {}
    cores := []
    mem := mem
    loop := {}
    groups := s.groups.foldl (fun m e => sset (dflt ({} : GroupState)) m e.1 
      { e.2 with link := { wire0 := e.2.link.cut.wire0, relay := e.2.link.cut.relay } }) []
    cap := {}
    laneX := { s.laneX with events := [] }
    laneY := { s.laneY with events := [] }
    net := {}
    time := {}
    pair := {}
    aon := { s.aon with shadows := [], cell := [] }
    sec := { s.sec with challenge := none, auth := none, grantMin := 0, sessions := [], stepping := [] }
    test := {}
    proof := {}
    disp := {} }

/-- A page program cut by a reset: each of its 8-byte units is complete or unchanged, and which is open (R109).
DEDUCED: log entry 101. -/
def State.cutProgram (s : State) : State :=
  match s.boot.prog with
  | none => s
  | some p =>
    let s := (List.range 256).foldl (fun s i =>
      let o := p.1 * 256 + i
      if s.freeVal.getLsbD (i / 8) && decide (o % 0x40000 < 0x3FFF8) then s.setNor o 1 ((p.2[i]?).getD 0xFF).toNat else s) s
    s.drawn

/-- A whole-logic reset source is asserted (R99 to R102, R108, R120, R129). The sources by LAST's encoding: 0 POR, 1 BOR,
2 PIN, 3 WDOG, 4 SWREQ, 5 DBGREQ, 6 CLKFAIL, 7 LOCKUP. A source asserted while a reset is already asserted is not counted in COUNT again.
A reset whose release is restarted before its record was written has no record of its own. DESIGN CHOICE: log entry 121. -/
def State.assertReset (s : State) (src : Nat) (early : Bool := false) (data : W64 := 0) : State :=
  let again := s.rst.phase == .asserted
  let noPll := again || s.rst.phase == .waitPll
  let dropped := (again && s.rst.droppedLevel) || decide (0 < s.debugLevel)
  let failrun := (src == 3 || src == 7) && !again && !s.boot.ran60
  let last := if again then min src (s.fld Reg.RST_CAUSE 8 4) else src
  let cold := src == 0 || src == 1 || src == 6
  let s := if again then s else (s.latchIcons).setFld Reg.PWR_PSTATE 4 2 2
  let s := s.cutProgram.logicReset cold (src == 0 || src == 1)
  let s := (s.sec.fuses.foldl State.loadFuse s).loadGpPins.outPins
  let s := (s.setFlag Reg.RST_CAUSE src true).setFld Reg.RST_CAUSE 8 4 last
  let s := if again then s else s.countSat Reg.RST_COUNT 16 16 1
  let s := if failrun then s.countSat Reg.SYS_BOOT_STAT 20 4 1 else s
  let s := if src = 6 && !again then (s.countSat Reg.RST_COUNT 8 8 1).countSat Reg.RST_COUNT 4 4 1 else s
  let clears := src == 0 || src == 2
  let s := if clears then s.setFld Reg.RST_COUNT 4 4 0 else s
  let stay := (s.rst.cfStay && !clears) || decide (8 ≤ s.fld Reg.RST_COUNT 4 4)
  { s with
    rst := {
      phase := .asserted
      causes := if src = 1 ∨ src = 2 ∨ src = 6 then insertNew s.rst.causes src else s.rst.causes
      cold := cold || (noPll && s.rst.cold)
      early := early || (again && s.rst.early)
      recData := data
      droppedLevel := dropped
      cfStay := stay } }

/-- The cause of an asserted source has ended (R102). -/
def State.endCause (s : State) (src : Nat) : State :=
  { s with rst := { s.rst with causes := s.rst.causes.filter fun c => c != src } }

/-- A feed that is lost shows it again after a reset; its loss was logged when it came (R66, R70). DEDUCED: log entry 123. -/
def State.showFeed (s : State) (n : Nat) (x : FeedState) : State :=
  if x.tripped || x.clamped then
    (s.setFld Reg.PWR_SUP_STAT (3 * n) 3 2).setFld (Reg.PWR_LSA_MON + 4 * n) 24 8 (mkTag 2 1).toNat
  else s

/-- The lifecycle state (R609). -/
def State.lifecycle (s : State) : Nat := s.fld Reg.SEC_LCSTATE 0 3

/-- The reset's own records are the first to enter the queue, once MRAM is released: an early kick, the reset, the drop of the debug level,
and what is found at the release of SYS: the level seen at TMODE where the module is not BLANK, whose code the spec does not give (R48, R114,
R162, R571, R576, R580, R622). DESIGN CHOICE: log entry 122. -/
def State.logReset (s : State) : State :=
  let s := if s.rst.early then s.logEvt 0x002 0xFFF 0x23 else s
  let s := s.logEvt 0x002 0xFFF (s.fld Reg.RST_CAUSE 8 4 + 1) s.rst.recData
  let s := if s.rst.droppedLevel then s.logEvt 0x004 0xFFF 0x03 0x400 else s
  let s := if s.lifecycle = 0 then s else s.logSev 0x000 14 Config.tmodeCause.toNat Config.tmodeSev.toNat (s.fld Reg.SYS_CT_ID 6 1)
  let s := if s.flag Reg.MRAM_MSTAT 0 then s.logEvt 0x023 0xFFF 0x05 1 else s
  let s := if s.flag Reg.RTC_TIME7 8 then (s.setEvt Reg.RTC_RTC_EVT 0).logEvt 0x0F8 0xFFF 0x01 else s
  if s.flag Reg.RTC_BKSW3 31 then s.logEvt 0x0F8 0xFFF 0x07 (BitVec.ofNat 64 (s.fld Reg.RTC_BKSW3 0 16)) else s

/-- SYS and the memory controllers are released: the system watchdog starts, DRAM is not ready yet, and the logger reads its control word
and takes the reset's own records first (R111, R112, R162). -/
def State.releaseSys (s : State) : State :=
  let s := ((s.setFlag (rk 0x021 Reg.STAT) 0 false).showFeed 0 s.pwr.feedA).showFeed 1 s.pwr.feedB
  let s := s.loadLogHead.logReset
  { s with rst := { s.rst with phase := .sysReleased, sinceKick := 0, early := false, droppedLevel := false } }

end Sys2Proof.Machine
end

