-- ==== Sys2Proof/Machine/Power.lean ====
section
/-! DEFINITION. Logic feeds, brown-out, power domains and the budget (spec/03, R66 to R93). -/

namespace Sys2Proof.Machine

/-! ## Feeds (R66, R70, R92, R93) -/

/-- A feed's state. -/
def State.feed (s : State) : Feed → FeedState
  | .lsA => s.pwr.feedA
  | .lsB => s.pwr.feedB

/-- Store a feed's state. -/
def State.setFeed (s : State) (f : Feed) (x : FeedState) : State :=
  match f with
  | .lsA => { s with pwr := { s.pwr with feedA := x } }
  | .lsB => { s with pwr := { s.pwr with feedB := x } }

/-- A feed is lost while its comparator is tripped or its clamp holds it disconnected (R66). -/
def FeedState.lost (x : FeedState) : Bool := x.tripped || x.clamped

/-- The state code of a feed: the first that holds of LOST, MONFAULT, HIGH or LOW, OK (R66, R92). -/
def FeedState.code (x : FeedState) : Nat :=
  if x.lost then 2
  else if x.monFault then 4
  else match x.band with
    | .high => 3
    | .low => 1
    | .ok => 0

/-- The tag of a monitor register (R92). -/
def monTag (code : Nat) : Tag :=
  match code with
  | 0 => 0
  | 2 => mkTag 2 1
  | 4 => mkTag 2 3
  | _ => mkTag 1 1

/-- The number of a feed in the registers and events: 0 LS-A, 1 LS-B. -/
def feedNum : Feed → Nat
  | .lsA => 0
  | .lsB => 1

/-- The cause of a feed's new state (R93). -/
def feedCause (code : Nat) : Nat :=
  match code with
  | 0 => 0x04
  | 1 => 0x01
  | 2 => 0x02
  | 3 => 0x03
  | _ => 0x26

/-- A feed takes a new condition: its monitor's tag follows, and a change of its state is shown and logged (R70, R92, R93). -/
def State.updateFeed (s : State) (f : Feed) (x : FeedState) : State :=
  let n := feedNum f
  let s := (s.setFeed f x).setFld (Reg.PWR_LSA_MON + 4 * n) 24 8 (monTag x.code).toNat
  if s.fld Reg.PWR_SUP_STAT (3 * n) 3 = x.code then s
  else ((s.setFld Reg.PWR_SUP_STAT (3 * n) 3 x.code).setEvt Reg.PWR_SUP_EVT n).logEvt 0x003 n (feedCause x.code)

/-- Both feeds are lost (R67). -/
def State.bothLost (s : State) : Bool := s.pwr.feedA.lost && s.pwr.feedB.lost

/-- FEED_LOST (R66). -/
def execFeedLost (feed : Feed) (s : State) : Res :=
  .next (s.updateFeed feed { s.feed feed with tripped := true })

/-- FEED_RECOVERED (R66). -/
def execFeedRecovered (feed : Feed) (s : State) : Res :=
  .next (s.updateFeed feed { s.feed feed with tripped := false })

/-- OVERVOLTAGE_DISCONNECT (R66). -/
def execOvervoltageDisconnect (feed : Feed) (s : State) : Res :=
  .next (s.updateFeed feed { s.feed feed with clamped := true })

/-- OVERVOLTAGE_RECONNECT (R66). -/
def execOvervoltageReconnect (feed : Feed) (s : State) : Res :=
  .next (s.updateFeed feed { s.feed feed with clamped := false })

/-- The hold-up bus takes a new condition: only its monitor register shows it (R66, R92). -/
def State.updateHold (s : State) (x : FeedState) : State :=
  ({ s with pwr := { s.pwr with hold := x } }).setFld Reg.PWR_HOLD_MON 24 8 (monTag x.code).toNat

/-- FEED_MONITOR_CHANGE: the average enters or leaves LOW or HIGH; `mv` is the average (R66). -/
def execFeedMonitorChange (m : Monitor) (new : BandState) (mv : BitVec 16) (s : State) : Res :=
  .next <| match m with
    | .lsA => (s.updateFeed .lsA { s.pwr.feedA with band := new, monFault := false }).setFld Reg.PWR_LSA_MON 0 16 mv.toNat
    | .lsB => (s.updateFeed .lsB { s.pwr.feedB with band := new, monFault := false }).setFld Reg.PWR_LSB_MON 0 16 mv.toNat
    | .hold => (s.updateHold { s.pwr.hold with band := new, monFault := false }).setFld Reg.PWR_HOLD_MON 0 16 mv.toNat

/-- FEED_MONFAULT (R66). -/
def execFeedMonfault (m : Monitor) (s : State) : Res :=
  .next <| match m with
    | .lsA => s.updateFeed .lsA { s.pwr.feedA with monFault := true }
    | .lsB => s.updateFeed .lsB { s.pwr.feedB with monFault := true }
    | .hold => s.updateHold { s.pwr.hold with monFault := true }

/-! ## Brown-out (R66 to R71, R134) -/

/-- HOLDUP_BACKSTOP: BOR at once (R66, R67). -/
def execHoldupBackstop (s : State) : Res := .next (s.assertReset 1)

/-- BROWNOUT_WITHDRAWN: a feed has been back for 1 ms before BOR (R68). -/
def execBrownoutWithdrawn (feed : Feed) (s : State) : Res :=
  .next <|
    if s.flag Reg.PWR_SUP_STAT 8 && !(s.feed feed).lost then
      let s := { s with pwr := { s.pwr with brownAt := none } }
      ((s.setFlag Reg.PWR_SUP_STAT 8 false).setEvt Reg.PWR_SUP_EVT 2).logEvt 0x003 0xFFF 0x06
    else s

/-- BOR: 20 ms after the second feed was lost, without a withdrawal (R67). -/
def execBor (s : State) : Res :=
  .next (if s.flag Reg.PWR_SUP_STAT 8 then s.assertReset 1 else s)

/-- BOR_RELEASE: a feed has stayed above 18.0 V for 10 ms (R69). -/
def execBorRelease (feed : Feed) (s : State) : Res :=
  .next (if (s.feed feed).lost then s else s.endCause 1)

/-- HOLDUP_MEASUREMENT: `time` in units of 0.1 ms (R71, R92). -/
def execHoldupMeasurement (time : BitVec 16) (s : State) : Res :=
  .next <|
    let s := s.setFld Reg.PWR_HOLDUP_MEAS 0 16 time.toNat
    if time.toNat < 200 then
      ((s.setFlag Reg.PWR_SUP_STAT 9 true).setEvt Reg.PWR_SUP_EVT 3).logEvt 0x003 0xFFF 0x07
    else s.setFlag Reg.PWR_SUP_STAT 9 false

/-! ## The budget (R89, R90) -/

/-- The dissipation a domain is charged with, in units of 0.5 W (R89). -/
def domainFigure (d : Nat) : Nat :=
  if d = 0 then 1 else if d = 1 then 13 else if d ≤ 5 then 12 else if d = 6 then 18 else if d = 7 then 4
  else if d ≤ 9 then 5 else if d ≤ 17 then 1 else if d = 18 then 3 else if d ≤ 23 then 1 else if d ≤ 55 then 2
  else if d ≤ 71 then 4 else if d ≤ 73 then 1 else if d ≤ 77 then 3 else if d = 78 then 22 else if d = 79 then 6 else 0

/-- A request to switch a domain on is held (R85, R86). -/
def State.onHeld (s : State) (d : Nat) : Bool :=
  sget (dflt 0) s.pwr.held d == 1 || sget (dflt 0) s.pwr.fieldReq d == 1

/-- A domain is charged: its STATE is not OFF, or an on-request for it is held (R90). DEDUCED: log entry 18. -/
def State.charged (s : State) (d : Nat) : Bool := s.domState d != 0 || s.onHeld d

/-- LOAD_EST (R90). DEDUCED: log entry 18. -/
def State.loadEst (s : State) : Nat :=
  ((List.range 80).map fun d => if s.charged d then domainFigure d else 0).sum

/-- An on request for a domain would raise LOAD_EST above BUDGET, or BUDGET is 0, which denies every one (R90, R92). -/
def State.overBudget (s : State) (d : Nat) : Bool :=
  let budget := s.fld Reg.PWR_BUDGET 0 12
  budget == 0 || (!s.charged d && decide (budget < s.loadEst + domainFigure d))

/-- LOAD_EST and OVER_BUDGET follow the domains and the budget (R90). -/
def State.chargeUpdate (s : State) : State :=
  let est := s.loadEst
  let s := s.setFld Reg.PWR_LOAD_EST 0 12 est
  let above := decide (s.fld Reg.PWR_BUDGET 0 12 < est)
  if above && !s.flag Reg.PWR_SUP_STAT 10 then (s.setFlag Reg.PWR_SUP_STAT 10 true).logEvt 0x003 0xFFF 0x24
  else s.setFlag Reg.PWR_SUP_STAT 10 above

/-- What BUDGET stores of a written value (R92). -/
def budgetStored (v : W32) : W32 := if 0x118 < fieldOf v 0 12 then withField v 0 12 0x118 else v

/-- The effect of a write of PWR.BUDGET (R90, R92). -/
def State.writeBudget (s : State) (w : Writer) (v : W32) : State :=
  (s.fieldWrite w 0x003 0x118 v (budgetStored v)).chargeUpdate

/-- BUDGET_WRITE (R90). -/
def execBudgetWrite (w : Writer) (value : W32) (s : State) : Res :=
  .next (s.access w 0x003 0x118 value fun s => s.writeBudget w value)

/-! ## Domains (R79 to R88) -/

/-- A field domain that software switches (R78): PD24 to PD78. -/
def fieldDomain (d : Nat) : Bool := decide (24 ≤ d ∧ d ≤ 78)

/-- The image assigns a task to core `c` (R79). -/
def State.taskOnCore (s : State) (c : Nat) : Bool :=
  match s.boot.image with
  | some i => i.tasks.any fun t => t.2.cls != .unused && t.2.core.val == c
  | none => false

/-- A request is denied: the page's PWR_REQ and the log say so (R79, R81, R90). -/
def State.denyRequest (s : State) (p cause : Nat) : State :=
  let k := rk p Reg.PWR_REQ
  (((s.setFlag k 8 true).setFld k 10 3 cause)).logEvt 0x003 (pageDomain p) 0x22

/-- Why an off request of a master for a logic domain is denied, by DENY_CAUSE; 0 where it is not: the writer's own core comes before an
assigned task (R79). DESIGN CHOICE: log entry 125. -/
def State.offDenied (s : State) (m : Master) (d : Nat) : Nat :=
  if d = 0 ∨ d = 1 ∨ d = 20 ∨ d = 21 ∨ d = 79 then 1
  else if m = .core 0 ∧ d = 2 ∨ m = .core 1 ∧ d = 3 ∨ m = .core 2 ∧ d = 4 ∨ m = .core 3 ∧ d = 5 then 3
  else if (3 ≤ d ∧ d ≤ 5) ∧ s.taskOnCore (d - 2) = true then 5
  else if d = 18 ∧ (s.role = 2 ∨ s.role = 3 ∨ s.role = 4 ∨ s.role = 6) then 4
  else 0

/-- The domain starts to rise (R84). -/
def State.startRise (s : State) (d : Nat) : State := (s.setDomState d 1).chargeUpdate

/-- A switch that stops completes the frame that it is sending: one that the DMA has taken and that nothing holds (R82, R116, R541).
DEDUCED: log entry 140. -/
def State.lastFrame (s : State) (d : Nat) : State :=
  if (d = 8 ∨ d = 9) ∧ (s.eth (d - 8)).taken ≠ [] ∧ s.pair.verdict = false then
    { s with pwr := { s.pwr with onWire := insertNew s.pwr.onWire d } }
  else s

/-- The domain starts to drain: the port closes, and a core in it stops (R82). -/
def State.startDrain (s : State) (d : Nat) : State :=
  let s := (domainPages d).foldl State.abortTestsOf s
  let s := (s.lastFrame d).setDomState d 3
  if 2 ≤ d ∧ d ≤ 5 then s.setFlag (rk (ecorePage (d - 2)) 0x100) 0 false else s

/-- A frame is on the wire at the controller of domain `d`. -/
def State.frameOnWire (s : State) (d : Nat) : Bool := s.pwr.onWire.contains d

/-- The frame on the wire ends there, with an error frame or an invalid check sequence (R83, R117). -/
def State.endFrame (s : State) (d : Nat) : State := (if 10 ≤ d ∧ d ≤ 17 then s.cutObj (d - 10) else s).wireEnds d

/-- A forced off cuts the frame on the wire (R83). -/
def State.cutFrame (s : State) (d : Nat) : State :=
  if s.frameOnWire d then (s.endFrame d).logEvt 0x003 d 0x25 else s

/-- A held request of a logic domain is kept until the transition ends; only the last counts (R85). -/
def State.holdRequest (s : State) (d req : Nat) : State :=
  ({ s with pwr := { s.pwr with held := sset (dflt 0) s.pwr.held d req } }).chargeUpdate

/-- An on request for a logic domain (R79, R84, R85, R90). -/
def State.logicOn (s : State) (p d : Nat) : State :=
  if d = 0 ∨ d = 1 ∨ d = 20 ∨ d = 21 ∨ d = 79 then s
  else match s.domState d with
    | 2 => s
    | 0 => if s.overBudget d then s.denyRequest p 2 else s.startRise d
    | _ => if s.overBudget d then s.denyRequest p 2 else s.holdRequest d 1

/-- An off or forced off request for a logic domain. A forced off of a domain that is DRAINING leaves a held request in force (R79, R82, R83,
R85). DESIGN CHOICE: log entry 126. -/
def State.logicOff (s : State) (m : Master) (p d : Nat) (forced : Bool) : State :=
  let why := s.offDenied m d
  if why = 1 then s.denyRequest p 1
  else match s.domState d with
    | 0 => s
    | 2 =>
      if why ≠ 0 then s.denyRequest p why
      else if forced then (s.startDrain d).cutFrame d else s.startDrain d
    | 3 => if forced then s.cutFrame d else s.holdRequest d 2
    | _ => if why ≠ 0 then s.denyRequest p why else s.holdRequest d (if forced then 3 else 2)

/-- A request for a field domain is held until the FGC reports the state it asks for; one for the state shown is no action (R79, R86, R90). -/
def State.fieldRequest (s : State) (p d : Nat) (on : Bool) : State :=
  let want := if on then 2 else 0
  if s.domState d = want then s
  else if on && s.overBudget d then s.denyRequest p 2
  else
    ({ s with pwr := { s.pwr with fieldReq := sset (dflt 0) s.pwr.fieldReq d (if on then 1 else 2) } }).chargeUpdate

/-- In twin sync both modules carry out a request for a field domain at one loop frame boundary: it waits for that boundary, but where the
holder has assigned it, which a mirrored write carries (R87, R304, R460). DEDUCED: log entry 127. -/
def State.domainWaits (s : State) (m : Master) (p : Nat) : Bool := s.twinSync && fieldDomain (pageDomain p) && decide (m ≠ .twin)

/-- REQ of a write to PWR_REQ of page `p` takes effect (R81). -/
def State.domainRequest (s : State) (m : Master) (p req : Nat) : State :=
  let d := pageDomain p
  match req with
  | 0 => s
  | 1 => if fieldDomain d then s.fieldRequest p d true else s.logicOn p d
  | _ => if fieldDomain d then s.fieldRequest p d false else s.logicOff m p d (req == 3)

/-- REQ of a write to PWR_REQ of page `p` is taken: at once, or at its boundary (R81, R87). DEDUCED: log entry 127. -/
def State.takeRequest (s : State) (m : Master) (p req : Nat) : State :=
  if s.domainWaits m p then
    { s with pair := { s.pair with domReq := s.pair.domReq ++ [(s.boundaryAfter 1250, p, req)] } }
  else s.domainRequest m p req

/-- The effect of a write to PWR_REQ: DENIED and TMO are cleared by a 1, then REQ acts (R81). -/
def State.writePwrReq (s : State) (m : Master) (p : Nat) (v : W32) : State :=
  ((s.andNotReg (rk p Reg.PWR_REQ) (v &&& 0x300)).takeRequest m p (fieldOf v 0 2)).countWrite p

/-- A write of PWR_REQ of a page with one request in it. -/
def State.requestDomain (s : State) (w : Writer) (page req : Nat) : State :=
  s.access w page Reg.PWR_REQ (BitVec.ofNat 32 req) fun s => s.writePwrReq w.master page (BitVec.ofNat 32 req)

/-- DOMAIN_ON_REQUEST (R84). -/
def execDomainOnRequest (w : Writer) (page : Nat) (s : State) : Res := .next (s.requestDomain w page 1)

/-- DOMAIN_OFF_REQUEST (R82). -/
def execDomainOffRequest (w : Writer) (page : Nat) (s : State) : Res := .next (s.requestDomain w page 2)

/-- DOMAIN_FORCED_OFF (R83). -/
def execDomainForcedOff (w : Writer) (page : Nat) (s : State) : Res := .next (s.requestDomain w page 3)

/-- The request that was held through a transition is acted on, or dropped where the state has just been reached (R85). -/
def State.actHeld (s : State) (d : Nat) : State :=
  let req := sget (dflt 0) s.pwr.held d
  let s := { s with pwr := { s.pwr with held := sset (dflt 0) s.pwr.held d 0 } }
  if req = 1 ∧ s.domState d = 0 then s.startRise d
  else if (req = 2 ∨ req = 3) ∧ s.domState d = 2 then
    if req = 3 then (s.startDrain d).cutFrame d else s.startDrain d
  else s

/-- DOMAIN_OFF_COMPLETE: the domain is OFF (R82). -/
def execDomainOffComplete (domain : Fin 80) (s : State) : Res :=
  .next <|
    let d := domain.val
    if fieldDomain d || s.domState d != 3 then s
    else
      let s := s.setDomState d 0
      let s := (domainPages d).foldl (fun s p => (s.loseBlockMemory p).resetBlock p) s
      (((s.chargeUpdate).logEvt 0x003 d 0x21).pulseIrq 0x003 3).actHeld d

/-- DOMAIN_ON_COMPLETE: the port opens, the block's registers at reset values (R84). -/
def execDomainOnComplete (domain : Fin 80) (s : State) : Res :=
  .next <|
    let d := domain.val
    if fieldDomain d || s.domState d != 1 then s
    else
      let s := s.setDomState d 2
      let s := (domainPages d).foldl (fun s p => (s.resetPage p).resetBlock p) s
      (((s.chargeUpdate).logEvt 0x003 d 0x20).pulseIrq 0x003 3).actHeld d

/-- FIELD_DOMAIN_TIMEOUT: the FGC has not reported the state within 100 ms; the request stays held (R86). -/
def execFieldDomainTimeout (domain : Fin 80) (s : State) : Res :=
  .next <|
    let d := domain.val
    if fieldDomain d && sget (dflt 0) s.pwr.fieldReq d != 0 then
      ((domainPages d).foldl (fun s p => s.setFlag (rk p Reg.PWR_REQ) 9 true) s).logEvt 0x003 d 0x23
    else s

end Sys2Proof.Machine
end

