-- ==== Sys2Proof/Machine/Clocks.lean ====
section
/-! DEFINITION. The clock monitor, the reset sources, the release of a whole-logic reset, the system watchdog, core resets and
block resets (spec/04, R98 to R120), and the latching of the carrier pins at a release (R34, R35, R48 to R50, R55, R56). -/

namespace Sys2Proof.Machine

/-! ## Clock supervision (R98 to R101) -/

/-- A clock failure found by the monitor is CLKFAIL, unless a reset is already asserted for want of the clock (R99, R120). -/
def State.clockFailure (s : State) : State :=
  match s.rst.phase with
  | .asserted => if s.rst.causes.contains 6 then s else s.assertReset 6
  | _ => s.assertReset 6

/-- A window was out of range: two in a row are a clock failure (R98). -/
def State.windowOutside (s : State) : State :=
  if s.rst.badWindow then s.clockFailure
  else { s with rst := { s.rst with badWindow := true, goodWindows := 0 } }

/-- A window was in range: it ends the cause of CLKFAIL, and counts towards the ten of a release (R98, R102, R111). -/
def State.windowInside (s : State) : State :=
  let s := { s with rst := { s.rst with badWindow := false, goodWindows := min 10 (s.rst.goodWindows + 1) } }
  match s.rst.phase with
  | .running | .sysReleased => s
  | _ => s.endCause 6

/-- CLOCK_MONITOR_WINDOW: a window of 2 000 periods has given `edges` reference edges (R98, R101). While the CLK page is in reset it shows
nothing and logs nothing. -/
def execClockMonitorWindow (edges : BitVec 12) (s : State) : Res :=
  .next <|
    let bad := decide (edges.toNat < 2300 ∨ 2710 < edges.toNat)
    let s := match s.rst.phase with
      | .running | .sysReleased =>
        let s := (s.setFld Reg.CLK_REF_CNT 0 12 edges.toNat).setFlag Reg.CLK_CLK_STAT 3 bad
        if bad then (s.setEvt Reg.CLK_CLK_EVT 0).logEvt 0x001 0xFFF 0x30 else s
      | _ => s
    if bad then s.windowOutside else s.windowInside

/-- REFERENCE_TIMEOUT: no reference edge for 2 µs (R98). -/
def execReferenceTimeout (s : State) : Res := .next s.clockFailure

/-- PLL_LOCK_LOST (R98, R99). -/
def execPllLockLost (s : State) : Res := .next s.clockFailure

/-- PLL_LOCK_TIMEOUT: the attempt fails and restarts, so release goes on waiting for the PLL (R98). -/
def execPllLockTimeout (s : State) : Res :=
  .next (if s.rst.phase = .waitPll then { s with rst := { s.rst with phase := .waitPll } } else s)

/-- PLL_LOCKED: lock has been held for 1 ms, the derived clocks run, SYS and the memory controllers are released. The lock attempt starts
only once ten windows in a row have been in range (R111). -/
def execPllLocked (s : State) : Res :=
  .next (if s.rst.phase = .waitPll ∧ s.rst.goodWindows = 10 then s.releaseSys else s)

/-- CLKFAIL_RUN_CLEAR: 60 s after release without a clock failure (R100). -/
def execClkfailRunClear (s : State) : Res :=
  .next (if s.rst.phase = .running then s.setFld Reg.RST_COUNT 4 4 0 else s)

/-! ## Whole-logic sources (R102) -/

/-- POR (R102). -/
def execPor (s : State) : Res := .next (s.assertReset 0)

/-- The reset controller is unpowered: SAVE or OFF (R625). -/
def State.unpowered (s : State) : Bool := s.pwr.power == .save || s.pwr.power == .off

/-- PIN_RESET: nRESET has been low for 10 µs, or has returned high (R34, R102). Without power its level is only remembered for the start
(R625). -/
def execPinReset (low : Bool) (s : State) : Res :=
  .next <|
    if !low then (s.setFlag Reg.SYS_CT_IN0 2 true).endCause 2
    else if s.rst.causes.contains 2 then s
    else if s.unpowered then { s with rst := { s.rst with causes := s.rst.causes ++ [2] } }
    else (s.assertReset 2).setFlag Reg.SYS_CT_IN0 2 false

/-- The pins latched at a reset release: side, TMODE, seats and levels (R34, R35, R48 to R50). TMODE starts production test
only in BLANK, which is lifecycle state 0. DESIGN CHOICE: log entry 4. -/
def State.latchPins (s : State) (pins : ReleasePins) : State :=
  let side := (pins.side.map (·.toNat)).getD 0
  let tmode := pins.tmode.getD false
  let s := (s.setReg Reg.SYS_CT_IN0 pins.ct0).setReg Reg.SYS_CT_IN1 (pins.ct1.setWidth 32)
  let id := side + 4 * (decide (side ≠ 0)).toNat + 8 * (s.flag Reg.OTP_PINMODE 0).toNat
    + 16 * (!pins.ct0.getLsbD 6).toNat + 32 * (!pins.ct0.getLsbD 7).toNat + 64 * tmode.toNat
  let s := ((s.setReg Reg.SYS_CT_ID (BitVec.ofNat 32 id)).setFlag Reg.SYS_CT_IN0 2 true).loadGpPins.outPins
  let s := ({ s with carrier := { s.carrier with opt := pins.opt } }).showOpt
  { s with rst := { s.rst with production := tmode && s.lifecycle == 0 } }

/-- RESET_RELEASE: the cause has ended and release begins; `pins` are the carrier pins at the release (R100, R111, R112). -/
def execResetRelease (pins : ReleasePins) (s : State) : Res :=
  .next <|
    if s.rst.phase = .asserted ∧ s.rst.causes = [] ∧ s.rst.cfStay = false ∧ s.unpowered = false then
      let s := s.latchPins pins
      if s.rst.cold then { s with rst := { s.rst with phase := .waitPll } } else s.releaseSys
    else s

/-- DRAM_INIT_COMPLETE: PMC is ready and ECORE0 is released at the boot ROM (R111, R112). -/
def execDramInitComplete (s : State) : Res :=
  .next <|
    if s.rst.phase = .sysReleased then
      let s := s.setFlag (rk 0x021 Reg.STAT) 0 true
      let s := { s with rst := { s.rst with phase := .running, cold := false } }
      s.coreStart 0 0
    else s

/-! ## The system watchdog (R104, R105) -/

/-- The system watchdog counts: SYS is released and EN is 1. DEDUCED: log entry 100. -/
def State.watchdogOn (s : State) : Bool :=
  (s.rst.phase == .running || s.rst.phase == .sysReleased) && s.flag Reg.RST_WDG_CTRL 16

/-- SYSTEM_WATCHDOG_EXPIRY: the countdown, which pauses while a debugger halts a core, has reached zero (R104).
DEDUCED: log entry 100. -/
def execSystemWatchdogExpiry (s : State) : Res :=
  .next (if s.watchdogOn && s.fld Reg.DBG_RUNCTL 0 4 == 0 && s.fld Reg.RST_WDG_STAT 16 16 == 0 then s.assertReset 3 else s)

/-- The countdown starts again from TIMEOUT. -/
def State.restartWatchdog (s : State) : State :=
  let s := s.setFld Reg.RST_WDG_STAT 16 16 (s.fld Reg.RST_WDG_CTRL 0 16)
  { s with rst := { s.rst with sinceKick := 0 } }

/-- The write comes in one of the 64 cycles of CLK_FAB after the first word: 32 ticks of LTB are 64 cycles, and at a distance of just as many
ticks the half tick, which LTB does not show, decides (R104). DESIGN CHOICE: log entry 40. -/
def State.kickInTime (s : State) : Bool :=
  match s.rst.kickOpen with
  | none => false
  | some t => decide ((s.time.ltb - t).toNat < 32) || ((s.time.ltb - t).toNat == 32 && s.freeVal.getLsbD 0)

/-- A correct kick: early it asserts WDOG, otherwise it restarts the countdown. While EN is 0 it does nothing, and REMAIN stays as it is (R104).
DESIGN CHOICE: log entry 124. -/
def State.goodKick (s : State) : State :=
  let s := { s with rst := { s.rst with kickOpen := none } }
  if s.flag Reg.RST_WDG_CTRL 16 then
    if s.rst.sinceKick < s.fld Reg.RST_WDG_WIN 0 16 then s.assertReset 3 true else s.restartWatchdog
  else s

/-- A write to WDG_KICK; `inWindow` says that it comes in one of the 64 cycles after the first word (R104). DEDUCED: log entry 19. -/
def State.kick (s : State) (v : W32) (inWindow : Bool) : State :=
  if v = 0x0000A5C3 then { s with rst := { s.rst with kickOpen := some s.time.ltb } }
  else if v = 0x00003C5A ∧ s.rst.kickOpen.isSome = true ∧ inWindow = true then s.goodKick
  else
    ({ s with rst := { s.rst with kickOpen := none } }).countSat Reg.RST_WDG_STAT 0 8 1

/-- SYSTEM_WATCHDOG_KICK (R104). -/
def execSystemWatchdogKick (w : Writer) (value : W32) (inWindow : Bool) (s : State) : Res :=
  .next (s.access w 0x002 0x128 value fun s => (s.countWrite 0x002).kick value inWindow)

/-- What WDG_CTRL stores of a written value: TIMEOUT 0 as 1, and EN stays 1 below debug level HALT (R105). -/
def State.wdgCtrlStored (s : State) (v : W32) : W32 :=
  let v := if fieldOf v 0 16 = 0 then withField v 0 16 1 else v
  if s.debugLevel < 2 then v ||| (s.reg Reg.RST_WDG_CTRL &&& 0x10000) else v

/-- The effect of a write of WDG_CTRL (R104, R105). -/
def State.writeWdgCtrl (s : State) (w : Writer) (v : W32) : State :=
  let was := s.flag Reg.RST_WDG_CTRL 16
  let before := s.fld Reg.RST_WDG_CTRL 0 16
  let s := s.fieldWrite w 0x002 0x120 v (s.wdgCtrlStored v)
  let now := s.fld Reg.RST_WDG_CTRL 0 16
  if !s.flag Reg.RST_WDG_CTRL 16 then s
  else if !was then s.restartWatchdog
  else if now = before then s
  else if now ≤ s.rst.sinceKick then s.assertReset 3
  else s.setFld Reg.RST_WDG_STAT 16 16 (now - s.rst.sinceKick)

/-- WDG_CTRL_WRITE (R104). -/
def execWdgCtrlWrite (w : Writer) (value : W32) (s : State) : Res :=
  .next (s.access w 0x002 0x120 value fun s => s.writeWdgCtrl w value)

/-- An event of the RST page. -/
def State.logRst (s : State) (chan cause : Nat) : State := s.logEvt 0x002 chan cause

/-- The effect of a write of RST.SWREQ (R105). -/
def State.writeSwreq (s : State) (v : W32) : State :=
  if v.getLsbD 0 then (if keyed v 0x5253 then s.assertReset 4 else s.logRst 0xFFF 0x22) else s

/-- SWREQ (R105). -/
def execSwreq (w : Writer) (value : W32) (s : State) : Res :=
  .next (s.command w Reg.RST_SWREQ value fun s => s.writeSwreq value)

/-! ## Core resets (R102, R103, R113) -/

/-- A write of 1 to ECOREn.CTRL.SRST is denied: from core n itself, from a DMA engine, from PROOF (R102, R103). -/
def coreResetDenied (m : Master) (n : Nat) : Bool :=
  match m with
  | .core k => k.val == n
  | .dmaA | .dmaB | .proof => true
  | _ => false

/-- A write of 1 to ECOREn.CTRL.SRST (R102, R103). DEDUCED: log entry 17. -/
def State.requestCoreReset (s : State) (m : Master) (n : Nat) : State :=
  if coreResetDenied m n then s.logRst n 0x22
  else if (s.core n).inReset then s
  else (s.coreReset n).logRst n (if m = .dbg then 0x13 else 0x12)

/-- CORE_RESET_REQUEST (R102). A denied one has no effect and is not counted (R103, R154). -/
def execCoreResetRequest (w : Writer) (core : Fin 4) (s : State) : Res :=
  .next (s.access w (ecorePage core.val) Reg.CTRL 2 fun s =>
    (if coreResetDenied w.master core.val then s else s.countWrite (ecorePage core.val)).requestCoreReset w.master core.val)

/-- CORE_RESET_RELEASE: the core restarts at its reset vector (R113, R193). -/
def execCoreResetRelease (core : Fin 4) (s : State) : Res :=
  .next <|
    if (s.core core.val).inReset then
      if s.flag (rk (ecorePage core.val) Reg.CTRL) 0 then s.coreStart core.val (s.resetVector core.val)
      else
        (s.setFlag (rk (ecorePage core.val) Reg.CTRL) 1 false).setCore core.val
          { s.core core.val with inReset := false }
    else s

/-! ## Block resets (R115 to R120) -/

/-- R115 denies the block reset of a page. -/
def State.blockResetDenied (s : State) (p : Nat) : Bool :=
  [0x000, 0x001, 0x002, 0x003, 0x004, 0x005, 0x007, 0x020, 0x021, 0x0F2, 0x0D1, 0x0C0, 0x0C1].contains p
    || (p == 0x0D0 && s.role != 1 && s.role != 5)

/-- A write of 1 to CTRL.SRST of a page is denied (R103, R115). -/
def State.resetDenied (s : State) (m : Master) (p : Nat) : Bool :=
  if 0x010 ≤ p ∧ p ≤ 0x013 then coreResetDenied m (p - 0x010) else s.blockResetDenied p

/-- The channel field of the record of a denied reset: the core's number or the page index (R103, R115). -/
def resetChannel (p : Nat) : Nat := if 0x010 ≤ p ∧ p ≤ 0x013 then p - 0x010 else p

/-- The block's port closes and its block reset runs (R116, R119). -/
def State.startBlockReset (s : State) (p : Nat) (forced : Bool) : State :=
  let s := s.abortTestsOf p
  let s := if s.flag (rk p Reg.CTRL) 1 then s else s.lastFrame (pageDomain p)
  let s := (s.setFlag (rk p Reg.CTRL) 1 true).setFlag (rk p Reg.STAT) 0 false
  let s := if 0x80 ≤ p ∧ p < 0xB9 then s.stopLink (p - 0x080) else s
  if forced then { s with rst := { s.rst with forced := insertNew s.rst.forced p } } else s

/-- A write of 1 to CTRL.SRST of a page that is not denied (R115). -/
def State.requestBlockReset (s : State) (m : Master) (p : Nat) : State :=
  if 0x010 ≤ p ∧ p ≤ 0x013 then s.requestCoreReset m (p - 0x010)
  else if s.flag (rk p Reg.CTRL) 1 then s
  else s.startBlockReset p false

/-- BLOCK_RESET_COMPLETE: the block is reset and its port reopened with EN 0 (R116, R117). DEDUCED: log entry 16.
DEDUCED: log entry 17. -/
def execBlockResetComplete (page : Nat) (s : State) : Res :=
  .next <|
    if (pageInfo page).isSome && !decide (0x010 ≤ page ∧ page ≤ 0x013) && s.flag (rk page Reg.CTRL) 1 then
      let forced := s.rst.forced.contains page
      let s := (s.resetPage page).resetBlock page
      let s := (s.setFlag (rk page Reg.CTRL) 0 false).setFlag (rk page Reg.STAT) 0 false
      let s := { s with rst := { s.rst with forced := s.rst.forced.filter fun p => p != page } }
      s.logRst page (if forced then 0x21 else 0x20)
    else s

/-- The effect of a write of RST.FRST: the frame on the wire ends, and the reset alone is logged (R117). A denied one is not counted (R154). -/
def State.writeFrst (s : State) (v : W32) : State :=
  let p := fieldOf v 0 10
  if !keyed v 0x4652 || (pageInfo p).isNone || s.blockResetDenied p || decide (0x010 ≤ p ∧ p ≤ 0x013)
      || s.domState (pageDomain p) != 2 then s.logRst p 0x22
  else ((s.countWrite 0x002).startBlockReset p true).endFrame (pageDomain p)

/-- FORCED_BLOCK_RESET (R117). -/
def execForcedBlockReset (w : Writer) (value : W32) (s : State) : Res :=
  .next (s.access w 0x002 0x114 value fun s => s.writeFrst value)

end Sys2Proof.Machine
end

