-- ==== Sys2Proof/Machine/Carrier.lean ====
section
/-! DEFINITION. The carrier interface (spec/02, R34 to R54): identification record, temperature, side, presence, the claim line
and the general-purpose pins. -/

namespace Sys2Proof.Machine

/-- An event of the carrier interface: its bit of CT_EVT, its pin and its cause (R52). -/
def State.ctEvent (s : State) (bit pin cause : Nat) : State := (s.setEvt Reg.SYS_CT_EVT bit).logEvt 0x000 pin cause

/-- Byte `i` of a record, 0 beyond its end. -/
def byteAt (l : List Byte) (i : Nat) : Nat := ((l[i]?).getD 0).toNat

/-- The carrier type and position that a side code stands for (R35, R42); none for the invalid code. -/
def sideCarrier (side : Nat) : Option (Nat × Nat) :=
  match side with
  | 1 => some (0x44, 1)
  | 2 => some (0x44, 2)
  | 3 => some (0x53, 0)
  | _ => none

/-- The identification record passes its check value (R42). -/
def recordOk (rec : List Byte) : Bool :=
  decide (32 ≤ rec.length) && (crc16 (rec.take 30)).toNat == byteAt rec 30 * 256 + byteAt rec 31

/-- The carrier type and position of a record are not those of the side code (R43); no record disagrees with the invalid code 0b00.
DESIGN CHOICE: log entry 120. -/
def recordDisagrees (side ctype pos : Nat) : Bool :=
  match sideCarrier side with
  | some want => want.1 != ctype || want.2 != pos
  | none => false

/-- The module stays OFF-LINE for a record that disagrees with the side code (R43, R126). -/
def State.carrierMismatch (s : State) : State :=
  let s := ({ s with carrier := { s.carrier with mismatch := true } }).ctEvent 5 9 0x45
  if s.role = 0 then s else s.setRole 5

/-- A valid record is shown and compared with the side code (R43, R50). -/
def State.takeRecord (s : State) (ctype pos : Nat) : State :=
  let s := (s.setFlag Reg.SYS_CT_ID 7 true).setFld Reg.SYS_CT_ID 8 8 ctype
  if recordDisagrees s.side ctype pos then s.carrierMismatch else s

/-- CID_RECORD_READ: the first 32 bytes of the identification memory have been read (R42, R43). -/
def execCidRecordRead (rec : List Byte) (s : State) : Res :=
  .next <|
    let s := { s with carrier := { s.carrier with cidFails := 0, cidTrans := 0 } }
    if recordOk rec then s.takeRecord (byteAt rec 1) (byteAt rec 2) else s.ctEvent 6 9 0x46

/-- CID_TRANSACTION_TIMEOUT: a transaction is abandoned; three attempts in a row at one transaction end the reading of the record, and three
transactions of the sensor in a row turn the temperature BAD, once there has been a reading (R41, R43, R44). -/
def execCidTransactionTimeout (what : CidTarget) (s : State) : Res :=
  .next <|
    let s := s.ctEvent 3 9 0x43
    match what with
    | .record t =>
      let n := if s.carrier.cidTrans = t then s.carrier.cidFails + 1 else 1
      let s := { s with carrier := { s.carrier with cidFails := n, cidTrans := t } }
      if n = 3 then s.ctEvent 6 9 0x46 else s
    | .sensor =>
      let n := s.carrier.tempFails + 1
      let s := { s with carrier := { s.carrier with tempFails := n } }
      if 3 ≤ n ∧ s.fld Reg.SYS_CT_TEMP 24 8 ≠ 0xD8 then s.setFld Reg.SYS_CT_TEMP 24 8 (mkTag 2 3).toNat else s

/-- CARRIER_TEMP_READ: the sensor returns `value` in units of 0.0625 °C (R44, R53). Below 80 °C the sensor has released its
alert line. -/
def execCarrierTempRead (value : BitVec 12) (s : State) : Res :=
  .next <|
    let t := value.toInt
    let tag := if t < -720 ∨ 1760 < t then mkTag 2 1 else 0
    let s := { s with carrier := { s.carrier with tempFails := 0 } }
    let s := s.setReg Reg.SYS_CT_TEMP (BitVec.ofNat 32 (tag.toNat * 2 ^ 24 + (value.signExtend 16).toNat))
    if t < 1280 then s.setFlag Reg.SYS_CT_IN0 10 true else s

/-- CID_ALERT: nCID_ALERT has fallen and passed its filter (R44). -/
def execCidAlert (s : State) : Res := .next ((s.setFlag Reg.SYS_CT_IN0 10 false).ctEvent 4 10 0x44)

/-- SIDE_CHANGE: the SIDE pins show another code after reset release (R36, R52). -/
def execSideChange (side : BitVec 2) (s : State) : Res :=
  .next <|
    let changed := (s.fld Reg.SYS_CT_IN0 0 2) ^^^ side.toNat
    if changed = 0 then s
    else (s.setFld Reg.SYS_CT_IN0 0 2 side.toNat).ctEvent 0 (if changed % 2 = 1 then 0 else 1) 0x40

/-- PRESENCE_LOST: nPRES_OWN has gone high while running: the claim is given up at the next field period (R40, R470). -/
def execPresenceLost (s : State) : Res :=
  .next <|
    if s.rst.phase = .running ∧ s.flag Reg.SYS_CT_ID 4 = true then
      let s := (s.setFlag Reg.SYS_CT_ID 4 false).setFlag Reg.SYS_CT_IN0 6 true
      ({ s with pair := { s.pair with withdraw := true } }).ctEvent 1 6 0x41
    else s

/-- PEER_SEATED_CHANGE (R49, R50, R52). -/
def execPeerSeatedChange (seated : Bool) (s : State) : Res :=
  .next <|
    if s.flag Reg.SYS_CT_ID 5 = seated then s
    else ((s.setFlag Reg.SYS_CT_ID 5 seated).setFlag Reg.SYS_CT_IN0 7 (!seated)).ctEvent 2 7 0x42

/-! ## The claim line (R34, R38, R471) -/

/-- CLMI shows a state: 0 dead, 1 holder, 2 not holder; its death and its return are logged (R471, R479, R480). -/
def State.showClmi (s : State) (n : Nat) : State :=
  let was := s.fld Reg.CLAIM_PEER 18 2
  let s := s.setFld Reg.CLAIM_PEER 18 2 n
  if was ≠ 0 ∧ n = 0 then s.logClaim 0x06
  else if was = 0 ∧ n ≠ 0 then s.logClaim 0x07 (BitVec.ofNat 64 n)
  else s

/-- What a CLMI period says: 1 holder, 2 not holder, 0 an invalid period (R34, R38). Times are in tenths of a microsecond. -/
def clmiDecode (period high : Nat) : Nat :=
  if 800 ≤ period ∧ period ≤ 1200 then
    if 650 ≤ high ∧ high ≤ 850 then 1
    else if 150 ≤ high ∧ high ≤ 350 then 2
    else 0
  else 0

/-- A valid period of `n` tenths of a microsecond has completed: one begun after a loss of the peer lets the verdict fall (R471). -/
def State.verdictPeriod (s : State) (n : Nat) : State :=
  if s.pair.verdict && decide (s.pair.lostAt.toNat * 8 + n * 10 ≤ s.time.ltb.toNat * 8) then
    { s with pair := { s.pair with verdictDue := true } }
  else s

/-- The claim line is dead (R34, R471). -/
def State.clmiDead (s : State) : State :=
  { s with pair := { s.pair with verdictDue := s.pair.verdictDue || s.pair.verdict } }.showClmi 0

/-- CLAIM_LINE_PERIOD (R34, R38). -/
def execClaimLinePeriod (period high : Nat) (s : State) : Res :=
  .next <|
    match clmiDecode period high with
    | 0 =>
      let n := s.carrier.clmiBad + 1
      let s := { s with carrier := { s.carrier with clmiBad := n } }
      if 3 ≤ n then s.clmiDead else s
    | c => (({ s with carrier := { s.carrier with clmiBad := 0 } }).showClmi c).verdictPeriod period

/-- CLAIM_LINE_DEAD: no valid edge for 300 µs, or three invalid periods (R34). -/
def execClaimLineDead (s : State) : Res := .next s.clmiDead

/-- GP_INPUT_CHANGE: the filtered level of a general-purpose pin (R34, R49). DEDUCED: log entry 41. -/
def execGpInputChange (pin : Fin 24) (level : Bool) (s : State) : Res :=
  .next <|
    let k := 16 + pin.val
    s.setFlag (Reg.SYS_CT_IN0 + 4 * (k / 32)) (k % 32) level

end Sys2Proof.Machine
end

