-- ==== Sys2Proof/Machine/Ctrl.lean ====
section
/-! DEFINITION. CTRL of every page (R147): enable, freeze and the reset request; and FAULT_CAUSE's clear (R150). -/

namespace Sys2Proof.Machine

/-- Registers at `b`, `st` bytes apart. -/
def offsRow (b st n : Nat) : List Nat := (List.range n).map fun i => b + st * i

/-- The offsets of the registers of a block that FREEZE holds (R285, R308, R323, R356, R388, R389, R415, R448, R478, R496, R522,
R544, R567, R607, R640). DEDUCED: log entry 108. -/
def frozenOffsets (blk : Nat) : List Nat :=
  match blk with
  | 0x06 => 0x104 :: (List.range 8).flatMap fun i => offsRow (0x20C + 0x40 * i) 4 5
  | 0x40 => [0x100, 0x104, 0x108, 0x10C, 0x124] ++ offsRow 0x180 4 16
  | 0x41 => (List.range 16).flatMap fun i => offsRow (0x240 + 0x80 * i) 4 3
  | 0x80 | 0xA0 | 0xB0 | 0xB4 | 0xB8 => [0x10C, 0x110, 0x118, 0x11C]
  | 0xC0 => offsRow 0x120 4 3 ++ offsRow 0x130 4 3 ++ [0x150, 0x154, 0x158, 0x15C, 0x160, 0x164, 0x178]
  | 0xD0 => [0x104, 0x108, 0x10C, 0x120]
  | 0xD2 => [0x12C, 0x130]
  | 0xE0 => [0x114, 0x118, 0x11C, 0x124, 0x128]
  | 0xF0 => offsRow 0x114 4 2 ++ offsRow 0x11C 4 3 ++ [0x408, 0x40C]
  | 0xF2 => [0x194, 0x198, 0x1C0, 0x1E0, 0x204]
  | _ => []

/-- FREEZE takes a value: the frozen registers are held, or show the current values again (R147). DEDUCED: log entry 108. -/
def State.setFreeze (s : State) (p : Nat) (on : Bool) : State :=
  let keys := (frozenOffsets (pageBlock p)).map (rk p)
  let was := s.flag (rk p Reg.CTRL) 2
  let s := s.setFlag (rk p Reg.CTRL) 2 on
  if on && !was then
    { s with frozen := keys.foldl (fun f k => sset (dflt none) f k (some (s.reg k))) s.frozen }
  else if !on then { s with frozen := keys.foldl (fun f k => sset (dflt none) f k none) s.frozen }
  else s

/-- EN of a written CTRL takes effect: on always-on pages a write of 0 has none (R147, R479). -/
def State.writeEn (s : State) (p : Nat) (now : Bool) (eff : Bool → State → State) : State :=
  if (alwaysOn p && decide (p ≠ 0x0D1) && !now) || s.flag (rk p Reg.CTRL) 0 == now then s
  else eff now ((s.setFlag (rk p Reg.CTRL) 0 now).setFlag (rk p Reg.STAT) 0 now)

/-- A write of CTRL (R147); `eff` is what the owning chapter says of EN rising or falling. A write whose SRST is denied has no effect and is
not counted (R103, R115, R154). -/
def State.writeCtrl (s : State) (w : Writer) (p : Nat) (v : W32) (eff : Bool → State → State) : State :=
  if v.getLsbD 1 && s.resetDenied w.master p then s.logRst (resetChannel p) 0x22
  else
    let s := ((s.countWrite p).setFreeze p (v.getLsbD 2)).writeEn p (v.getLsbD 0) eff
    if v.getLsbD 1 then s.requestBlockReset w.master p else s

/-- A write of FAULT_CAUSE (R150). -/
def State.writeFaultCause (s : State) (p : Nat) (v : W32) : State :=
  if v.getLsbD 31 then
    (((s.setFld (rk p Reg.FAULT_CAUSE) 0 16 0).setFlag (rk p Reg.STAT) 2 false)).countWrite p
  else s

end Sys2Proof.Machine
end

