-- ==== Sys2Proof/Machine/Float.lean ====
section
/-! DEFINITION. Binary floating point (R206 to R208, R267): values are taken apart into exact integers, computed exactly and
rounded once. -/

namespace Sys2Proof.Machine

/-- A binary interchange format: bits of precision, the exponent of its least subnormal, and bits of its exponent field. -/
structure FloatFmt where
  prec : Nat
  emin : Int
  ebits : Nat
deriving DecidableEq, Repr

/-- binary64. -/
def f64 : FloatFmt := { prec := 53, emin := -1074, ebits := 11 }
/-- binary32. -/
def f32 : FloatFmt := { prec := 24, emin := -149, ebits := 8 }

/-- The format that P selects (R206). -/
def fmtOf : Prec → FloatFmt
  | .binary64 => f64
  | .binary32 => f32

/-- A floating-point value taken apart; a number is ± m × 2^e. -/
inductive Fp where
  | nan (signaling : Bool)
  | inf (neg : Bool)
  | num (neg : Bool) (m : Nat) (e : Int)
deriving DecidableEq, Repr

/-- A result with the flags it raises, coded as FPX_EN: 16 invalid, 8 division by zero, 4 overflow, 2 underflow, 1 inexact. -/
structure FRes where
  bits : Nat
  flags : Nat := 0
deriving DecidableEq, Repr

/-- The bits of the significand field. -/
def FloatFmt.sbits (f : FloatFmt) : Nat := f.prec - 1

/-- The bits of infinity, its sign apart. -/
def FloatFmt.infBits (f : FloatFmt) : Nat := (2 ^ f.ebits - 1) * 2 ^ f.sbits

/-- The sign bit's weight. -/
def FloatFmt.signBit (f : FloatFmt) : Nat := 2 ^ (f.ebits + f.sbits)

/-- The canonical quiet NaN (R208). -/
def FloatFmt.nanBits (f : FloatFmt) : Nat := f.infBits + 2 ^ (f.sbits - 1)

/-- Take a value apart. -/
def unpack (f : FloatFmt) (v : Nat) : Fp :=
  let neg := v / f.signBit % 2 == 1
  let ef := v / 2 ^ f.sbits % 2 ^ f.ebits
  let m := v % 2 ^ f.sbits
  if ef = 2 ^ f.ebits - 1 then
    if m = 0 then .inf neg else .nan (m < 2 ^ (f.sbits - 1))
  else if ef = 0 then .num neg m f.emin
  else .num neg (m + 2 ^ f.sbits) (f.emin + ef - 1)

/-- Signed bits. -/
def withSign (f : FloatFmt) (neg : Bool) (b : Nat) : Nat := if neg then f.signBit + b else b

/-- Whether rounding goes away from zero: by RM, the sign, whether the kept part is odd, and the part cut off compared with
one half (0 exact, 1 below, 2 equal, 3 above). -/
def roundsUp (rm : Rounding) (neg odd : Bool) (cut : Nat) : Bool :=
  match rm with
  | .rne => cut == 3 || (cut == 2 && odd)
  | .rtz => false
  | .rdn => neg && cut != 0
  | .rup => !neg && cut != 0

/-- The part of `m` below bit `sh`, compared with one half of bit `sh`. -/
def cutOf (m sh : Nat) : Nat :=
  let r := m % 2 ^ sh
  if r = 0 then 0 else if 2 * r < 2 ^ sh then 1 else if 2 * r = 2 ^ sh then 2 else 3

/-- The significand of m × 2^e in units of 2^q, rounded, and whether that is inexact. -/
def roundAt (rm : Rounding) (neg : Bool) (m : Nat) (e q : Int) : Nat × Bool :=
  if q ≤ e then (m * 2 ^ (e - q).toNat, false)
  else
    let sh := (q - e).toNat
    let k := m / 2 ^ sh
    let cut := cutOf m sh
    (if roundsUp rm neg (k % 2 == 1) cut then k + 1 else k, cut != 0)

/-- An overflowed result (IEEE 754-2019, 7.4). -/
def overflowed (f : FloatFmt) (rm : Rounding) (neg : Bool) : FRes :=
  let away := match rm with
    | .rne => true
    | .rtz => false
    | .rdn => neg
    | .rup => !neg
  { bits := withSign f neg (if away then f.infBits else f.infBits - 1), flags := 5 }

/-- ± m × 2^e in the format, rounded once. Underflow is raised where the result is tiny and inexact; whether tininess is found
before or after rounding is open (IEEE 754-2019, 7.5), and a free value of Config. -/
def roundFp (f : FloatFmt) (rm : Rounding) (neg : Bool) (m : Nat) (e : Int) : FRes :=
  if m = 0 then { bits := withSign f neg 0 }
  else
    let top : Int := e + Nat.log2 m + 1
    let q := max (top - f.prec) f.emin
    let r := roundAt rm neg m e q
    let bits := (q - f.emin).toNat * 2 ^ f.sbits + r.1
    if f.infBits ≤ bits then overflowed f rm neg
    else
      let least : Int := f.emin + f.sbits
      let tinyBefore := decide (top ≤ least)
      let tinyAfter := decide (top < least) ||
        (decide (top = least) && decide ((roundAt rm neg m e (f.emin - 1)).1 < 2 ^ f.prec))
      let under := r.2 && (tinyAfter || (tinyBefore && Config.tinyBeforeRounding))
      { bits := withSign f neg bits, flags := 2 * under.toNat + r.2.toNat }

/-- A NaN result: invalid where an operand is signaling. -/
def nanResult (f : FloatFmt) (l : List Fp) : FRes :=
  { bits := f.nanBits, flags := if l.any (fun x => x == .nan true) then 16 else 0 }

/-- An invalid operation. -/
def invalidResult (f : FloatFmt) : FRes := { bits := f.nanBits, flags := 16 }

/-- The value is a NaN. -/
def Fp.isNan : Fp → Bool
  | .nan _ => true
  | _ => false

/-- ± m with its sign as an integer. -/
def signedInt (neg : Bool) (m : Nat) : Int := if neg then -(m : Int) else m

/-- The sum of two numbers, exact and then rounded; an exact zero sum of unlike signs is +0, or −0 where RM rounds down. -/
def sumNum (f : FloatFmt) (rm : Rounding) (n1 : Bool) (m1 : Nat) (e1 : Int) (n2 : Bool) (m2 : Nat) (e2 : Int) : FRes :=
  let e := min e1 e2
  let s := signedInt n1 (m1 * 2 ^ (e1 - e).toNat) + signedInt n2 (m2 * 2 ^ (e2 - e).toNat)
  if s = 0 then { bits := withSign f (if n1 = n2 then n1 else rm == .rdn) 0 }
  else roundFp f rm (decide (s < 0)) s.natAbs e

/-- Addition of values taken apart. -/
def addFp (f : FloatFmt) (rm : Rounding) (x y : Fp) : FRes :=
  match x, y with
  | .inf a, .inf b => if a = b then { bits := withSign f a f.infBits } else invalidResult f
  | .inf a, .num _ _ _ => { bits := withSign f a f.infBits }
  | .num _ _ _, .inf b => { bits := withSign f b f.infBits }
  | .num n1 m1 e1, .num n2 m2 e2 => sumNum f rm n1 m1 e1 n2 m2 e2
  | x, y => nanResult f [x, y]

/-- Multiplication of values taken apart. -/
def mulFp (f : FloatFmt) (rm : Rounding) (x y : Fp) : FRes :=
  match x, y with
  | .inf a, .inf b => { bits := withSign f (a != b) f.infBits }
  | .inf a, .num b m _ => if m = 0 then invalidResult f else { bits := withSign f (a != b) f.infBits }
  | .num a m _, .inf b => if m = 0 then invalidResult f else { bits := withSign f (a != b) f.infBits }
  | .num n1 m1 e1, .num n2 m2 e2 => roundFp f rm (n1 != n2) (m1 * m2) (e1 + e2)
  | x, y => nanResult f [x, y]

/-- The quotient of two numbers: enough bits of it, and one more for the rest. -/
def divNum (f : FloatFmt) (rm : Rounding) (neg : Bool) (m1 : Nat) (e1 : Int) (m2 : Nat) (e2 : Int) : FRes :=
  let sh := Nat.log2 m2 + f.prec + 2
  let n := m1 * 2 ^ sh
  roundFp f rm neg (2 * (n / m2) + (decide (n % m2 ≠ 0)).toNat) (e1 - e2 - sh - 1)

/-- Division of values taken apart. -/
def divFp (f : FloatFmt) (rm : Rounding) (x y : Fp) : FRes :=
  match x, y with
  | .inf _, .inf _ => invalidResult f
  | .inf a, .num b _ _ => { bits := withSign f (a != b) f.infBits }
  | .num a _ _, .inf b => { bits := withSign f (a != b) 0 }
  | .num n1 m1 e1, .num n2 m2 e2 =>
    if m2 = 0 then
      if m1 = 0 then invalidResult f else { bits := withSign f (n1 != n2) f.infBits, flags := 8 }
    else if m1 = 0 then { bits := withSign f (n1 != n2) 0 }
    else divNum f rm (n1 != n2) m1 e1 m2 e2
  | x, y => nanResult f [x, y]

/-- x × y + z of values taken apart, rounded once. Whether ∞ × 0 + a quiet NaN is invalid is open (IEEE 754-2019, 7.2), and a
free value of Config. -/
def fmaFp (f : FloatFmt) (rm : Rounding) (x y z : Fp) : FRes :=
  let bad := match x, y with
    | .inf _, .num _ m _ => m == 0
    | .num _ m _, .inf _ => m == 0
    | _, _ => false
  if bad then
    if z = .nan false then { bits := f.nanBits, flags := if Config.fmaNanInvalid then 16 else 0 } else invalidResult f
  else
    match x, y, z with
    | .num n1 m1 e1, .num n2 m2 e2, .num n3 m3 e3 => sumNum f rm (n1 != n2) (m1 * m2) (e1 + e2) n3 m3 e3
    | .num _ _ _, .num _ _ _, .inf c => { bits := withSign f c f.infBits }
    | x, y, z =>
      if x.isNan || y.isNan || z.isNan then nanResult f [x, y, z]
      else
        let neg := match x, y with
          | .inf a, .inf b => a != b
          | .inf a, .num b _ _ => a != b
          | .num a _ _, .inf b => a != b
          | _, _ => false
        addFp f rm (.inf neg) z

/-- The integer square root of `n`, by the bits from bit `k` down that the root takes. -/
def isqrtFrom (n : Nat) : Nat → Nat → Nat
  | 0, r => r
  | k + 1, r => if (r + 2 ^ k) * (r + 2 ^ k) ≤ n then isqrtFrom n k (r + 2 ^ k) else isqrtFrom n k r

/-- The square root of a value taken apart. -/
def sqrtFp (f : FloatFmt) (rm : Rounding) (x : Fp) : FRes :=
  match x with
  | .nan s => nanResult f [.nan s]
  | .inf neg => if neg then invalidResult f else { bits := f.infBits }
  | .num neg m e =>
    if m = 0 then { bits := withSign f neg 0 }
    else if neg then invalidResult f
    else
      let sh := 2 * f.prec + 4 + (e % 2).toNat
      let n := m * 2 ^ sh
      let r := isqrtFrom n (Nat.log2 n / 2 + 1) 0
      roundFp f rm false (2 * r + (decide (r * r ≠ n)).toNat) ((e - sh) / 2 - 1)

/-- The order of two values taken apart: none where one is a NaN. -/
def cmpFp (x y : Fp) : Option Ordering :=
  match x, y with
  | .nan _, _ => none
  | _, .nan _ => none
  | .inf a, .inf b => some (if a = b then .eq else if a then .lt else .gt)
  | .inf a, .num _ _ _ => some (if a then .lt else .gt)
  | .num _ _ _, .inf b => some (if b then .gt else .lt)
  | .num n1 m1 e1, .num n2 m2 e2 =>
    let e := min e1 e2
    some (compare (signedInt n1 (m1 * 2 ^ (e1 - e).toNat)) (signedInt n2 (m2 * 2 ^ (e2 - e).toNat)))

/-- A value converted to another format. -/
def convertFp (new : FloatFmt) (rm : Rounding) (x : Fp) : FRes :=
  match x with
  | .nan s => nanResult new [.nan s]
  | .inf neg => { bits := withSign new neg new.infBits }
  | .num neg m e => roundFp new rm neg m e

/-- A number rounded to an integer by RM, and whether that is inexact. -/
def integerOf (rm : Rounding) (neg : Bool) (m : Nat) (e : Int) : Int × Bool :=
  let r := roundAt rm neg m e 0
  (signedInt neg r.1, r.2)

/-- Negative by its sign bit. -/
def Fp.isNeg : Fp → Bool
  | .nan _ => false
  | .inf n => n
  | .num n _ _ => n

/-- minimumNumber (`less` true) or maximumNumber of IEEE 754-2019 on the bits of two values: −0 counts as less than +0 (R207). -/
def minMaxFp (f : FloatFmt) (less : Bool) (a b : Nat) : FRes :=
  let x := unpack f a
  let y := unpack f b
  let flags := if x == .nan true || y == .nan true then 16 else 0
  match cmpFp x y with
  | none =>
    if x.isNan then (if y.isNan then { bits := f.nanBits, flags := flags } else { bits := b, flags := flags })
    else { bits := a, flags := flags }
  | some o =>
    let aFirst := match o with
      | .lt => true
      | .gt => false
      | .eq => x.isNeg
    { bits := if aFirst == less then a else b, flags := flags }

/-! ## binary64 with rounding to nearest, ties to even, as the loop engine computes (R267) -/

/-- A result as a 64-bit word. -/
def asW64 (r : FRes) : W64 := BitVec.ofNat 64 r.bits
/-- A binary64 word taken apart. -/
def unp (a : W64) : Fp := unpack f64 a.toNat
/-- Sum. -/
def dAdd (a b : W64) : W64 := asW64 (addFp f64 .rne (unp a) (unp b))
/-- The sign bit inverted. -/
def dNeg (a : W64) : W64 := a ^^^ 0x8000000000000000#64
/-- Difference. -/
def dSub (a b : W64) : W64 := dAdd a (dNeg b)
/-- Product. -/
def dMul (a b : W64) : W64 := asW64 (mulFp f64 .rne (unp a) (unp b))
/-- Quotient. -/
def dDiv (a b : W64) : W64 := asW64 (divFp f64 .rne (unp a) (unp b))
/-- a × b + c, rounded once. -/
def dFma (a b c : W64) : W64 := asW64 (fmaFp f64 .rne (unp a) (unp b) (unp c))
/-- Square root. -/
def dSqrt (a : W64) : W64 := asW64 (sqrtFp f64 .rne (unp a))
/-- Absolute value. -/
def dAbs (a : W64) : W64 := a &&& 0x7FFFFFFFFFFFFFFF#64
/-- The lesser of two, and the greater. -/
def dMin (a b : W64) : W64 := asW64 (minMaxFp f64 true a.toNat b.toNat)
def dMax (a b : W64) : W64 := asW64 (minMaxFp f64 false a.toNat b.toNat)
/-- a < b; false on a NaN. -/
def dLt (a b : W64) : Bool := cmpFp (unp a) (unp b) == some .lt
/-- a ≤ b; false on a NaN. -/
def dLe (a b : W64) : Bool := dLt a b || cmpFp (unp a) (unp b) == some .eq
/-- a = b as numbers; false on a NaN. -/
def dEq (a b : W64) : Bool := cmpFp (unp a) (unp b) == some .eq
/-- The word is a NaN. -/
def dNan (a : W64) : Bool := (unp a).isNan
/-- The word is finite. -/
def dFinite (a : W64) : Bool := fieldOf ((a >>> 32).setWidth 32) 20 11 != 0x7FF
/-- An integer as binary64. -/
def dInt (n : Int) : W64 := asW64 (roundFp f64 .rne (decide (n < 0)) n.natAbs 0)
/-- m × 2^e as binary64. -/
def dScale (m : Nat) (e : Int) : W64 := asW64 (roundFp f64 .rne false m e)
/-- n / d as binary64, rounded once. -/
def dFrac (n : Int) (d : Nat) : W64 :=
  if n = 0 then 0 else asW64 (divNum f64 .rne (decide (n < 0)) n.natAbs 0 d 0)
/-- 1.0 -/
def dOne : W64 := 0x3FF0000000000000#64

end Sys2Proof.Machine
end

