-- ==== Sys2Proof/Machine/LoopRec.lean ====
section
/-! DEFINITION. The loop record (R258 to R263, R288, R289, R294, R295, R313, R314): its words, what a write of each stores or why
it is refused, how a write lands, and Fix commands (R298, R299). -/

namespace Sys2Proof.Machine

/-! ## Tags (R171, R172) -/

/-- Q of a tag. -/
def tagQ (t : Tag) : Nat := t.toNat / 64
/-- CAUSE of a tag. -/
def tagCause (t : Tag) : Nat := t.toNat / 8 % 8
/-- F and S of a tag. -/
def tagFS (t : Tag) : Tag := t &&& 0x06

/-- Rules 1 to 3 of R172 over operands in order; L is 0. -/
def mergeTags (l : List Tag) : Tag :=
  let worst := l.foldl (fun (b : Tag) t => if tagQ b < tagQ t then t else b) (l.headD 0)
  (worst &&& 0xF8) ||| l.foldl (fun (b : Tag) t => b ||| tagFS t) 0

/-- Q BAD with a cause, F and S of `t` kept, L 0. -/
def badTag (cause : Nat) (t : Tag) : Tag := mkTag 2 cause ||| tagFS t

/-! ## Words (R258) -/

namespace LW

abbrev MODE : Nat := 0
abbrev RATE : Nat := 1
abbrev CASC : Nat := 2
abbrev OPTS : Nat := 3
abbrev PV_SRC : Nat := 8
abbrev SP_SRC : Nat := 9
abbrev FF_SRC : Nat := 10
abbrev TR_SRC : Nat := 11
abbrev SP_LOCAL : Nat := 12
abbrev MAN_OUT : Nat := 13
abbrev FF_GAIN : Nat := 14
abbrev ACTIVE : Nat := 32
abbrev STAGING : Nat := 72
abbrev STATE : Nat := 112
abbrev OUT_HI : Nat := 128
abbrev OUT_LO : Nat := 129
abbrev RATE_UP : Nat := 130
abbrev RATE_DN : Nat := 131
abbrev SP_HI : Nat := 132
abbrev SP_LO : Nat := 133
abbrev SUP_CFG : Nat := 136
abbrev FE_LIMIT : Nat := 137
abbrev FE_TIME : Nat := 138
abbrev FRZ_BAND : Nat := 139
abbrev FRZ_OUTDELTA : Nat := 140
abbrev FRZ_SAMPLES : Nat := 141
abbrev FB_VALUE : Nat := 142
abbrev TRIP_MAP : Nat := 143
abbrev SUP_CMD : Nat := 144
abbrev OMAP : Nat := 152
abbrev STAT : Nat := 160
abbrev PV : Nat := 161
abbrev SP : Nat := 162
abbrev ERR : Nat := 163
abbrev FF : Nat := 164
abbrev U_RAW : Nat := 165
abbrev OUT : Nat := 166
abbrev LAST_FRAME : Nat := 167
abbrev SAMPLES : Nat := 168
abbrev LIM_CNT : Nat := 169
abbrev NUM_CNT : Nat := 170
abbrev EXEC : Nat := 171
abbrev SUP_STAT : Nat := 176
abbrev FE_START : Nat := 177
abbrev FRZ_CNT : Nat := 178
abbrev FRZ_ACC : Nat := 179
abbrev FRZ_LASTPV : Nat := 180
abbrev FRZ_LASTOUT : Nat := 181
abbrev SUP_CNT : Nat := 182
abbrev FIX_STAT : Nat := 183
abbrev FIX_FRAME : Nat := 184
abbrev FIX_CNT : Nat := 185
abbrev DW_STAT : Nat := 186
abbrev BANK_GEN : Nat := 187
abbrev TUNE_CFG : Nat := 192
abbrev AMP : Nat := 193
abbrev HYST : Nat := 194
abbrev DAMP : Nat := 195
abbrev F0 : Nat := 196
abbrev F1 : Nat := 197
abbrev LEN : Nat := 198
abbrev SEED : Nat := 199
abbrev EXC_LIM : Nat := 200
abbrev TMAX : Nat := 201
abbrev PM : Nat := 202
abbrev NFILT : Nat := 203
abbrev TUNE_CMD : Nat := 204
abbrev TUNE_STAT : Nat := 224
abbrev PV0 : Nat := 225
abbrev U0 : Nat := 226
abbrev SIG : Nat := 227
abbrev TU : Nat := 228
abbrev AMEAS : Nat := 229
abbrev KU : Nat := 230
abbrev PHI1 : Nat := 231
abbrev G2MAG : Nat := 232
abbrev PHI2 : Nat := 233
abbrev KP : Nat := 234
abbrev TI : Nat := 235
abbrev TD : Nat := 236
abbrev GM : Nat := 237
abbrev SPREAD : Nat := 238
/-- A Fix command among the writes that wait (R299). -/
abbrev FIXCMD : Nat := 256

end LW

/-- What a record word reads as when PD06 comes on (R261, R262). -/
def loopDflt (k : Nat) : TWord :=
  match k % 256 with
  | 0 => { data := 0x04010000, tag := 0 }
  | 1 => { data := 0x00010000, tag := 0 }
  | 3 => { data := 0xF1, tag := 0 }
  | _ => { data := 0, tag := 0 }

/-- A record word as applied. -/
def State.lw (s : State) (k w : Nat) : TWord := sget loopDflt s.loop.words (k * 256 + w)

/-- Store a record word, value and tag. -/
def State.setLw (s : State) (k w : Nat) (v : TWord) : State :=
  { s with loop := { s.loop with words := sset loopDflt s.loop.words (k * 256 + w) v } }

/-- Store the value of a record word with tag 0x00. -/
def State.setLd (s : State) (k w : Nat) (v : W64) : State := s.setLw k w { data := v, tag := 0 }

/-- Store the value of a record word; its tag stays (R269). -/
def State.setLv (s : State) (k w : Nat) (v : W64) : State := s.setLw k w { s.lw k w with data := v }

/-- A field of a record word. -/
def State.lf (s : State) (k w lo n : Nat) : Nat := (s.lw k w).data.toNat / 2 ^ lo % 2 ^ n

/-- Store a field of a record word, keeping its tag. -/
def State.setLf (s : State) (k w lo n v : Nat) : State :=
  let x := s.lw k w
  s.setLw k w { x with data := withField64 x.data lo n v }

/-- What may be written to a word: at any time, only while MODE.EN is 0 (R259), or never. -/
inductive WordAccess where
  | rw | en0 | never
deriving DecidableEq, Repr

/-- The access of a word (R258, R259, R288, R294, R313). -/
def wordAccess (w : Nat) : WordAccess :=
  if w ≤ 3 ∨ (8 ≤ w ∧ w ≤ 14) ∨ (32 ≤ w ∧ w ≤ 133) ∨ (136 ≤ w ∧ w ≤ 144) ∨ (152 ≤ w ∧ w ≤ 157) ∨ (192 ≤ w ∧ w ≤ 204) then .rw
  else if (160 ≤ w ∧ w ≤ 166) ∨ (176 ≤ w ∧ w ≤ 181) ∨ (224 ≤ w ∧ w ≤ 238) then .en0
  else .never

/-- The bits of a word that a write stores: those of its RW fields. -/
def wordMask (w : Nat) : W64 :=
  match w with
  | 0 => 0x80070000
  | 1 => 0x1FFF1FFF
  | 2 => 0x100
  | 3 => 0xCFF
  | 8 | 9 | 10 | 11 => 0xE00000001F7FFFFF
  | 136 => 0x00000FFFC7C747C7
  | 138 => 0xFFFFFFFF
  | 141 => 0xFFFF
  | 143 => 0x80000000007FFFFF
  | 144 => 1
  | 152 | 155 => 0x80000000007FFFFF
  | 160 => 0xFF1F
  | 176 => 0xF10F000F
  | 178 => 0xFFFFFFFF
  | 192 => 0x000F1FFF0F770737
  | 199 => 0xFFFF0000007FFFFF
  | 201 => 0xFFFFFFFF
  | 204 => 1
  | 224 => 0xFFFFFFFFFFFF000F
  | _ => 0xFFFFFFFFFFFFFFFF

/-- A write with Q BAD or ABSENT is refused for the word (R260, R295, R313). -/
def tagChecked (w : Nat) : Bool :=
  decide (w ≤ 3 ∨ (8 ≤ w ∧ w ≤ 11) ∨ (32 ≤ w ∧ w ≤ 133) ∨ (136 ≤ w ∧ w ≤ 143) ∨ (152 ≤ w ∧ w ≤ 157) ∨ (192 ≤ w ∧ w ≤ 204))

/-- The value is NaN or negative (R260, R295). -/
def nanOrNeg (v : W64) : Bool := dNan v || dLt v 0

/-- The value of a write to word `w` is refused with LAST_ERR 0x03 (R260, R295). -/
def valueRefused (w : Nat) (v : W64) : Bool :=
  match w with
  | 0 => decide (6 ≤ bits64 v 16 3)
  | 1 => bits64 v 16 13 == 0 || decide (4096 < bits64 v 16 13) || decide (bits64 v 16 13 ≤ bits64 v 0 13)
  | 3 =>
    let n := bits64 v 0 4
    let i := bits64 v 4 4
    n == 0 || decide (8 < n) || decide (8 ≤ i ∧ i ≤ 14) || decide (i ≤ 7 ∧ n ≤ i)
  | 8 | 9 | 10 | 11 => decide (5 ≤ bits64 v 61 3)
  | 128 | 129 | 132 | 133 => dNan v
  | 130 | 131 => nanOrNeg v
  | 136 => decide (5 ≤ bits64 v 0 3 ∨ 5 ≤ bits64 v 8 3 ∨ 5 ≤ bits64 v 16 3 ∨ 5 ≤ bits64 v 24 3 ∨ 4094 < bits64 v 32 12)
  | 137 | 139 | 140 => nanOrNeg v
  | 138 => decide (160000000 < bits64 v 0 32)
  | 142 => dNan v
  | _ => false

/-- The tag that a word takes of a write: STAT and the supervision words carry 0x00 (R262, R294). -/
def wordTag (w : Nat) (t : Tag) : Tag := if w = LW.STAT ∨ (LW.SUP_STAT ≤ w ∧ w ≤ LW.BANK_GEN) then 0 else t

/-- A word with the write `v` in the fields that a write stores (R258, R259). -/
def afterWrite (w : Nat) (old v : TWord) : TWord :=
  { data := (old.data &&& ~~~ wordMask w) ||| (v.data &&& wordMask w), tag := wordTag w v.tag }

/-- FIX_STAT with a landed Fix command shown as pending. -/
def showFix (x v : TWord) : TWord :=
  if v.data.toNat % 4 = 3 then x else { x with data := withField64 (withField64 x.data 31 1 1) 28 2 (v.data.toNat % 4) }

/-- What a master reads of a word: the last landed value of the fields it may write, and the engine's in the others; in FIX_STAT a Fix command
that has landed (R259, R304, R305). DEDUCED: log entry 52. -/
def State.landed (s : State) (k w : Nat) : TWord :=
  let key := if w = LW.FIX_STAT then LW.FIXCMD else w
  (s.loop.pend.filter fun p => p.loop == k && p.word == key && p.shown).foldl
    (fun x p => if w = LW.FIX_STAT then showFix x p.value else afterWrite w x p.value) (s.lw k w)

/-- A tuning session of the loop runs or is analysed. -/
def State.tuning (s : State) (k : Nat) : Bool := s.lf k LW.TUNE_STAT 28 4 == 1 || s.lf k LW.TUNE_STAT 28 4 == 2

/-- The LAST_ERR code with which the engine refuses a write, 0 where it takes it (R260, R295, R313). DEDUCED: log entry 52. -/
def State.wordCheck (s : State) (k w : Nat) (v : TWord) : Nat :=
  let en := (s.landed k LW.MODE).data.getLsbD 31
  let closed := match wordAccess w with
    | .rw => decide (192 ≤ w ∧ w ≤ 203) && s.tuning k
    | .en0 => en
    | .never => true
  if closed || valueRefused w v.data then 3
  else if tagChecked w && decide (2 ≤ tagQ v.tag) then 4
  else 0

/-- The boundary at which a command accepted now applies (R259, R304). DEDUCED: log entry 65. -/
def State.loopBoundary (s : State) : W64 := if s.twinSync then s.boundaryAfter 1250 else s.lfi + 1

/-- The engine refuses a write (R260, R285, R286). -/
def State.refuseLoop (s : State) (k w code master : Nat) (tag : Tag) : State :=
  let s := s.countSat Reg.LOOP_REFUSE 24 8 1
  let s := (s.setFld Reg.LOOP_REFUSE 16 8 w).setFld Reg.LOOP_REFUSE 7 9 k
  let s := (s.setFlag Reg.LOOP_REFUSE 0 (code == 4)).setEvt Reg.LOOP_LOOP_EVT 2
  s.logEvt 0x040 k 0x04 (BitVec.ofNat 64 (master % 256 * 2 ^ 56 + tag.toNat * 2 ^ 48 + code * 2 ^ 32 + w * 8))

/-- A write to a record word as the engine accepts it: LAST_ERR, 0 for a success, and the state after it (R259, R260, R304,
R306). DEDUCED: log entry 65. -/
def State.landWrite (s : State) (k w : Nat) (v : TWord) (master : Nat) (at_ : W64) (shown : Bool) : Nat × State :=
  match s.wordCheck k w v with
  | 0 =>
    let e : LoopWrite := { loop := k, word := w, value := v, at_ := at_, shown := shown, master := master }
    (0, { s with loop := { s.loop with pend := s.loop.pend ++ [e] } })
  | code => (code, s.refuseLoop k w code master v.tag)

/-! ## Fix commands (R298, R299) -/

/-- PEND of a loop's Fix (R302). -/
def State.fixPending (s : State) (k : Nat) : Bool := (s.lw k LW.FIX_STAT).data.getLsbD 31

/-- A Fix result of a loop in frame `g` (R302, R308). DEDUCED: log entry 50. -/
def State.fixResult (s : State) (k result sec why : Nat) (g : W64) : State :=
  let opt := s.lf k LW.FIX_STAT 28 2
  let s := (((s.setLf k LW.FIX_STAT 31 1 0).setLf k LW.FIX_STAT 28 2 0).setLf k LW.FIX_STAT 26 2 opt).setLf k LW.FIX_STAT 24 2 result
  let s := ((s.setLf k LW.FIX_STAT 20 4 sec).setLf k LW.FIX_STAT 16 4 why).setLd k LW.FIX_FRAME g
  s.setReg Reg.LOOP_FIX_LAST (BitVec.ofNat 32 (result * 2 ^ 30 + why * 2 ^ 24 + sec * 2 ^ 20 + k))

/-- A Fix command for loop `k` lands, to apply at boundary `at_`: option 0 KEEP, 1 RESCALE, 2 CHECK, 3 CANCEL (R298, R299, R304).
DEDUCED: log entry 50. -/
def State.landFix (s : State) (k opt : Nat) (at_ : W64) (shown : Bool) (master : Nat) : State :=
  let e : LoopWrite := { loop := k, word := LW.FIXCMD, value := { data := BitVec.ofNat 64 opt, tag := 0 }, at_ := at_, shown := shown, master := master }
  { s with loop := { s.loop with pend := s.loop.pend ++ [e] } }

/-- A Fix command applies at boundary `g`: it becomes pending, takes the place of the pending option, or withdraws it (R299).
DEDUCED: log entry 50. -/
def State.applyFix (s : State) (k opt : Nat) (g : W64) : State :=
  if opt = 3 then
    if s.fixPending k then (s.fixResult k 3 15 0 g).logEvt 0x040 k 0x22 else s
  else
    let replaced := s.fixPending k
    let s := (s.setLf k LW.FIX_STAT 31 1 1).setLf k LW.FIX_STAT 28 2 opt
    if replaced then s.logEvt 0x040 k 0x23 (BitVec.ofNat 64 opt) else s.setLf k LW.FIX_STAT 0 8 0

/-- The effect of a write of LOOP.LD_PEAK (R285). -/
def State.writeLdPeak (s : State) (v : W32) : State :=
  if v.getLsbD 31 then s.setFld Reg.LOOP_LD_PEAK 0 16 0 else s

/-- LD_PEAK_CLEAR (R285). -/
def execLdPeakClear (w : Writer) (value : W32) (s : State) : Res :=
  .next (s.command w Reg.LOOP_LD_PEAK value fun s => s.writeLdPeak value)

end Sys2Proof.Machine
end

