-- ==== Sys2Proof/Machine/LoopSup.lean ====
section
/-! DEFINITION. What a sample of a loop reads and supervises: sources (R264), levels and set-points (R274 to R276), the
supervision step (R287 to R293), and the check and the swap of a Fix (R300 to R302). -/

namespace Sys2Proof.Machine

/-! ## Sources (R238, R263, R264) -/

/-- The bank that a select word publishes at boundary `g` (R238). -/
def bankAt (w g : W64) : Nat :=
  let apply : W32 := (w >>> 32).setWidth 32
  if (g.setWidth 32 - apply).toNat < 2 ^ 31 then bits64 w 1 1 else bits64 w 0 1

/-- KIND of a source descriptor. -/
def srcKind (d : W64) : Nat := bits64 d 61 3

/-- The TPM word that a source descriptor names at boundary `g`, where it names one. -/
def State.srcWord (s : State) (g d : W64) : Option Nat :=
  match srcKind d with
  | 1 => some (s.frameBuffer (g - 1) + bits64 d 0 23)
  | 2 =>
    let t := bits64 d 24 5
    let sel := (s.tpmAt (s.fld (Reg.LOOP_TSK_SELn + 8 * t) 0 23)).data
    some (bits64 d 0 23 + if bankAt sel g = 1 then s.fld (Reg.LOOP_TSK_DLTn + 8 * t) 0 23 else 0)
  | 3 => some (bits64 d 0 23)
  | _ => none

/-- The value and tag that a source gives at boundary `g` (R264). -/
def State.readSrc (s : State) (g d : W64) : TWord :=
  match s.srcWord g d with
  | some w => s.tpmAt w
  | none => if srcKind d = 4 then s.lw (bits64 d 0 9) LW.OUT else {}

/-- The read of a source treats the check errors of its task's select word and then of the word itself (R176). -/
def State.touchSource (s : State) (g d : W64) : State :=
  let s := if srcKind d = 2 then s.tpmTouched (s.fld (Reg.LOOP_TSK_SELn + 8 * bits64 d 24 5) 0 23) else s
  match s.srcWord g d with
  | some a => s.tpmTouched a
  | none => s

/-- The time stamps that the watch for stale feedback reads: of the boundary and of the sample (R264, R290). -/
def State.staleWords (s : State) (k : Nat) (g : W64) : Nat × Nat :=
  let fb := s.frameBuffer (g - 1)
  (fb + 1, fb + bits64 (s.lw k LW.PV_SRC).data 0 23 + 1)

/-- The reads of a sample treat the check errors of the words they meet (R176). -/
def State.touchSources (s : State) (k : Nat) (g : W64) : State :=
  let s := [LW.PV_SRC, LW.SP_SRC, LW.FF_SRC, LW.TR_SRC].foldl (fun (s : State) w => s.touchSource g (s.lw k w).data) s
  if (s.lw k LW.SUP_CFG).data.getLsbD 23 && srcKind (s.lw k LW.PV_SRC).data == 1 then
    (s.tpmTouched (s.staleWords k g).1).tpmTouched (s.staleWords k g).2
  else s

/-- The loops that the sources of a loop name. -/
def State.loopRefs (s : State) (k : Nat) : List Nat :=
  ([LW.PV_SRC, LW.SP_SRC, LW.FF_SRC, LW.TR_SRC].filter fun w => srcKind (s.lw k w).data == 4).map fun w =>
    bits64 (s.lw k w).data 0 9

/-- LEVEL of a loop, up to the depth `fuel` (R274). -/
def State.levelOf (s : State) : Nat → Nat → Nat
  | 0, _ => 0
  | fuel + 1, k =>
    match s.loopRefs k with
    | [] => 0
    | l => 1 + (l.map (s.levelOf fuel)).foldl max 0

/-- A chain of sources leads from the loops of `todo` to loop `k` (R273). -/
def State.leadsTo (s : State) (k : Nat) : Nat → List Nat → List Nat → Bool
  | 0, _, _ => false
  | fuel + 1, todo, seen =>
    if todo.contains k then true
    else
      let fresh := todo.filter fun x => !seen.contains x
      if fresh = [] then false else s.leadsTo k fuel (fresh.flatMap s.loopRefs) (seen ++ fresh)

/-- DIV and PHASE. -/
def State.divOf (s : State) (k : Nat) : Nat := s.lf k LW.RATE 16 13
def State.phaseOf (s : State) (k : Nat) : Nat := s.lf k LW.RATE 0 13

/-- EN of a loop. -/
def State.loopEn (s : State) (k : Nat) : Bool := (s.lw k LW.MODE).data.getLsbD 31

/-- A loop is in CFG_ERR. -/
def State.cfgErr (s : State) (k : Nat) : Bool := (s.lw k LW.STAT).data.getLsbD 15

/-- The enabled loops, in ascending order. -/
def State.enabledLoops (s : State) : List Nat := (List.range 512).filter s.loopEn

/-- A loop is due in frame `g` (R256). -/
def State.loopDue (s : State) (g : W64) (k : Nat) : Bool := g.toNat % s.divOf k == s.phaseOf k

/-- Actual modes by their code: AUTO 0, MANUAL 1, CASCADE 2, TRACK 3, HOLD 4, TUNE 5, FALLBACK 6 (R262, R291). -/
def State.actOf (s : State) (k : Nat) : Nat := s.lf k LW.MODE 24 3

/-- The inner loop that loop `o` tracks: OUTER_TRK (R276). -/
def State.trackedBy (s : State) (enabled : List Nat) (o : Nat) : Option Nat :=
  enabled.find? fun i =>
    srcKind (s.lw i LW.SP_SRC).data == 4 && bits64 (s.lw i LW.SP_SRC).data 0 9 == o && !s.cfgErr i && s.actOf i != 2

/-! ## Set-points (R264, R275) -/

/-- The lesser limit first, so that the upper one wins where they cross (R264, R271). -/
def clampTo (lo hi v : W64) : W64 :=
  let x := if dLt v lo then lo else v
  if dLt hi x then hi else x

/-- The set-point of a cascaded loop at frame `g`, and whether the engine interpolates it (R275): y_old is what the outer loop's record keeps of
OUT before its last sample, FRZ_LASTOUT, if that sample was the one at g0 (R268, R294). -/
def State.cascadeSp (s : State) (k : Nat) (g : W64) : TWord × Bool :=
  let d := (s.lw k LW.SP_SRC).data
  let o := bits64 d 0 9
  let y := s.readSrc g d
  if srcKind d = 4 ∧ s.loopEn o = true then
    let dv := s.divOf k
    let n := s.divOf o / dv
    if (s.lw k LW.CASC).data.getLsbD 8 = false ∨ n = 1 then (y, false)
    else
      let since := (g.toNat + 4096 * s.divOf o - s.phaseOf o) % s.divOf o
      let old := if (s.lw o LW.LAST_FRAME).data = g - BitVec.ofNat 64 since then (s.lw o LW.FRZ_LASTOUT).data else y.data
      ({ y with data := dFma (dSub y.data old) (dDiv (dInt (since / dv + 1)) (dInt n)) old }, true)
  else (y, false)

/-- An effective set-point: value and tag, whether it was held, and whether it was interpolated (R264). -/
structure SetPoint where
  word : TWord
  held : Bool := false
  interp : Bool := false
deriving DecidableEq, Repr

/-- The effective set-point in a mode, held where its Q is BAD or worse: SP of the record is then the last good one (R264, R268); `fromCascade`: AUTO is entered from CASCADE (R278); `inj` is what Exposure adds (R316).
DEDUCED: log entry 46. -/
def State.effectiveSp (s : State) (k : Nat) (g : W64) (mode : Nat) (fromCascade : Bool) (inj : Option W64) : SetPoint :=
  let r := if mode = 2 then s.cascadeSp k g
    else if mode = 0 ∧ fromCascade = true then (s.lw k LW.SP, false) else (s.lw k LW.SP_LOCAL, false)
  let v := match inj with
    | some x => dAdd r.1.data x
    | none => r.1.data
  let c := clampTo (s.lw k LW.SP_LO).data (s.lw k LW.SP_HI).data v
  let tag : Tag := if c = v then r.1.tag else r.1.tag ||| 1
  if 2 ≤ tagQ r.1.tag then
    { word := { data := (s.lw k LW.SP).data, tag := r.1.tag }, held := true, interp := r.2 }
  else { word := { data := c, tag := tag }, interp := r.2 }

/-! ## Supervision (R287 to R293) -/

/-- The bits of the conditions in SUP_STAT: 1 FE, 2 LOSS, 4 STALE, 8 FRZ. -/
def State.supActive (s : State) (k : Nat) : Nat := s.lf k LW.SUP_STAT 0 4
def State.supLatched (s : State) (k : Nat) : Nat := s.lf k LW.SUP_STAT 16 4

/-- The reaction to condition `i`: 0 HOLD, 1 ALARM, 2 FALLBACK, 3 MANUAL, 4 TRIP (R289). -/
def State.supRx (s : State) (k i : Nat) : Nat := s.lf k LW.SUP_CFG (8 * i) 3

/-- SUP_STAT.TRIP. DEDUCED: log entry 53. -/
def State.setTrip (s : State) (k : Nat) (on : Bool) : State := s.setLf k LW.SUP_STAT 31 1 on.toNat

/-- SUP_CMD.ACK acts (R292). DEDUCED: log entry 51. -/
def State.ackSup (s : State) (k : Nat) : State :=
  if s.loop.ack.contains k then
    let active := s.supActive k
    let latched := s.supLatched k
    let cleared := (List.range 4).foldl (fun n i => if latched.testBit i && !active.testBit i then n + 2 ^ i else n) 0
    let keepTrip := (List.range 4).any fun i => active.testBit i && s.supRx k i == 4
    let s := s.setLf k LW.SUP_STAT 16 4 (latched - cleared)
    let s := if keepTrip then s else s.setTrip k false
    let s := { s with loop := { s.loop with ack := s.loop.ack.filter fun x => x != k } }
    s.logEvt 0x040 k 0x19 (BitVec.ofNat 64 (cleared * 2 ^ 16))
  else s

/-- What the supervision step sees of a sample (R290). -/
structure SupIn where
  cand : Nat
  g : W64
  pv : TWord
  sp : W64
  lost : Bool
  stale : Bool
  age : W64
deriving DecidableEq, Repr

/-- LOSS and STALE of a sample (R290). -/
def State.supSee (s : State) (k : Nat) (g : W64) (cand : Nat) (pv : TWord) (sp : W64) : SupIn :=
  let d := (s.lw k LW.PV_SRC).data
  let lost := srcKind d != 0 && decide (2 ≤ tagQ pv.tag)
  let now := (s.tpmAt (s.staleWords k g).1).data
  let ts := (s.tpmAt (s.staleWords k g).2).data
  let limit : Int := (2 + s.lf k LW.SUP_CFG 32 12 : Nat) * 62500
  let stale := (s.lf k LW.SUP_CFG 23 1 == 1) && srcKind d == 1 && !lost && decide (limit < 8 * ((now.toNat : Int) - ts.toNat))
  { cand := cand, g := g, pv := pv, sp := sp, lost := lost, stale := stale, age := now - ts }

/-- Following error and frozen feedback where they are evaluated: their words and their bits (R290). -/
def State.supTrack (s : State) (k : Nat) (x : SupIn) : State × Bool × Bool :=
  let cfg := (s.lw k LW.SUP_CFG).data
  let out := (s.lw k LW.OUT).data
  let above := cfg.getLsbD 7 && dLt (s.lw k LW.FE_LIMIT).data (dAbs (dSub x.sp x.pv.data))
  let running := s.lf k LW.SUP_STAT 24 1 == 1
  let s := if above then (if running then s else (s.setLf k LW.SUP_STAT 24 1 1).setLd k LW.FE_START x.g)
    else s.setLf k LW.SUP_STAT 24 1 0
  let fe := above && decide (s.lf k LW.FE_TIME 0 32 ≤ (x.g - (s.lw k LW.FE_START).data).toNat)
  let calm := cfg.getLsbD 31 &&
    dLt (dAbs (dSub x.pv.data (s.lw k LW.FRZ_LASTPV).data)) (s.lw k LW.FRZ_BAND).data
  let cnt := if calm then min (s.lf k LW.FRZ_CNT 0 32 + 1) 0xFFFFFFFF else 0
  let acc := if calm then dAdd (s.lw k LW.FRZ_ACC).data (dAbs (dSub out (s.lw k LW.FRZ_LASTOUT).data)) else 0
  let frz := cfg.getLsbD 31 && decide (max (s.lf k LW.FRZ_SAMPLES 0 16) 1 ≤ cnt)
    && dLt (s.lw k LW.FRZ_OUTDELTA).data acc
  (((s.setLd k LW.FRZ_CNT (BitVec.ofNat 64 cnt)).setLd k LW.FRZ_ACC acc).setLd k LW.FRZ_LASTPV x.pv.data, fe, frz)

/-- The conditions of a sample, evaluated (R287, R290). -/
def State.supEvaluate (s : State) (k : Nat) (x : SupIn) : State × Nat :=
  let was := s.supActive k
  let lossStale := 2 * x.lost.toNat + 4 * x.stale.toNat
  let r : State × Nat :=
    if x.lost || x.stale then (s, lossStale + was % 2 + was / 8 * 8)
    else if x.cand = 0 ∨ x.cand = 2 then
      let t := s.supTrack k x
      (t.1, lossStale + t.2.1.toNat + 8 * t.2.2.toNat)
    else
      ((((s.setLf k LW.SUP_STAT 24 1 0).setLd k LW.FRZ_CNT 0).setLd k LW.FRZ_ACC 0).setLd k LW.FRZ_LASTPV x.pv.data, lossStale)
  (r.1.setLd k LW.FRZ_LASTOUT (s.lw k LW.OUT).data, r.2)

/-- DATA of the detection of condition `i` (R309). -/
def State.supData (s : State) (k i : Nat) (x : SupIn) : W64 :=
  match i with
  | 0 => dAbs (dSub x.sp x.pv.data)
  | 1 => x.pv.tag.setWidth 64
  | 2 => x.age
  | _ => (s.lw k LW.FRZ_ACC).data

/-- The conditions whose reaction is MANUAL, as bits. -/
def State.manualBits (s : State) (k now : Nat) : Nat :=
  (List.range 4).foldl (fun n i => if now.testBit i && s.supRx k i == 3 then n + 2 ^ i else n) 0

/-- Condition `i` is detected in a sample (R291, R292). -/
def State.supDetect (s : State) (k i now : Nat) (x : SupIn) : State :=
  let lo := 48 - 16 * i
  let s := s.setLf k LW.SUP_CNT lo 16 (min (s.lf k LW.SUP_CNT lo 16 + 1) 0xFFFF)
  let s := (s.logEvt 0x040 k (0x10 + 2 * i) (s.supData k i x)).setEvt Reg.LOOP_SUP_EVT 0
  let s := if (s.lw k LW.SUP_CFG).data.getLsbD (8 * i + 6) then s.setLf k LW.SUP_STAT (16 + i) 1 1 else s
  match s.supRx k i with
  | 4 =>
    if s.lf k LW.SUP_STAT 31 1 = 1 then s
    else ((s.setTrip k true).setEvt Reg.LOOP_SUP_EVT 1).logEvt 0x040 k 0x18 (BitVec.ofNat 64 now)
  | 3 => (s.setLf k LW.MODE 16 3 1).logEvt 0x040 k 0x1A (BitVec.ofNat 64 (s.manualBits k now))
  | _ => s

/-- Conditions are detected and clear, and the mode that supervision calls for follows: 0 none, 1 HOLD, 2 FALLBACK, 3 MANUAL
(R291, R292). DEDUCED: log entry 53. -/
def State.supReact (s : State) (k now : Nat) (x : SupIn) : State × Nat :=
  let was := s.supActive k
  let s := s.setLf k LW.SUP_STAT 0 4 now
  let s := (List.range 4).foldl (fun s i =>
    if now.testBit i && !was.testBit i then s.supDetect k i now x
    else if was.testBit i && !now.testBit i then s.logEvt 0x040 k (0x11 + 2 * i)
    else s) s
  let effect := (List.range 4).filter fun i => now.testBit i || (s.supLatched k).testBit i
  let calls := effect.map (s.supRx k)
  let mode := if calls.contains 2 then 2 else if calls.contains 0 then 1 else if calls.contains 3 then 3 else 0
  (s.setLf k LW.SUP_STAT 28 3 mode, mode)

/-- The supervision step (R290): the state after it and the mode it calls for. -/
def State.supervise (s : State) (k : Nat) (g : W64) (cand : Nat) (pv : TWord) (sp : W64) : State × Nat :=
  let s := s.ackSup k
  let x := s.supSee k g cand pv sp
  let e := s.supEvaluate k x
  e.1.supReact k e.2 x

/-- The OUT tag of a sample in which conditions are ACTIVE (R291). DEDUCED: log entry 48. -/
def State.supTag (s : State) (k : Nat) (pv : Tag) (t : Tag) : Tag :=
  let a := s.supActive k
  if a = 0 then t
  else
    let cause := if a.testBit 0 then 1 else if a.testBit 1 then tagCause pv else if a.testBit 2 then 3 else 7
    mkTag (max (tagQ t) 1) cause ||| (t &&& 0x07)

/-- Every sample ends by writing the TRIP flag (R293). -/
def State.writeTripMap (s : State) (k : Nat) : State :=
  let m := (s.lw k LW.TRIP_MAP).data
  if m.getLsbD 63 then s.setTpmData (bits64 m 0 23) (BitVec.ofNat 64 (s.lf k LW.SUP_STAT 31 1)) 0 else s

/-! ## Fix (R300 to R303) -/

/-- The first failing test of a section of the STAGING bank, 0 where it passes (R301). -/
def State.sectionFails (s : State) (k i : Nat) (integrating : Bool) : Nat :=
  let c := fun j => (s.lw k (LW.STAGING + 5 * i + j)).data
  if !((List.range 5).all fun j => dFinite (c j)) then 1
  else if !dLt (dAbs (c 4)) dOne then 2
  else if integrating then (if dEq (dAdd (dAdd dOne (c 3)) (c 4)) 0 then 0 else 4)
  else if dLt (dAbs (c 3)) (dAdd dOne (c 4)) then 0 else 3

/-- The check of R301: the lowest failing section and its first failing test; none where all pass. -/
def State.fixCheck (s : State) (k : Nat) : Option (Nat × Nat) :=
  let int := s.lf k LW.OPTS 4 4
  ((List.range 8).map fun i => (i, s.sectionFails k i (i == int))).find? fun e => e.2 != 0

/-- The banks exchange contents (R302). -/
def State.swapBanks (s : State) (k : Nat) : State :=
  (List.range 40).foldl (fun s i =>
    let a := s.lw k (LW.ACTIVE + i)
    let b := s.lw k (LW.STAGING + i)
    (s.setLw k (LW.ACTIVE + i) b).setLw k (LW.STAGING + i) a) s

/-- A counter half of a status word counts one more, modulo 2^32. -/
def State.countLf (s : State) (k w lo : Nat) : State := s.setLf k w lo 32 (s.lf k w lo 32 + 1)

/-- A pending Fix is carried out in frame `g`; true where STATE is to be initialised if the sample computes (R302). -/
def State.doFix (s : State) (k : Nat) (g : W64) : State × Bool :=
  let opt := s.lf k LW.FIX_STAT 28 2
  let r := s.fixCheck k
  let sec := (r.map (·.1)).getD 15
  let why := (r.map (·.2)).getD 0
  let result := if r.isNone then 1 else 2
  let s := s.fixResult k result sec why g
  let where_ := sec * 2 ^ 20 + why * 2 ^ 16
  if opt = 2 then (s.logEvt 0x040 k 0x24 (BitVec.ofNat 64 (result * 2 ^ 24 + where_)), false)
  else if r.isNone then
    let s := ((s.swapBanks k).countLf k LW.FIX_CNT 0).countLf k LW.BANK_GEN 0
    ((s.setEvt Reg.LOOP_SUP_EVT 2).logEvt 0x040 k 0x20 g, opt == 1)
  else
    let s := s.countLf k LW.FIX_CNT 32
    ((s.setEvt Reg.LOOP_SUP_EVT 3).logEvt 0x040 k 0x21 (BitVec.ofNat 64 where_), false)

/-- A Fix waits for the check unit in frame `g`; its first deferral is logged (R303). -/
def State.deferFix (s : State) (g : W64) (k : Nat) : State :=
  let n := s.lf k LW.FIX_STAT 0 8
  let s := s.setLf k LW.FIX_STAT 0 8 (min (n + 1) 0xFF)
  if n = 0 then s.logEvt 0x040 k 0x25 g else s

end Sys2Proof.Machine
end

