-- ==== Sys2Proof/Machine/LoopSample.lean ====
section
/-! DEFINITION. The computation of a sample (R265, R267, R270 to R272, R278 to R280, R283). -/

namespace Sys2Proof.Machine

/-- A section with its state. -/
structure Sec where
  b0 : W64
  b1 : W64
  b2 : W64
  a1 : W64
  a2 : W64
  s1 : W64
  s2 : W64
deriving DecidableEq, Repr

/-- Section `i` of the ACTIVE bank. -/
def State.section (s : State) (k i : Nat) : Sec :=
  let c := fun j => (s.lw k (LW.ACTIVE + 5 * i + j)).data
  { b0 := c 0, b1 := c 1, b2 := c 2, a1 := c 3, a2 := c 4,
    s1 := (s.lw k (LW.STATE + 2 * i)).data, s2 := (s.lw k (LW.STATE + 2 * i + 1)).data }

/-- The sections of a loop, in order. -/
def State.sections (s : State) (k : Nat) : List Sec := (List.range (s.lf k LW.OPTS 0 4)).map (s.section k)

/-- Store the state of the sections, from section `i` on; the tags stay (R269). -/
def State.storeSections (s : State) (k : Nat) : List Sec → Nat → State
  | [], _ => s
  | c :: l, i => ((s.setLv k (LW.STATE + 2 * i) c.s1).setLv k (LW.STATE + 2 * i + 1) c.s2).storeSections k l (i + 1)

/-- G of a section (R279). -/
def gainOf (c : Sec) : W64 := dDiv (dAdd (dAdd c.b0 c.b1) c.b2) (dAdd (dAdd dOne c.a1) c.a2)

/-- A section in the steady state of input x and output y (R279). -/
def steadyAt (c : Sec) (x y : W64) : Sec :=
  { c with s1 := dSub y (dMul c.b0 x), s2 := dSub (dMul c.b2 x) (dMul c.a2 y) }

/-- The product of G over sections (R272, R279). -/
def gainProduct (l : List Sec) : W64 := l.foldl (fun g c => dMul g (gainOf c)) dOne

/-- Sections in the steady state one after another from input x: the sections, the last output, and whether every output was
finite. -/
def steadyRun (l : List Sec) (x : W64) : List Sec × W64 × Bool :=
  l.foldl (fun (r : List Sec × W64 × Bool) c =>
    let y := dMul (gainOf c) r.2.1
    (r.1 ++ [steadyAt c r.2.1 y], y, r.2.2 && dFinite y)) ([], x, true)

/-- The initialisation where the gains give no steady state (R279). -/
def initFlat : List Sec → W64 → W64 → List Sec
  | [], _, _ => []
  | [c], x, t => [{ c with s1 := dSub t (dMul c.b0 x), s2 := 0 }]
  | c :: l, x, t => { c with s1 := 0, s2 := 0 } :: initFlat l (dMul c.b0 x) t

/-- `init` of R279 around section `j`. -/
def initSections (l : List Sec) (j : Nat) (e t : W64) : List Sec :=
  let ga := gainProduct (l.drop (j + 1))
  let before := steadyRun (l.take j) e
  match l.drop j with
  | c :: later =>
    if dFinite ga && !dEq ga 0 && before.2.2 then
      let y := dDiv t ga
      before.1 ++ [steadyAt c before.2.1 y] ++ (steadyRun later y).1
    else initFlat l e t
  | [] => initFlat l e t

/-- The cascade of sections: input and output of each, and the last output (R267). -/
def runSections (l : List Sec) (x : W64) : List (W64 × W64) × W64 :=
  l.foldl (fun (r : List (W64 × W64) × W64) c =>
    let y := dFma c.b0 r.2 c.s1
    (r.1 ++ [(r.2, y)], y)) ([], x)

/-- The new state of a section after input x and output y (R267). -/
def nextSection (c : Sec) (xy : W64 × W64) : Sec :=
  { c with
    s1 := dFma c.b1 xy.1 (dFma (dNeg c.a1) xy.2 c.s2)
    s2 := dFma c.b2 xy.1 (dNeg (dMul c.a2 xy.2)) }

/-- The sign σ of R272 is −1. -/
def sigmaNeg (l : List Sec) (i : Nat) : Bool :=
  let g := gainProduct (l.drop (i + 1))
  dFinite g && dLt g 0

/-- The integrating section pushes further into the limit (R272). -/
def pushesFurther (neg hi lo : Bool) (x : W64) : Bool :=
  let up := if neg then dLt x 0 else dLt 0 x
  let down := if neg then dLt 0 x else dLt x 0
  (hi && up) || (lo && down)

/-- What a sample computes before its limits. -/
structure Calc where
  e : W64
  uraw : W64
  tag : Tag
  secs : List Sec := []
  xy : List (W64 × W64) := []
deriving DecidableEq, Repr

/-- Where Exposure injects its signal, and what (R316): 0 SP, 1 ERR, 2 OUT. -/
abbrev Inject := Option (Nat × W64)

/-- The injected value at a point. -/
def injectAt (inj : Inject) (point : Nat) (v : W64) : W64 :=
  match inj with
  | some (p, x) => if p = point then dAdd v x else v
  | none => v

/-- The error (R262, R267). -/
def State.errorOf (s : State) (k : Nat) (pv sp : W64) : W64 :=
  if (s.lw k LW.OPTS).data.getLsbD 10 then dSub pv sp else dSub sp pv

/-- The output tag of FALLBACK (R291). -/
def fallbackTag (t : Tag) : Tag := mkTag (max (tagQ t) 1) 4 ||| tagFS t

/-- What a sample computes in a mode before its limits (R267); `init`: STATE is initialised (R279). -/
def State.calcLoop (s : State) (k mode : Nat) (init : Bool) (pv ff sp : TWord) (track : TWord) (inj : Inject) : Calc :=
  let e := injectAt inj 1 (s.errorOf k pv.data sp.data)
  let out := s.lw k LW.OUT
  if mode = 0 ∨ mode = 2 then
    let int := s.lf k LW.OPTS 4 4
    let l := s.sections k
    let gain := (s.lw k LW.FF_GAIN).data
    let l := if init then
        initSections l (if int = 15 then l.length - 1 else int) e (dSub out.data (dMul gain ff.data))
      else l
    let r := runSections l e
    { e := e, uraw := injectAt inj 2 (dFma gain ff.data r.2), tag := mergeTags [pv.tag, sp.tag, ff.tag], secs := l, xy := r.1 }
  else
    let w := match mode with
      | 1 => s.lw k LW.MAN_OUT
      | 3 => track
      | 6 => { s.lw k LW.FB_VALUE with tag := fallbackTag (s.lw k LW.FB_VALUE).tag }
      | _ => out
    { e := e, uraw := injectAt inj 2 w.data, tag := w.tag }

/-- DIV × 62.5 µs in seconds (R271, R316). -/
def State.samplePeriod (s : State) (k : Nat) : W64 := dMul (dInt (s.divOf k)) 0x3F10624DD2F1A9FC#64

/-- The rate limit (R271, step 1). -/
def State.rateLimit (s : State) (k : Nat) (u : W64) : W64 :=
  let dt := s.samplePeriod k
  let out := (s.lw k LW.OUT).data
  clampTo (dSub out (dMul (s.lw k LW.RATE_DN).data dt)) (dAdd out (dMul (s.lw k LW.RATE_UP).data dt)) u

/-- The absolute limits (R271, step 2). -/
def State.absLimit (s : State) (k : Nat) (u : W64) : W64 := clampTo (s.lw k LW.OUT_LO).data (s.lw k LW.OUT_HI).data u

/-- What the limits do to a sample. -/
structure Limited where
  u : W64
  rlim : Bool
  hi : Bool
  lo : Bool
deriving DecidableEq, Repr

/-- R271; `rated`: step 1 applies. -/
def State.limitOf (s : State) (k : Nat) (rated : Bool) (uraw : W64) : Limited :=
  let u1 := if rated then s.rateLimit k uraw else uraw
  let u := s.absLimit k u1
  { u := u, rlim := dLt u1 uraw || dLt uraw u1, hi := dLt u uraw, lo := dLt uraw u }

/-- The new sections of a computed sample, and whether the integrating section was frozen (R267, R272). -/
def State.advanceSections (s : State) (k : Nat) (c : Calc) (l : Limited) : List Sec × Bool :=
  let int := s.lf k LW.OPTS 4 4
  let frozen := match c.xy[int]? with
    | some xy => pushesFurther (sigmaNeg c.secs int) l.hi l.lo xy.1
    | none => false
  let new := (c.secs.zip c.xy).map fun e => nextSection e.1 e.2
  let new := if frozen then (new.zipIdx.zip c.secs).map fun e => if e.1.2 = int then e.2 else e.1.1 else new
  (new, frozen)

/-- The sections hold a value that is not finite. -/
def unfiniteSections (l : List Sec) : Bool := l.any fun c => !dFinite c.s1 || !dFinite c.s2

/-- A sample has a numeric fault (R270). DEDUCED: log entry 45. -/
def numericFault (computed : Bool) (c : Calc) (new : List Sec) : Bool :=
  !dFinite c.uraw || (computed && (!dFinite c.e || c.xy.any (fun e => !dFinite e.2) || unfiniteSections new))

/-- The engine writes the destinations of a loop with OUT's value and tag (R265). DEDUCED: log entry 44. -/
def State.writeDests (s : State) (k : Nat) : State :=
  let out := s.lw k LW.OUT
  [0, 1].foldl (fun s m =>
    let d := (s.lw k (LW.OMAP + 3 * m)).data
    if d.getLsbD 63 then
      s.setTpmData (bits64 d 0 23) (dFma out.data (s.lw k (LW.OMAP + 3 * m + 1)).data (s.lw k (LW.OMAP + 3 * m + 2)).data) out.tag
    else s) s

/-- The number of valid output map entries. -/
def State.destCount (s : State) (k : Nat) : Nat :=
  ([0, 1].filter fun m => (s.lw k (LW.OMAP + 3 * m)).data.getLsbD 63).length

/-- The cost of a sample in pipeline cycles (R283, R322). DEDUCED: log entry 43. -/
def State.sampleCost (s : State) (k : Nat) (bracket interp : Bool) : Nat :=
  if bracket then 48 + 2 * s.destCount k
  else 40 + 8 * s.lf k LW.OPTS 0 4 + 4 * (decide (srcKind (s.lw k LW.FF_SRC).data ≠ 0)).toNat + 2 * s.destCount k
    + 6 * interp.toNat

/-- The counts that every sample advances (R262). -/
def State.countSample (s : State) (k : Nat) (g : W64) (cost : Nat) : State :=
  let s := (s.setLd k LW.LAST_FRAME g).setLd k LW.SAMPLES ((s.lw k LW.SAMPLES).data + 1)
  s.setLd k LW.EXEC (BitVec.ofNat 64 cost)

/-- A sample is discarded (R270). -/
def State.discardSample (s : State) (k : Nat) (g : W64) : State :=
  let first := !(s.lw k LW.STAT).data.getLsbD 14
  let out := s.lw k LW.OUT
  let s := (s.setLw k LW.OUT { out with tag := badTag 5 out.tag }).setLd k LW.STAT 0x4000
  let s := s.setLd k LW.NUM_CNT ((s.lw k LW.NUM_CNT).data + 1)
  let s := (s.setMapBit Reg.LOOP_NUMERRm k true).setEvt Reg.LOOP_LOOP_EVT 1
  let s := if first then s.logEvt 0x040 k 0x03 g else s
  s.writeDests k

/-- The mode of a loop's previous sample as its record shows it; none where its next sample is the first since LOOP.CTRL.EN was set. HOLD
stands for no sample while EN was 0 or the loop was in CFG_ERR (R268, R277, R278). -/
def State.prevMode (s : State) (k : Nat) : Option Nat := if s.loop.fresh.contains k then none else some (s.actOf k)

/-- The actual mode of a sample (R262, R286). -/
def State.setAct (s : State) (k mode : Nat) : State :=
  let was := s.actOf k
  let s := s.setLf k LW.MODE 24 3 mode
  let s := { s with loop := { s.loop with fresh := s.loop.fresh.filter (· != k) } }
  if was = mode then s else s.logEvt 0x040 k 0x05 (BitVec.ofNat 64 (was * 2 ^ 8 + mode))

/-- STAT of a sample (R262). -/
def statWord (held outer frozen : Bool) (l : Limited) : W64 :=
  BitVec.ofNat 64 (held.toNat * 2 ^ 13 + outer.toNat * 2 ^ 12 + frozen.toNat * 2 ^ 11 + l.rlim.toNat * 2 ^ 10
    + l.lo.toNat * 2 ^ 9 + l.hi.toNat * 2 ^ 8)

/-- What a sample has found by its end. -/
structure Sampled where
  mode : Nat
  pv : TWord
  sp : SetPoint
  ff : TWord
  outer : Bool
  frozen : Bool
  found : Calc
  lim : Limited
deriving DecidableEq, Repr

/-- The status words of a sample (R262, R267). DEDUCED: log entry 47. -/
def State.writeStatus (s : State) (k : Nat) (x : Sampled) : State :=
  let l : Tag := if x.lim.hi || x.lim.lo then 1 else 0
  let s := (s.setLw k LW.PV x.pv).setLw k LW.SP x.sp.word
  let s := s.setLw k LW.ERR { data := x.found.e, tag := mergeTags [x.pv.tag, x.sp.word.tag] }
  let s := (s.setLw k LW.FF x.ff).setLw k LW.U_RAW { data := x.found.uraw, tag := x.found.tag &&& 0xFE }
  let s := s.setLw k LW.OUT { data := x.lim.u, tag := s.supTag k x.pv.tag ((x.found.tag &&& 0xFE) ||| l) }
  let s := s.setLd k LW.STAT (statWord x.sp.held x.outer x.frozen x.lim)
  if x.lim.hi || x.lim.lo then s.setLd k LW.LIM_CNT ((s.lw k LW.LIM_CNT).data + 1) else s

/-- The end of a sample that is not discarded (R265, R267, R280). DEDUCED: log entry 47. -/
def State.finishSample (s : State) (k : Nat) (x : Sampled) : State :=
  let s := (s.writeStatus k x).setAct k x.mode
  let track := (s.lw k LW.OPTS).data.getLsbD 11 && (x.mode == 1 || x.mode == 3 || x.mode == 4) && decide (tagQ x.pv.tag < 2)
  let s := if track then s.setLw k LW.SP_LOCAL x.pv else s
  s.writeDests k

/-- What modes do at entry beside STATE: MAN_OUT and SP_LOCAL (R278). `prev` is the mode of the previous sample. -/
def State.enterMode (s : State) (k mode : Nat) (prev : Option Nat) : State :=
  if mode = 1 ∧ prev ≠ some 1 ∧ s.loop.written.contains (k * 256 + LW.MAN_OUT) = false then
    s.setLw k LW.MAN_OUT (s.lw k LW.OUT)
  else if mode = 0 ∧ prev = some 2 then s.setLw k LW.SP_LOCAL (s.lw k LW.SP)
  else s

/-- STATE is initialised at the entry to AUTO and CASCADE (R278). -/
def entersControl (mode : Nat) (prev : Option Nat) : Bool := (mode == 0 || mode == 2) && prev != some 0 && prev != some 2

/-- The feed-forward value (R267). -/
def State.feedForward (s : State) (k : Nat) (g : W64) : TWord := s.readSrc g (s.lw k LW.FF_SRC).data

/-- The track value (R276). -/
def State.trackValue (s : State) (k : Nat) (g : W64) (inner : Option Nat) : TWord :=
  match inner with
  | some i => s.lw i LW.SP
  | none => s.readSrc g (s.lw k LW.TR_SRC).data

/-- A sample computed in `mode`, shown as actual mode `act`: the same but in TUNE (R267, R316). `inj` is what Exposure adds and
`extra` the tags merged after the other operands. DEDUCED: log entry 44. -/
def State.computeSample (s : State) (k : Nat) (g : W64) (mode act : Nat) (prev : Option Nat) (rescale : Bool) (pv : TWord)
    (inner : Option Nat) (inj : Inject) (extra : List Tag) : State × Bool :=
  let s := s.enterMode k mode prev
  let spInj := match inj with
    | some (0, v) => some v
    | _ => none
  let sp := s.effectiveSp k g mode (prev == some 2) spInj
  let ff := s.feedForward k g
  let init := entersControl mode prev || (rescale && (mode == 0 || mode == 2))
  let c := s.calcLoop k mode init pv ff sp.word (s.trackValue k g inner) inj
  let c := if extra = [] then c else { c with tag := mergeTags (c.tag :: extra) }
  let computed := mode == 0 || mode == 2
  let lim := s.limitOf k (act != 5 && (computed || mode == 1)) c.uraw
  let adv := s.advanceSections k c lim
  let s := s.countSample k g (s.sampleCost k false sp.interp)
  if numericFault computed c adv.1 then (s.discardSample k g, true)
  else
    let s := if computed then s.storeSections k adv.1 0 else s
    (s.finishSample k
      { mode := act, pv := pv, sp := sp, ff := ff, outer := inner.isSome && mode == 3, frozen := computed && adv.2,
        found := c, lim := lim }, false)

end Sys2Proof.Machine
end

