-- ==== Sys2Proof/Machine/Trig.lean ====
section
/-! DEFINITION. The functions of R317, R319 and R320 that binary64 arithmetic does not give: computed in fixed point with 1 200 bits after the
point and rounded to one of the two binary64 values beside the exact one, which one left free. DESIGN CHOICE: log entry 55. -/

namespace Sys2Proof.Machine

/-- Bits after the point. -/
abbrev fixBits : Nat := 1200

/-- π in fixed point. -/
def fixPi : Int := 0x3 * 2 ^ 1200 +
  0x243f6a8885a308d313198a2e03707344a4093822299f31d0082efa98ec4e6c89452821e638d01377be5466cf34e90c6cc0ac * 2 ^ 800 +
  0x29b7c97c50dd3f84d5b5b54709179216d5d98979fb1bd1310ba698dfb5ac2ffd72dbd01adfb7b8e1afed6a267e96ba7c9045 * 2 ^ 400 +
  0xf12c7f9924a19947b3916cf70801f2e2858efc16636920d871574e69a458fea3f4933d7e0d95748f728eb658718bcd588215

/-- 1 in fixed point. -/
def fixOne : Int := 2 ^ fixBits

/-- A finite binary64 value in fixed point. -/
def fixOf (v : W64) : Int :=
  match unp v with
  | .num neg m e => signedInt neg (if -(fixBits : Int) ≤ e then m * 2 ^ (e + fixBits).toNat else m / 2 ^ (-(e + fixBits)).toNat)
  | _ => 0

/-- The product of two values in fixed point. -/
def fixMul (a b : Int) : Int := a * b / 2 ^ fixBits

/-- The quotient of two values in fixed point. -/
def fixDiv (a b : Int) : Int := a * 2 ^ fixBits / b

/-- The power series of sin x / x (`o` = 1) and cos x (`o` = 0) from term `k` on, `fuel` terms of it; `x2` is x squared. -/
def trigSeries (o : Nat) (x2 : Int) : Nat → Nat → Int
  | 0, _ => fixOne
  | fuel + 1, k => fixOne - fixMul x2 (trigSeries o x2 fuel (k + 1)) / ((2 * k - 1 + o) * (2 * k + o) : Nat)

/-- An angle in radians brought to −π to π. -/
def fixReduce (x : Int) : Int := x - (x + fixPi) / (2 * fixPi) * (2 * fixPi)

/-- Sine and cosine in fixed point of an angle in radians. DESIGN CHOICE: log entry 55. -/
def fixSin (x : Int) : Int := let r := fixReduce x; fixMul r (trigSeries 1 (fixMul r r) 150 1)
def fixCos (x : Int) : Int := let r := fixReduce x; trigSeries 0 (fixMul r r) 150 1

/-- The integer square root. -/
def isqrt (n : Nat) : Nat := isqrtFrom n (Nat.log2 n / 2 + 1) 0

/-- One step towards the angle of the unit vector (x, y): it cubes the error. -/
def angleStep (x y a : Int) : Int := a + (fixMul y (fixCos a) - fixMul x (fixSin a))

/-- The angle of a vector that is not zero, in radians in fixed point, from −π to π. -/
def fixAngle (x y : Int) : Int :=
  let r : Int := isqrt (x * x + y * y).toNat
  let start : Int :=
    if y.natAbs ≤ x.natAbs then (if 0 ≤ x then 0 else if 0 ≤ y then fixPi else -fixPi)
    else if 0 ≤ y then fixPi / 2 else -(fixPi / 2)
  (List.range 9).foldl (fun a _ => angleStep (fixDiv x r) (fixDiv y r) a) start

/-- Radians to degrees, and degrees to radians. -/
def toDegrees (a : Int) : Int := fixDiv (a * 180) fixPi
def fromDegrees (a : Int) : Int := fixMul a fixPi / 180

/-- A value in fixed point as one of the two binary64 values beside it: which one is open. DESIGN CHOICE: log entry 55. -/
def rounded (fn : Nat) (x : Int) : W64 :=
  let r := fun rm => asW64 (roundFp f64 rm (decide (x < 0)) x.natAbs (-(fixBits : Int)))
  if Config.lastPlace fn (r .rdn) then r .rup else r .rdn

/-- The canonical NaN (R208). -/
def dQuietNan : W64 := 0x7FF8000000000000

/-- The sine of an angle in radians, to 1 ulp (R317). -/
def sineOf (v : W64) : W64 := if dFinite v then rounded 0 (fixSin (fixOf v)) else dQuietNan

/-- The arcsine in degrees (R319). -/
def arcsinDeg (v : W64) : W64 :=
  let x := fixOf v
  if !dFinite v || decide (fixOne < x.natAbs) then dQuietNan
  else rounded 1 (toDegrees (fixAngle (isqrt (fixOne * fixOne - x * x).toNat) x))

/-- Cosine and tangent of an angle in degrees (R320). -/
def cosDeg (v : W64) : W64 := if dFinite v then rounded 2 (fixCos (fromDegrees (fixOf v))) else dQuietNan
def tanDeg (v : W64) : W64 :=
  if dFinite v then rounded 3 (fixDiv (fixSin (fromDegrees (fixOf v))) (fixCos (fromDegrees (fixOf v)))) else dQuietNan

/-- Bin `k` of the DFT over `w` samples of which every `stride`-th is given (R319): real and imaginary part. -/
def dftBin (l : List W64) (k w stride : Nat) : Int × Int :=
  l.zipIdx.foldl (fun (r : Int × Int) e =>
    let a : Int := 2 * fixPi * (k * e.2 * stride % w : Nat) / (w : Int)
    let v := fixOf e.1
    (r.1 + fixMul v (fixCos a), r.2 - fixMul v (fixSin a))) (0, 0)

/-- G2MAG and PHI2 (R319): |σY / D| and arg(σY / D) in degrees from −360 to 0; none where D is 0. Samples that are not finite leave both open. -/
def dftGain (l : List (W64 × W64)) (k w stride : Nat) (negative : Bool) : Option (W64 × W64) :=
  if !l.all fun e => dFinite e.1 && dFinite e.2 then some (Config.dftOpen l)
  else
    let y := dftBin (l.map (·.1)) k w stride
    let d := dftBin (l.map (·.2)) k w stride
    let sum : Int := l.foldl (fun n e => n + (fixOf e.2).natAbs) 0
    let dd := d.1 * d.1 + d.2 * d.2
    if dd * 2 ^ 400 ≤ sum * sum then none
    else
      let sg : Int := if negative then -1 else 1
      let mag := isqrt ((y.1 * y.1 + y.2 * y.2) * 2 ^ (2 * fixBits) / dd).toNat
      let re := sg * (y.1 * d.1 + y.2 * d.2)
      let im := sg * (y.2 * d.1 - y.1 * d.2)
      let a := if re = 0 ∧ im = 0 then 0 else fixAngle re im
      some (rounded 4 mag, rounded 5 (toDegrees (if 0 < a then a - 2 * fixPi else a)))

end Sys2Proof.Machine
end

