-- ==== Sys2Proof/Machine/LoopTune.lean ====
section
/-! DEFINITION. Tuning sessions: Exposure and Bracket (R310 to R322), and the sample of a loop in its mode (R267, R277). -/

namespace Sys2Proof.Machine

/-! ## Sessions (R310, R311, R314) -/

/-- A field of TUNE_CFG. -/
def State.tuneCfg (s : State) (k lo n : Nat) : Nat := s.lf k LW.TUNE_CFG lo n
/-- KIND: 1 Exposure, 2 Bracket, 3 Bracket with dither. -/
def State.tuneKind (s : State) (k : Nat) : Nat := s.tuneCfg k 0 3
/-- The value of a tuning word. -/
def State.tuneWord (s : State) (k w : Nat) : W64 := (s.lw k w).data

/-- Finite and greater than 0. -/
def finitePos (v : W64) : Bool := dFinite v && dLt 0 v
/-- `lo` ≤ v ≤ `hi`. -/
def inRange (lo hi v : W64) : Bool := dLe lo v && dLe v hi

/-- A frequency greater than 0 and below 1 / (2 × DIV × 62.5 µs), which is 8 000 / DIV in Hz (R314). -/
def chirpOk (f : W64) (div : Nat) : Bool :=
  dLt 0 f && match unp f with
    | .num false m e => cmpFp (.num false (m * div) e) (.num false 8000 0) == some .lt
    | _ => false

/-- The conditions of Exposure (R314). -/
def State.exposureOk (s : State) (k : Nat) : Bool :=
  let sig := s.tuneCfg k 8 3
  let base := s.tuneCfg k 16 3
  let point := s.tuneCfg k 4 2
  decide (sig ≤ 3) && decide (base ≤ 2) && decide (point ≤ 2) && (base != 1 || point == 2)
    && s.tuneCfg k 49 3 != 4 && dFinite (s.tuneWord k LW.AMP)
    && (sig != 1 || decide (7 ≤ s.tuneCfg k 24 4))
    && (sig != 2 || (decide (2 ≤ s.lf k LW.LEN 0 32) && chirpOk (s.tuneWord k LW.F0) (s.divOf k)
      && chirpOk (s.tuneWord k LW.F1) (s.divOf k)))
    && (sig != 3 || decide (s.lf k LW.SEED 0 23 + 64 ≤ tpmWords))

/-- The conditions of Bracket (R314). -/
def State.bracketOk (s : State) (k : Nat) : Bool :=
  let rule := s.tuneCfg k 49 3
  let dith := s.tuneKind k == 3
  decide (3 ≤ s.tuneCfg k 40 5)
    && finitePos (s.tuneWord k LW.AMP) && dFinite (s.tuneWord k LW.HYST) && dLe 0 (s.tuneWord k LW.HYST)
    && (!dith || (finitePos (s.tuneWord k LW.DAMP) && decide (7 ≤ s.tuneCfg k 24 4)))
    && (rule != 4 || (dith && inRange 0x4034000000000000#64 0x4054000000000000#64 (s.tuneWord k LW.PM)))

/-- TUNE_CFG and the parameter words satisfy every condition of R314. -/
def State.tuneOk (s : State) (k : Nat) : Bool :=
  let ret := s.tuneCfg k 20 3
  let rule := s.tuneCfg k 49 3
  (ret == 0 || ret == 1 || ret == 2 || ret == 4) && dLt 0 (s.tuneWord k LW.EXC_LIM) && decide (rule ≤ 4) &&
    ((rule != 1 && rule != 3) || inRange 0x4000000000000000#64 0x4049000000000000#64 (s.tuneWord k LW.NFILT)) &&
    match s.tuneKind k with
    | 1 => s.exposureOk k
    | 2 => s.bracketOk k
    | 3 => s.bracketOk k
    | _ => false

/-- The engine writes REQ = RET, or MANUAL where RET is no valid return mode (R311). -/
def State.writeRet (s : State) (k : Nat) : State :=
  let ret := s.tuneCfg k 20 3
  s.setLf k LW.MODE 16 3 (if ret = 0 ∨ ret = 2 ∨ ret = 4 then ret else 1)

/-- The free tuning slots, lowest first. -/
def State.freeSlots (s : State) : List Nat := (List.range 16).filter fun n => !s.flag (Reg.BRKT_SLOTn + 4 * n) 31

/-- A loop's slot is freed. -/
def State.releaseSlot (s : State) (k : Nat) : State :=
  let n := s.lf k LW.TUNE_STAT 0 4
  let s := if s.fld (Reg.BRKT_SLOTn + 4 * n) 0 9 = k then s.setReg (Reg.BRKT_SLOTn + 4 * n) 0 else s
  s.setMapBit Reg.BRKT_TUNEm k false

/-- What a session holds. -/
def State.tuneState (s : State) (k : Nat) : TuneState := (sget (dflt none) s.loop.tune k).getD {}

/-- Store what a session holds, or drop it. -/
def State.setTune (s : State) (k : Nat) (t : Option TuneState) : State :=
  { s with loop := { s.loop with tune := sset (dflt none) s.loop.tune k t } }

/-- STATE and RESULT of TUNE_STAT. -/
def State.setTuneStat (s : State) (k state result : Nat) : State :=
  (s.setLf k LW.TUNE_STAT 28 4 state).setLf k LW.TUNE_STAT 24 4 result

/-- A session ends with a result; `rewrite`: REQ takes RET (R311, R315, R329, R330). -/
def State.endTune (s : State) (k result : Nat) (rewrite : Bool) : State :=
  let analyse := result == 1 && s.tuneKind k != 1
  let samples := s.lf k LW.TUNE_STAT 32 32
  let s := s.setTuneStat k (if analyse then 2 else 3) result
  let s := if analyse then s.setFld (Reg.BRKT_SLOTn + 4 * s.lf k LW.TUNE_STAT 0 4) 28 3 2 else (s.releaseSlot k).setTune k none
  let s := if rewrite then s.writeRet k else s
  let abort := [3, 4, 5, 8, 10].contains result
  let s := s.setEvt Reg.BRKT_BRKT_EVT 0
  let s := if abort then s.setEvt Reg.BRKT_BRKT_EVT 1 else s
  let usual := result == 1 || result == 2 || result == 12
  s.logEvt 0x042 k (if usual then 0x02 else 0x03) (BitVec.ofNat 64 (samples * 2 ^ 32 + result))

/-- A session fails at entry (R310); one that was still analysed is over, its slot freed (R311). -/
def State.failTune (s : State) (k result : Nat) : State :=
  let s := (s.releaseSlot k).setTune k none
  let s := ((s.setTuneStat k 3 result).setLf k LW.TUNE_STAT 32 32 0).writeRet k
  (s.setEvt Reg.BRKT_BRKT_EVT 2).logEvt 0x042 k 0x04 (BitVec.ofNat 64 result)

/-- Armed capture sessions that wait for the loop to enter TUNE trigger at their next capture point (R326). -/
def State.tuneEntryTriggers (s : State) (k : Nat) : State :=
  (List.range 16).foldl (fun s n =>
    let b := 0x80 * n
    if s.fld (Reg.CAPT_SCTRL + b) 25 3 = 1 ∧ s.fld (Reg.CAPT_TRIG + b) 29 3 = 4 ∧ s.fld (Reg.CAPT_TRIG + b) 0 9 = k then
      { s with loop := { s.loop with capSoft := insertNew s.loop.capSoft n } }
    else s) s

/-- A session starts in slot `n` (R310, R315). -/
def State.startTune (s : State) (k n : Nat) (pv : TWord) : State :=
  let kind := s.tuneKind k
  let s := s.releaseSlot k
  let s := (s.setLv k LW.TUNE_STAT (BitVec.ofNat 64 (1 * 2 ^ 28 + n))).setLv k LW.PV0 pv.data
  let s := s.setLv k LW.U0 (s.lw k LW.OUT).data
  let s := { s with loop := { s.loop with entered := insertNew s.loop.entered k } }
  let s := s.setReg (Reg.BRKT_SLOTn + 4 * n) (BitVec.ofNat 32 (2 ^ 31 + 1 * 2 ^ 28 + kind % 4 * 2 ^ 9 + k))
  let s := (s.setMapBit Reg.BRKT_TUNEm k true).setTune k (some {})
  (s.logEvt 0x042 k 0x01 (BitVec.ofNat 64 (kind * 2 ^ 8 + n))).tuneEntryTriggers k

/-- A loop enters TUNE: the checks of R310 in order. `plan` gives the loops that enter in this frame their slots. -/
def State.enterTune (s : State) (plan : List (Nat × Nat)) (k : Nat) (pv : TWord) : State :=
  if !s.tuneOk k then s.failTune k 6
  else match (if s.flag (rk 0x042 Reg.CTRL) 0 then (plan.find? fun e => e.1 == k).map (·.2) else none) with
    | none => s.failTune k 7
    | some n => if 2 ≤ tagQ pv.tag then s.failTune k 5 else s.startTune k n pv

/-- A session of the loop runs. -/
def State.tuneRunning (s : State) (k : Nat) : Bool := s.lf k LW.TUNE_STAT 28 4 == 1

/-- The event that ends a running session at the beginning of a sample: its RESULT (R311). -/
def State.tuneEnd (s : State) (k sup : Nat) (tracked : Bool) (pv : TWord) : Option Nat :=
  let req := s.lf k LW.MODE 16 3
  if 2 ≤ tagQ pv.tag then some 5
  else if dNan pv.data || dLt (s.tuneWord k LW.EXC_LIM) (dAbs (dSub pv.data (s.tuneWord k LW.PV0))) then some 3
  else if (s.tuneState k).stop then some 2
  else if sup ≠ 0 ∨ (tracked = true ∧ req = 5) then some 4
  else if req ≠ 5 then some 12
  else none

/-- The mode that supervision calls for, or `mode` where it calls for none (R277, R292). -/
def supMode (sup mode : Nat) : Nat :=
  match sup with
  | 1 => 4
  | 2 => 6
  | 3 => 1
  | _ => mode

/-- The actual mode of a sample: sessions start and end; the checks of R311 are made in the entry sample too (R277, R310, R311, R316). -/
def State.resolveMode (s : State) (plan : List (Nat × Nat)) (k sup : Nat) (tracked : Bool) (pv : TWord) : State × Nat :=
  let s := if !s.tuneRunning k && !tracked && s.lf k LW.MODE 16 3 == 5 then s.enterTune plan k pv else s
  let s := if s.tuneRunning k then
      match s.tuneEnd k sup tracked pv with
      | some r => s.endTune k r (r != 12)
      | none => s
    else s
  (s, supMode sup (if tracked then 3 else s.lf k LW.MODE 16 3))

/-! ## Signals (R317, R318) -/

/-- The tap bits of the PRBS register of order n (R318). -/
def prbsTaps (n : Nat) : List Nat :=
  match n with
  | 7 => [6, 5]
  | 8 => [7, 5, 4, 3]
  | 9 => [8, 4]
  | 10 => [9, 6]
  | 11 => [10, 8]
  | 12 => [11, 5, 3, 0]
  | 13 => [12, 3, 2, 0]
  | 14 => [13, 4, 2, 0]
  | _ => [14, 13]

/-- One shift of the register: its output bit and its new contents (R318). -/
def prbsShift (n r : Nat) : Bool × Nat :=
  let fb := (prbsTaps n).foldl (fun b p => b != r.testBit p) false
  (r.testBit 0, r / 2 + fb.toNat * 2 ^ (n - 1))

/-- The register and its bit at sample j: shifted at each multiple of H (R317, R318). -/
def State.stepPrbs (s : State) (k : Nat) (t : TuneState) : TuneState :=
  let n := s.tuneCfg k 24 4
  let seed := s.lf k LW.SEED 48 16 % 2 ^ n
  let start := if seed = 0 then 2 ^ n - 1 else seed
  if t.j % (s.tuneCfg k 32 8 + 1) = 0 then
    let r := prbsShift n (if t.j = 0 then start else t.prbs)
    { t with bit := r.1, prbs := r.2 }
  else t

/-- ± an amplitude by a bit. -/
def signedBy (b : Bool) (a : W64) : W64 := if b then a else dNeg a

/-- The table word of a sample: its place and what it holds (R317). -/
def State.tableIndex (s : State) (k : Nat) (t : TuneState) : Nat := s.lf k LW.SEED 0 23 + t.j / (s.tuneCfg k 32 8 + 1) % 64
def State.tableWord (s : State) (k : Nat) (t : TuneState) : TWord := s.tpmAt (s.tableIndex k t)

/-- The phase of CHIRP at sample j, in binary64, in the order in which R317 writes it. DESIGN CHOICE: log entry 55. -/
def State.chirpPhase (s : State) (k j : Nat) : W64 :=
  let period := s.samplePeriod k
  let t := dMul (dInt j) period
  let f0 := s.tuneWord k LW.F0
  let sweep := dDiv (dMul (dSub (s.tuneWord k LW.F1) f0) (dMul t t)) (dMul (dMul 0x4000000000000000#64 (dInt (s.lf k LW.LEN 0 32))) period)
  dMul 0x401921FB54442D18#64 (dAdd (dMul f0 t) sweep)

/-- The signal of Exposure at sample j (R317). -/
def State.exposureSignal (s : State) (k : Nat) (t : TuneState) : W64 :=
  let amp := s.tuneWord k LW.AMP
  match s.tuneCfg k 8 3 with
  | 0 => if t.j < s.lf k LW.LEN 32 32 then 0 else amp
  | 1 => signedBy t.bit amp
  | 2 => dMul amp (sineOf (s.chirpPhase k t.j))
  | _ => dMul amp (s.tableWord k t).data

/-- A TUNE sample is counted (R315). -/
def State.countTune (s : State) (k : Nat) (t : TuneState) (sig : W64) : State :=
  let s := s.setLf k LW.TUNE_STAT 32 32 (min (s.lf k LW.TUNE_STAT 32 32 + 1) 0xFFFFFFFF)
  (s.setLv k LW.SIG sig).setTune k (some { t with j := t.j + 1 })

/-- A TUNE sample of Exposure (R316); a sample that a bad table word turns into one in RET may carry a RESCALE (R302). -/
def State.exposureSample (s : State) (k : Nat) (g : W64) (prev : Option Nat) (rescale : Bool) (pv : TWord) : State :=
  let t := s.tuneState k
  let table := s.tuneCfg k 8 3 == 3
  let s := if table then s.tpmTouched (s.tableIndex k t) else s
  let word := s.tableWord k t
  if table && decide (2 ≤ tagQ word.tag) then
    let s := s.endTune k 6 true
    let mode := s.lf k LW.MODE 16 3
    (s.computeSample k g mode mode prev rescale pv none none []).1
  else
    let t := if s.tuneCfg k 8 3 = 1 then s.stepPrbs k t else t
    let sig := s.exposureSignal k t
    let base := s.tuneCfg k 16 3
    let before := if t.j = 0 then prev else some base
    let r := s.computeSample k g base 5 before false pv none (some (s.tuneCfg k 4 2, sig)) (if table then [word.tag] else [])
    let s := r.1.countTune k t sig
    let len := s.lf k LW.LEN 0 32
    if len ≠ 0 ∧ t.j + 1 = len then s.endTune k 1 true else s

/-! ## Bracket (R319) -/

/-- The relay at sample j (R319): its state, and whether it switched to +1. -/
def relayStep (t : TuneState) (e h : W64) : Bool × Bool :=
  if t.j = 0 then (dLe 0 e, false)
  else if t.up then (!dLt e (dNeg h), false)
  else if dLt h e then (true, true)
  else (false, false)

/-- The first cycle that is measured (R319). -/
def State.firstMeasured (s : State) (k : Nat) : Nat :=
  if s.tuneKind k = 3 ∧ (s.tuneCfg k 40 5 - 1) % 2 = 1 then 3 else 2

/-- The relay switches to +1: a cycle ends and the next begins (R319). -/
def switchUp (t : TuneState) : TuneState :=
  match t.since with
  | some j0 => { t with cycles := t.cycles ++ [{ samples := t.j - j0, hi := t.hi, lo := t.lo }], since := some t.j }
  | none => { t with since := some t.j }

/-- PV of a sample within a cycle: its extremes. -/
def trackPv (t : TuneState) (fresh : Bool) (pv : W64) : TuneState :=
  if fresh then { t with hi := pv, lo := pv }
  else { t with hi := if dLt t.hi pv then pv else t.hi, lo := if dLt pv t.lo then pv else t.lo }

/-- Every second element, the first one kept. -/
def everySecond {α : Type} : List α → List α
  | [] => []
  | [a] => [a]
  | a :: _ :: l => a :: everySecond l

/-- PV and dither of a sample of the measured window, in a store of 4 096 that is halved when it would be exceeded (R319). -/
def keepSample (t : TuneState) (first : Nat) (pv dith : W64) : TuneState :=
  match t.since with
  | some j0 =>
    if t.cycles.length + 1 < first then t
    else
      let i := t.j - j0 + ((t.cycles.drop (first - 1)).map (·.samples)).sum
      let t := if t.kept.length = 4096 ∧ i % t.stride = 0 then
          { t with kept := everySecond t.kept, stride := 2 * t.stride }
        else t
      if i % t.stride = 0 then { t with kept := t.kept ++ [(pv, dith)] } else t
  | none => t

/-- A TUNE sample of Bracket (R319). -/
def State.bracketSample (s : State) (k : Nat) (g : W64) (pv : TWord) : State :=
  let t := s.tuneState k
  let sp := s.effectiveSp k g 5 false none
  let e := s.errorOf k pv.data sp.word.data
  let r := relayStep t e (s.tuneWord k LW.HYST)
  let t := { (if r.2 then switchUp t else t) with up := r.1 }
  let dithered := s.tuneKind k == 3
  let t := if dithered then s.stepPrbs k t else t
  let dith := if dithered then signedBy t.bit (s.tuneWord k LW.DAMP) else 0
  let t := trackPv t (r.2 || t.j == 0) pv.data
  let done := decide (s.tuneCfg k 40 5 ≤ t.cycles.length)
  let t := if dithered && !done then keepSample t (s.firstMeasured k) pv.data dith else t
  let u0 := s.tuneWord k LW.U0
  let uraw := dAdd (dFma (signedBy t.up dOne) (s.tuneWord k LW.AMP) u0) dith
  let c : Calc := { e := e, uraw := uraw, tag := mergeTags [pv.tag, sp.word.tag] }
  let lim := s.limitOf k false uraw
  let s := s.countSample k g (s.sampleCost k true false)
  let s := if dFinite uraw then
      s.finishSample k { mode := 5, pv := pv, sp := sp, ff := s.feedForward k g, outer := false, frozen := false, found := c, lim := lim }
    else s.discardSample k g
  let s := (s.setLf k LW.TUNE_STAT 16 8 t.cycles.length).countTune k { t with last := g } (dSub uraw u0)
  let tmax := s.lf k LW.TMAX 0 32
  if done then s.endTune k 1 true
  else if lim.hi || lim.lo then s.endTune k 8 true
  else if tmax ≠ 0 ∧ tmax ≤ t.j + 1 then s.endTune k 10 true
  else s

/-! ## The sample of a loop (R267, R277) -/

/-- The sample of loop `k` in frame `g`; `fix`: its pending Fix is carried out in it (R300). `plan`: the slots of the loops that enter TUNE. -/
def State.sampleLoop (s : State) (plan : List (Nat × Nat)) (enabled : List Nat) (g : W64) (fix : Bool) (k : Nat) : State :=
  let s := s.touchSources k g
  let pv := s.readSrc g (s.lw k LW.PV_SRC).data
  let inner := s.trackedBy enabled k
  let prev := s.prevMode k
  let cand := if inner.isSome then 3 else s.lf k LW.MODE 16 3
  let sp := s.effectiveSp k g cand (prev == some 2) none
  let sup := s.supervise k g cand pv sp.word.data
  let m := sup.1.resolveMode plan k sup.2 inner.isSome pv
  let f := if fix then m.1.doFix k g else (m.1, false)
  let s := f.1
  let s := if m.2 = 5 then
      (if s.tuneKind k = 1 then s.exposureSample k g prev f.2 pv else s.bracketSample k g pv)
    else (s.computeSample k g m.2 m.2 prev f.2 pv inner none []).1
  s.writeTripMap k

/-! ## Analysis (R319 to R321) -/

/-- What the analysis finds. -/
structure Analysis where
  tu : W64
  ameas : W64
  spread : W64
  ku : W64
deriving DecidableEq, Repr

/-- The mean of values. -/
def meanOf (l : List W64) : W64 := dDiv (l.foldl dAdd 0) (dInt l.length)

/-- TU, AMEAS, SPREAD and KU over the measured cycles (R319). -/
def State.analyse (s : State) (k : Nat) (l : List Cycle) : Analysis :=
  let period := s.samplePeriod k
  let ts := l.map fun c => dMul (dInt c.samples) period
  let tu := meanOf ts
  let a := meanOf (l.map fun c => dDiv (dSub c.hi c.lo) 0x4000000000000000#64)
  let spread := ts.foldl (fun m t => let d := dDiv (dAbs (dSub t tu)) tu; if dLt m d then d else m) 0
  let ku := dDiv (dMul 0x4010000000000000#64 (s.tuneWord k LW.AMP)) (dMul 0x400921FB54442D18#64 a)
  { tu := tu, ameas := a, spread := spread, ku := ku }

/-- KP, TI and TD of rules 0 to 3 (R320). -/
def ruleOf (rule : Nat) (ku tu : W64) : W64 × W64 × W64 :=
  match rule with
  | 0 => (dMul 0x3FDCCCCCCCCCCCCD#64 ku, dDiv tu 0x3FF3333333333333#64, 0)
  | 1 => (dMul 0x3FE3333333333333#64 ku, dDiv tu 0x4000000000000000#64, dDiv tu 0x4020000000000000#64)
  | 2 => (dDiv ku 0x400999999999999A#64, dMul 0x400199999999999A#64 tu, 0)
  | _ => (dDiv ku 0x400199999999999A#64, dMul 0x400199999999999A#64 tu, dDiv tu 0x4019333333333333#64)

/-- Rule 4: KP, TI, GM, and whether it finds a design (R320). -/
def rule4 (ku tu mag phi pm : W64) : W64 × W64 × W64 × Bool :=
  let pi : W64 := 0x400921FB54442D18
  let w1 := dDiv (dMul 0x4000000000000000#64 pi) tu
  let w2 := dDiv pi tu
  let th := dSub (dAdd 0x4066800000000000#64 phi) pm
  let kp := dDiv (cosDeg th) mag
  let ti := dDiv dOne (dMul w2 (tanDeg th))
  let q := dDiv dOne (dMul w1 ti)
  let gm := dDiv ku (dMul kp (dSqrt (dAdd dOne (dMul q q))))
  (kp, ti, gm, dLt 0 th && dLt th 0x4056800000000000#64 && dLe 0x4000000000000000#64 gm)

/-- The proposed section: b0, b1, b2, a1, a2 (R321). -/
def proposal (kp ti td t nfilt : W64) : List W64 :=
  let tf := dDiv td nfilt
  let al := if dEq td 0 then 0 else dDiv tf (dAdd tf t)
  let be := if dEq td 0 then 0 else dDiv td (dAdd tf t)
  let b1 := dSub (dSub (dNeg (dAdd dOne al)) (dDiv (dMul al t) ti)) (dMul 0x4000000000000000#64 be)
  [dMul kp (dAdd (dAdd dOne (dDiv t ti)) be), dMul kp b1, dMul kp (dAdd al be), dNeg (dAdd dOne al), al]

/-- The proposal goes into the STAGING bank beside a copy of the ACTIVE bank, with a Fix where AUTOFIX is 1 (R321). -/
def State.propose (s : State) (k : Nat) (kp ti td : W64) : State :=
  let s := (List.range 40).foldl (fun s i => s.setLw k (LW.STAGING + i) (s.lw k (LW.ACTIVE + i))) s
  let int := s.lf k LW.OPTS 4 4
  let l := proposal kp ti td (s.samplePeriod k) (s.tuneWord k LW.NFILT)
  let s := l.zipIdx.foldl (fun (s : State) e => s.setLv k (LW.STAGING + 5 * int + e.2) e.1) s
  let s := (s.setEvt Reg.BRKT_BRKT_EVT 3).logEvt 0x042 k 0x05 kp
  if s.tuneCfg k 48 1 = 1 then
    let e : LoopWrite := { loop := k, word := LW.FIXCMD, value := { data := 1, tag := 0 }, at_ := s.lfi + 1, master := 0xFF }
    { s with loop := { s.loop with pend := e :: s.loop.pend } }
  else s

/-- The words of the analysis (R313). -/
def State.writeAnalysis (s : State) (k : Nat) (a : Analysis) : State :=
  let s := ((s.setLv k LW.TU a.tu).setLv k LW.AMEAS a.ameas).setLv k LW.KU a.ku
  let phi := dAdd 0xC066800000000000#64 (arcsinDeg (dDiv (s.tuneWord k LW.HYST) a.ameas))
  (s.setLv k LW.PHI1 phi).setLv k LW.SPREAD a.spread

/-- The session's RESULT once a design is sought (R319, R320). -/
def State.designed (s : State) (k : Nat) (a : Analysis) (dft : Option (W64 × W64)) : State :=
  let rule := s.tuneCfg k 49 3
  let mag := (dft.map (·.1)).getD 0
  let phi := (dft.map (·.2)).getD 0
  let s := if s.tuneKind k = 3 then (s.setLv k LW.G2MAG mag).setLv k LW.PHI2 phi else s
  let r4 := rule4 a.ku a.tu mag phi (s.tuneWord k LW.PM)
  let r := if rule = 4 then (r4.1, r4.2.1, (0 : W64)) else ruleOf rule a.ku a.tu
  let s := ((s.setLv k LW.KP r.1).setLv k LW.TI r.2.1).setLv k LW.TD r.2.2
  let s := if rule = 4 then s.setLv k LW.GM r4.2.2.1 else s
  let irregular := dLt 0x3FB999999999999A#64 a.spread
  let none_ := dLe a.ameas (s.tuneWord k LW.HYST) || (s.tuneKind k == 3 && dft.isNone) || s.lf k LW.OPTS 4 4 == 15
    || (rule == 4 && !r4.2.2.2)
  let result := if irregular then 9 else if none_ then 11 else 13
  let s := ((s.setTuneStat k 3 result).releaseSlot k).setTune k none
  if result = 13 then s.propose k r.1 r.2.1 r.2.2 else s.logEvt 0x042 k 0x06 (BitVec.ofNat 64 result)

/-- BRACKET_ANALYSIS: the engine analyses the cycles of a Bracket session (R319 to R321). -/
def execBracketAnalysis (loop : Fin 512) (s : State) : Res :=
  .next <|
    let k := loop.val
    if s.lf k LW.TUNE_STAT 28 4 = 2 then
      let t := s.tuneState k
      let first := s.firstMeasured k
      let l := (t.cycles.take (s.tuneCfg k 40 5)).drop (first - 1)
      let a := s.analyse k l
      let dft := if s.tuneKind k = 3 then
          dftGain t.kept (l.length / 2) (l.map (·.samples)).sum t.stride ((s.lw k LW.OPTS).data.getLsbD 10)
        else none
      (s.writeAnalysis k a).designed k a dft
    else s

end Sys2Proof.Machine
end

