-- ==== Sys2Proof/Machine/LoopEngine.lean ====
section
/-! DEFINITION. The loop engine at a boundary (R259, R266, R273, R299, R303), its stop (R285), and capture (R323 to R327). -/

namespace Sys2Proof.Machine

/-! ## Writes apply (R259, R296) -/

/-- Boundary `a` is not after boundary `g`. -/
def notAfter (a g : W64) : Bool := decide ((g - a).toNat < 2 ^ 63)

/-- A loop is switched off: ACT shows HOLD, its next sample is a first one, and its session ends (R277, R278, R311). -/
def State.loopOff (s : State) (k : Nat) : State :=
  let s := s.setLf k LW.MODE 24 3 4
  if s.tuneRunning k then s.endTune k 2 true else s

/-- One write, or one Fix command, applies at boundary `g` (R259, R288, R299, R313). DEDUCED: log entry 51. -/
def State.applyWrite (g : W64) (s : State) (e : LoopWrite) : State :=
  let k := e.loop
  let v := e.value.data &&& wordMask e.word
  if e.word = LW.FIXCMD then s.applyFix k (e.value.data.toNat % 4) g
  else if e.word = LW.TUNE_CMD then
    if v ≠ 0 ∧ s.tuneRunning k = true then s.setTune k (some { s.tuneState k with stop := true }) else s
  else
    let s := { s with loop := { s.loop with written := insertNew s.loop.written (k * 256 + e.word) } }
    if e.word = LW.SUP_CMD then
      if v = 0 then s else { s with loop := { s.loop with ack := insertNew s.loop.ack k } }
    else s.setLw k e.word (afterWrite e.word (s.lw k e.word) e.value)

/-- A boundary at which writes to the ACTIVE bank applied (R294, R296). -/
def State.countDirect (s : State) (g : W64) (k : Nat) : State :=
  let n := (s.loop.written.filter fun x => decide (k * 256 + LW.ACTIVE ≤ x) && decide (x < k * 256 + LW.STAGING)).length
  if n = 0 then s
  else
    let s := (s.setLf k LW.DW_STAT 32 32 g.toNat).countLf k LW.DW_STAT 0
    (s.countLf k LW.BANK_GEN 0).logEvt 0x040 k 0x28 (BitVec.ofNat 64 n)

/-- Every write that applies at boundary `g` applies (R266, step 1). -/
def State.applyWrites (s : State) (g : W64) : State :=
  let was := s.enabledLoops
  let due := s.loop.pend.filter fun e => !e.waits && notAfter e.at_ g
  let s := { s with loop := { s.loop with
    pend := s.loop.pend.filter (fun e => e.waits || !notAfter e.at_ g), written := [] } }
  let s := due.foldl (State.applyWrite g) s
  let loops := due.foldl (fun l e => insertNew l e.loop) []
  let s := loops.foldl (fun s k => s.countDirect g k) s
  let s := loops.foldl (fun s k => if was.contains k && !s.loopEn k then s.loopOff k else s) s
  s.setFld Reg.LOOP_EN_CNT 0 10 s.enabledLoops.length

/-! ## Configuration (R273) -/

/-- The destination words of a loop. DEDUCED: log entry 112. -/
def State.destWords (s : State) (k : Nat) : List Nat :=
  ([0, 1].filter fun m => (s.lw k (LW.OMAP + 3 * m)).data.getLsbD 63).map fun m => bits64 (s.lw k (LW.OMAP + 3 * m)).data 0 23

/-- A source of a loop lies outside the image or TPM (cause 0x01). -/
def State.sourceBad (s : State) (d : W64) : Bool :=
  match srcKind d with
  | 1 => decide (s.fld Reg.LOOP_IMG_STRIDE 0 23 ≤ bits64 d 0 23)
  | 2 => decide (tpmWords ≤ bits64 d 0 23 + s.fld (Reg.LOOP_TSK_DLTn + 8 * bits64 d 24 5) 0 23)
  | _ => false

/-- The enabled outer loop that SP_SRC names. -/
def State.outerLoop (s : State) (k : Nat) : Option Nat :=
  let d := (s.lw k LW.SP_SRC).data
  if srcKind d = 4 ∧ s.loopEn (bits64 d 0 9) = true then some (bits64 d 0 9) else none

/-- An enabled loop of lower number names the same destination, or the same loop as its SP_SRC (cause 0x07). -/
def State.shares (s : State) (enabled : List Nat) (k : Nat) : Bool :=
  let d := (s.lw k LW.SP_SRC).data
  enabled.any fun j => decide (j < k) &&
    ((s.destWords j).any (fun w => (s.destWords k).contains w)
      || (srcKind d == 4 && srcKind (s.lw j LW.SP_SRC).data == 4 && bits64 (s.lw j LW.SP_SRC).data 0 9 == bits64 d 0 9))

/-- CFG_CAUSE of an enabled loop: the first condition of R273 that fails, 0 where none does. DEDUCED: log entry 42. -/
def State.cfgCause (s : State) (enabled : List Nat) (k : Nat) : Nat :=
  let level := s.levelOf 5 k
  let ratioBad := match s.outerLoop k with
    | some o => s.divOf o % s.divOf k != 0 || decide (256 < s.divOf o / s.divOf k) || s.divOf o / s.divOf k == 0
    | none => false
  let phaseBad := match s.outerLoop k with
    | some o => s.phaseOf o % s.divOf k != s.phaseOf k
    | none => false
  if [LW.PV_SRC, LW.SP_SRC, LW.FF_SRC, LW.TR_SRC].any fun w => s.sourceBad (s.lw k w).data then 1
  else if s.lf k LW.MODE 16 3 = 2 ∧ srcKind (s.lw k LW.SP_SRC).data = 0 then 2
  else if 3 < level ∧ s.leadsTo k 513 (s.loopRefs k) [] = true then 3
  else if 3 < level then 4
  else if ratioBad then 5
  else if phaseBad then 6
  else if s.shares enabled k then 7
  else 0

/-- The check of an enabled loop: CASC, CFG_ERR and its events (R262, R273). DEDUCED: log entry 42. DEDUCED: log entry 49.
DEDUCED: log entry 54. -/
def State.checkLoop (s : State) (enabled : List Nat) (k : Nat) : State :=
  let cause := s.cfgCause enabled k
  let ratio := match s.outerLoop k with
    | some o => s.divOf o / s.divOf k
    | none => 0
  let s := (s.setLf k LW.CASC 16 9 ratio).setLf k LW.CASC 10 2 (min 3 (s.levelOf 5 k))
  let was := s.cfgErr k
  let s := if cause = 0 ∧ was = false then s
    else ((s.setLf k LW.STAT 15 1 (decide (cause ≠ 0)).toNat).setLf k LW.STAT 0 5 cause).setMapBit Reg.LOOP_CFGERRm k (cause != 0)
  if cause ≠ 0 then
    let s := s.loopOff k
    if was then s else (s.setEvt Reg.LOOP_LOOP_EVT 0).logEvt 0x040 k 0x01 (BitVec.ofNat 64 cause)
  else if was then s.logEvt 0x040 k 0x02
  else s

/-! ## The frame (R266, R303) -/

/-- A loop computes a sample in frame `g`. -/
def State.samples (s : State) (g : W64) (k : Nat) : Bool := s.loopEn k && !s.cfgErr k && s.loopDue g k

/-- The loops whose Fix is due at boundary `g`, in ascending order: those with a sample in the frame, and those that have none at all (R299). -/
def State.fixesDue (s : State) (g : W64) (running : Bool) : List Nat :=
  (List.range 512).filter fun k => s.fixPending k && ((running && s.samples g k) || !s.loopEn k || s.cfgErr k)

/-- The sum of the costs and the number of levels of a frame's samples, in the bound of R284 on the time of the last commit.
DEDUCED: log entry 43. -/
def State.frameBound (s : State) (due : List Nat) : Nat :=
  let cost := (due.map fun k => s.lf k LW.EXEC 0 16).sum
  let levels := ((List.range 4).filter fun l => due.any fun k => s.lf k LW.CASC 10 2 == l).length
  600 + (cost + 3) / 4 + 122 * levels

/-- LD_LAST and LD_PEAK: the time taken is the engine's own, at most R284's bound: a free value. -/
def State.frameLoad (s : State) (due : List Nat) : State :=
  if due = [] then s
  else
    let t := s.freeVal.toNat % (s.frameBound due + 1)
    let s := s.drawn.setFld Reg.LOOP_LD_LAST 0 16 t
    s.setFld Reg.LOOP_LD_PEAK 0 16 (max t (s.fld Reg.LOOP_LD_PEAK 0 16))

/-- The loops that hold a word of a session. -/
def State.sessionLoops (s : State) : List Nat := (s.loop.words.filter fun e => e.1 % 256 == LW.TUNE_STAT).map (·.1 / 256)

/-- While BRKT.CTRL.EN is 0 every session ends at the boundary; so does one whose measurements a reset of BRKT has lost (R311, R329). -/
def State.endSessions (s : State) : State :=
  if s.flag (rk 0x042 Reg.CTRL) 0 then s
  else s.sessionLoops.foldl (fun s k =>
    if s.tuneRunning k then s.endTune k 2 true
    else if s.tuning k && (sget (dflt none) s.loop.tune k).isNone then s.endTune k 2 false else s) s

/-- The samples of a frame, by level and number (R266, R274). -/
def State.sampleAll (s : State) (plan : List (Nat × Nat)) (enabled due fixes : List Nat) (g : W64) : State :=
  let ordered := (List.range 4).flatMap fun l => due.filter fun k => s.lf k LW.CASC 10 2 == l
  ordered.foldl (fun s k => s.sampleLoop plan enabled g (fixes.contains k) k) s

/-- The slots of the loops that enter TUNE in a frame: the free ones, lowest first, in ascending loop number. Which loops enter where several
may is what the frame shows with a slot for each (R310). -/
def State.slotPlan (s : State) (enabled due fixes : List Nat) (g : W64) : List (Nat × Nat) :=
  let l := due.filter fun k => s.lf k LW.MODE 16 3 == 5 && !s.tuneRunning k
  let l := if l.length < 2 then l
    else
      let t := { s with loop := { s.loop with entered := [] } }.sampleAll (l.map fun k => (k, 0)) enabled due fixes g
      l.filter t.loop.entered.contains
  l.zip s.freeSlots

/-- The engine's work at boundary `g` (R266). -/
def State.loopFrame (s : State) (g : W64) : State :=
  if s.domState 6 ≠ 2 ∨ s.flag (rk 0x040 Reg.CTRL) 1 = true then s
  else
    let s := (s.applyWrites g).endSessions
    let enabled := s.enabledLoops
    let s := enabled.foldl (fun s k => s.checkLoop enabled k) s
    let running := s.flag (rk 0x040 Reg.CTRL) 0
    let fixes := s.fixesDue g running
    let now := fixes.take 64
    let s := (fixes.drop 64).foldl (fun s k => s.deferFix g k) s
    let due := if running then enabled.filter (s.samples g) else []
    let s := (now.filter fun k => !due.contains k).foldl (fun s k => (s.doFix k g).1) s
    let s := s.sampleAll (s.slotPlan enabled due now g) enabled due now g
    s.frameLoad due

/-! ## The stop of the engine (R285) and of Bracket (R311) -/

/-- Every destination word takes Q BAD, cause 7, its value, F and S kept. -/
def State.markDests (s : State) (k : Nat) : State :=
  (s.destWords k).foldl (fun s w => let v := s.tpmAt w; s.setTpmData w v.data (badTag 7 v.tag)) s

/-- LOOP.CTRL.EN rises or falls (R278, R285). DEDUCED: log entry 49. -/
def State.loopEnable (on : Bool) (s : State) : State :=
  if on then { s with loop := { s.loop with fresh := List.range 512 } }
  else ((List.range 512).foldl State.markDests s).logEvt 0x040 0xFFF 0x06 s.lfi

/-- LOOP_ENGINE_STOP: a write of LOOP.CTRL (R285). -/
def execLoopEngineStop (w : Writer) (value : W32) (s : State) : Res :=
  .next (s.access w 0x040 Reg.CTRL value fun s => s.writeCtrl w 0x040 value State.loopEnable)

/-! ## Capture (R323 to R327) -/

/-- The key of a register of session `n`. -/
def capKey (r n : Nat) : Nat := r + 0x80 * n

/-- STATE of a session: 0 IDLE, 1 ARMED, 2 TRIGGERED, 3 DONE, 4 REFUSED. -/
def State.capState (s : State) (n : Nat) : Nat := s.fld (capKey Reg.CAPT_SCTRL n) 25 3

/-- A session takes a state; CAPT_BUSY follows. -/
def State.setCapState (s : State) (n st : Nat) : State :=
  (s.setFld (capKey Reg.CAPT_SCTRL n) 25 3 st).setFlag Reg.CAPT_CAPT_BUSY n (st == 1 || st == 2)

/-- NSIG of a session, the bytes of a record and the capacity of its region (R325). -/
def State.capNsig (s : State) (n : Nat) : Nat := s.fld (capKey Reg.CAPT_SCTRL n) 0 4
def State.capSize (s : State) (n : Nat) : Nat := 16 + 8 * s.capNsig n
def State.capRecords (s : State) (n : Nat) : Nat := s.fld (capKey Reg.CAPT_LEN n) 0 14 * 4096 / s.capSize n

/-- A signal of a session cannot be recorded (R324). -/
def State.signalBad (s : State) (n k : Nat) : Bool :=
  let v := s.reg (capKey Reg.CAPT_SIGk n + 4 * k)
  match fieldOf v 30 2 with
  | 3 => true
  | 2 => decide (s.fld Reg.LOOP_IMG_STRIDE 0 23 ≤ fieldOf v 0 23)
  | _ => false

/-- The regions of two sessions overlap. -/
def State.capOverlap (s : State) (n m : Nat) : Bool :=
  let a := s.fld (capKey Reg.CAPT_BASE n) 0 13
  let b := s.fld (capKey Reg.CAPT_BASE m) 0 13
  decide (a < b + s.fld (capKey Reg.CAPT_LEN m) 0 14) && decide (b < a + s.fld (capKey Reg.CAPT_LEN n) 0 14)

/-- WHY an arm is refused, 0 where it is not (R324). -/
def State.armRefusal (s : State) (n : Nat) : Nat :=
  let busy := fun m => s.capState m == 1 || s.capState m == 2
  let nsig := s.capNsig n
  let pages := s.fld (capKey Reg.CAPT_LEN n) 0 14
  if nsig = 0 ∨ 8 < nsig ∨ (List.range nsig).any (s.signalBad n) = true then 1
  else if pages = 0 ∨ 8192 < s.fld (capKey Reg.CAPT_BASE n) 0 13 + pages then 2
  else if (List.range 16).any (fun m => m != n && busy m && s.capOverlap n m) then 3
  else if s.capRecords n ≤ (s.reg (capKey Reg.CAPT_PRE n)).toNat then 4
  else if busy n then 5
  else 0

/-- What a session counts starts again. -/
def State.clearCapture (s : State) (n : Nat) : State :=
  let s := ((s.setReg (capKey Reg.CAPT_COUNT n) 0).setReg (capKey Reg.CAPT_TRIGPOS n) 0).setReg (capKey Reg.CAPT_FIRST n) 0
  { s with loop := { s.loop with
    capPoint := sset (dflt 0) s.loop.capPoint n 0
    capPrev := sset (dflt none) s.loop.capPrev n none
    capLeft := sset (dflt 0) s.loop.capLeft n 0
    capPlace := sset (dflt 0) s.loop.capPlace n 0
    capSoft := s.loop.capSoft.filter fun m => m != n } }

/-- An arm command (R324). -/
def State.armCapture (s : State) (n : Nat) : State :=
  match s.armRefusal n with
  | 0 => (((s.setCapState n 1).setFld (capKey Reg.CAPT_SCTRL n) 16 5 0).clearCapture n).logEvt 0x041 n 0x01
  | why => ((s.setCapState n 4).setFld (capKey Reg.CAPT_SCTRL n) 16 5 why).logEvt 0x041 n 0x04 (BitVec.ofNat 64 why)

/-- A stop command (R326). -/
def State.stopCapture (s : State) (n : Nat) : State :=
  let count := (s.reg (capKey Reg.CAPT_COUNT n)).setWidth 64
  match s.capState n with
  | 1 => (s.setCapState n 0).logEvt 0x041 n 0x05 count
  | 2 => ((s.setCapState n 3).setEvt Reg.CAPT_CAPT_EVT (16 + n)).logEvt 0x041 n 0x05 count
  | _ => s

/-- A software trigger command (R326). -/
def State.softCapture (s : State) (n : Nat) : State :=
  if s.capState n = 1 then { s with loop := { s.loop with capSoft := insertNew s.loop.capSoft n } } else s

/-- A write of SCTRL of session `n` (R323). -/
def State.writeSctrl (s : State) (n : Nat) (v : W32) : State :=
  let s := (s.setFld (capKey Reg.CAPT_SCTRL n) 0 4 (fieldOf v 0 4)).countWrite 0x041
  match fieldOf v 30 2 with
  | 1 => s.armCapture n
  | 2 => s.stopCapture n
  | 3 => s.softCapture n
  | _ => s

/-- A write of SCTRL with a CMD as it arrives. -/
def State.sctrlAccess (s : State) (w : Writer) (n : Fin 16) (cmd : Nat) (nsig : BitVec 4) : State :=
  let v := BitVec.ofNat 32 (cmd * 2 ^ 30 + nsig.toNat)
  s.access w 0x041 (0x200 + 0x80 * n.val) v fun s => s.writeSctrl n.val v

/-- CAPTURE_ARM (R324). -/
def execCaptureArm (w : Writer) (session : Fin 16) (nsig : BitVec 4) (s : State) : Res := .next (s.sctrlAccess w session 1 nsig)

/-- CAPTURE_STOP (R326). -/
def execCaptureStop (w : Writer) (session : Fin 16) (nsig : BitVec 4) (s : State) : Res := .next (s.sctrlAccess w session 2 nsig)

/-- CAPTURE_SOFTWARE_TRIGGER (R326). -/
def execCaptureSoftwareTrigger (w : Writer) (session : Fin 16) (nsig : BitVec 4) (s : State) : Res :=
  .next (s.sctrlAccess w session 3 nsig)

/-- The value and tag of signal `k` of session `n` (R323, R325). -/
def State.capSignal (s : State) (n k : Nat) : TWord :=
  let v := s.reg (capKey Reg.CAPT_SIGk n + 4 * k)
  match fieldOf v 30 2 with
  | 0 => s.lw (fieldOf v 8 9) (fieldOf v 0 8)
  | 1 => s.tpmAt (fieldOf v 0 23)
  | _ => s.tpmAt (s.frameBuffer (s.lfi - 1) + fieldOf v 0 23)

/-- The read of a signal treats the check errors of the TPM word that it meets (R176). -/
def State.touchSignal (s : State) (n k : Nat) : State :=
  let v := s.reg (capKey Reg.CAPT_SIGk n + 4 * k)
  match fieldOf v 30 2 with
  | 1 => s.tpmTouched (fieldOf v 0 23)
  | 2 => s.tpmTouched (s.frameBuffer (s.lfi - 1) + fieldOf v 0 23)
  | _ => s

/-- The trigger condition of an armed session at a capture point (R326). -/
def State.capTriggers (s : State) (n : Nat) : Bool :=
  let kind := s.fld (capKey Reg.CAPT_TRIG n) 29 3
  let now := s.capSignal n (s.fld (capKey Reg.CAPT_TRIG n) 16 3)
  let level := s.reg64 (capKey Reg.CAPT_TLVL_LO n)
  let edge := fun (up : Bool) => match sget (dflt none) s.loop.capPrev n with
    | some old => decide (tagQ old.tag < 2) && decide (tagQ now.tag < 2) &&
      (if up then dLt old.data level && dLe level now.data else dLt level old.data && dLe now.data level)
    | none => false
  s.loop.capSoft.contains n || kind == 0 || ((kind == 1 || kind == 3) && edge true) || ((kind == 2 || kind == 3) && edge false)

/-- A session writes a record (R325). DEDUCED: log entry 54. -/
def State.capWrite (s : State) (n : Nat) : State :=
  let c := s.capRecords n
  let count := (s.reg (capKey Reg.CAPT_COUNT n)).toNat
  let place := sget (dflt 0) s.loop.capPlace n
  let a := s.fld (capKey Reg.CAPT_BASE n) 0 13 * 0x1000 + place * s.capSize n
  let sigs := (List.range (s.capNsig n)).map (s.capSignal n)
  let tags := sigs.zipIdx.foldl (fun t e => t + e.1.tag.toNat * 256 ^ e.2) 0
  let s := (s.setCap a 8 s.lfi.toNat).setCap (a + 8) 8 tags
  let s := sigs.zipIdx.foldl (fun s e => s.setCap (a + 16 + 8 * e.2) 8 e.1.data.toNat) s
  let s := s.setReg (capKey Reg.CAPT_COUNT n) (BitVec.ofNat 32 (min (count + 1) 0xFFFFFFFF))
  let s := { s with loop := { s.loop with capPlace := sset (dflt 0) s.loop.capPlace n ((place + 1) % c) } }
  s.setReg (capKey Reg.CAPT_FIRST n) (BitVec.ofNat 32 (if count + 1 ≤ c then 0 else (place + 1) % c))

/-- A session reaches DONE where it has no record left to write (R326). -/
def State.capFinish (s : State) (n : Nat) : State :=
  if sget (dflt 0) s.loop.capLeft n = 0 then
    ((s.setCapState n 3).setEvt Reg.CAPT_CAPT_EVT (16 + n)).logEvt 0x041 n 0x03 ((s.reg (capKey Reg.CAPT_COUNT n)).setWidth 64)
  else s

/-- A recorded capture point of session `n` (R325, R326). -/
def State.capRecord (s : State) (n : Nat) : State :=
  let s := (List.range (s.capNsig n)).foldl (fun (s : State) k => s.touchSignal n k) s
  let pos := sget (dflt 0) s.loop.capPlace n
  let fires := s.capState n == 1 && s.capTriggers n
  let now := s.capSignal n (s.fld (capKey Reg.CAPT_TRIG n) 16 3)
  let s := s.capWrite n
  let s := { s with loop := { s.loop with capPrev := sset (dflt none) s.loop.capPrev n (some now) } }
  if fires then
    let left := s.capRecords n - (s.reg (capKey Reg.CAPT_PRE n)).toNat - 1
    let s := (s.setCapState n 2).setReg (capKey Reg.CAPT_TRIGPOS n) (BitVec.ofNat 32 pos)
    let s := { s with loop := { s.loop with
      capLeft := sset (dflt 0) s.loop.capLeft n left, capSoft := s.loop.capSoft.filter fun m => m != n } }
    ((s.setEvt Reg.CAPT_CAPT_EVT n).logEvt 0x041 n 0x02 s.lfi).capFinish n
  else if s.capState n = 2 then
    ({ s with loop := { s.loop with capLeft := sset (dflt 0) s.loop.capLeft n (sget (dflt 0) s.loop.capLeft n - 1) } }).capFinish n
  else s

/-- Session `n` in a frame: its capture points, thinned (R325). -/
def State.capFrame (s : State) (n : Nat) : State :=
  let clk := s.reg (capKey Reg.CAPT_SCLK n)
  let point := !clk.getLsbD 31 ||
    ((s.lw (fieldOf clk 0 9) LW.LAST_FRAME).data == s.lfi && s.samples s.lfi (fieldOf clk 0 9))
  if (s.capState n = 1 ∨ s.capState n = 2) ∧ point = true then
    let i := sget (dflt 0) s.loop.capPoint n
    let s := { s with loop := { s.loop with capPoint := sset (dflt 0) s.loop.capPoint n (i + 1) } }
    if i % (fieldOf clk 9 16 + 1) = 0 then s.capRecord n else s
  else s

/-- CAPTURE_RECORD: after the samples of the frame are committed every session works (R325). -/
def execCaptureRecord (s : State) : Res :=
  .next <|
    if s.domState 7 = 2 ∧ s.flag (rk 0x041 Reg.CTRL) 0 = true then (List.range 16).foldl State.capFrame s else s

end Sys2Proof.Machine
end

