-- ==== Sys2Proof/Machine/PairStop.lean ====
section
/-! DEFINITION. How tasks and loops stop, how twin sync ends, and how start-up and re-integration begin anew (R247, R451, R452, R466, R472,
R475 to R478). -/

namespace Sys2Proof.Machine

/-- The tasks stop, with their state kept: a core that runs one is in the runtime again (R451, R472, R478). -/
def State.stopTasks (s : State) : State :=
  let s := [0, 1, 2, 3].foldl (fun (s : State) c => if (sget (dflt none) s.boot.onCore c).isSome then s.toRuntime c else s) s
  { s with boot := { s.boot with running := false, starting := false, onCore := [], slice := [] } }

/-- The runtime stops the loops: EN of LOOP.CTRL falls (R247, R285, R472). DEDUCED: log entry 138. -/
def State.stopLoops (s : State) : State :=
  if s.isolated 0x040 || !s.flag (rk 0x040 Reg.CTRL) 0 then s
  else ((s.setFlag (rk 0x040 Reg.CTRL) 0 false).setFlag (rk 0x040 Reg.STAT) 0 false).loopEnable false

/-- Tasks and loops stop, with their state kept (R451, R472, R478). -/
def State.stopRunning (s : State) : State := s.stopTasks.stopLoops

/-- A module starts to join: SYNCING, tasks and loops stopped, the first step Check, unless three joins have failed (R475, R476). -/
def State.startJoin (s : State) : State :=
  let s := (s.stopRunning).setRole 4
  let s := { s with pair := { s.pair with
    nextRole := some 1, ready := false, sched := none, proofRun := 0, inTol := 0, aligned := false, joinRing := [] } }
  if s.fld Reg.TWIN_SYNC 24 2 = 3 then s.setStep 0 else (s.setStep 1).logTwin 0x06

/-- Twin sync ends for a reason of R480: a STANDBY module drops to claim role 1 in its next burst and re-integrates from
SYNCING; an ACTIVE module carries on alone until its peer has joined anew (R248, R452). -/
def State.endTwinSync (s : State) (reason : Nat) : State :=
  if s.twinSync then
    let s := (s.setFlag Reg.TWIN_SYNC 27 false).logTwin 0x04 (BitVec.ofNat 64 reason)
    let s := { s with pair := { s.pair with sched := none, ready := false, lockLost := s.role == 2 } }
    if s.role = 3 then s.startJoin else s.setStep 0
  else s

/-- A join that a lane fault cuts restarts from Align (R477). -/
def State.restartAlign (s : State) : State :=
  if s.role = 4 ∧ 1 ≤ s.joinStep ∧ s.joinStep ≤ 7 then
    let s := s.stopRunning.setStep 2
    { s with pair := { s.pair with proofRun := 0, inTol := 0, aligned := false, joinRing := [] } }
  else s

/-- Start-up runs again from RUNTIME_INIT: neither the role nor the restart kind is decided, the claim is not raised, and the peer's order
code is compared anew (R18, R129, R137, R466, R472). -/
def State.restartFromInit (s : State) : State :=
  let s := ((s.stopRunning.setStep 0).setFlag Reg.TWIN_SYNC 27 false).setFld Reg.SYS_BOOT_STAT 26 6 8
  let s := (s.setClaimRole 0).setRole 0
  { s with
    boot := { s.boot with raised := false, tasks := [], shut := .none, peerWait := false }
    pair := { s.pair with
      otherOrder := false, sched := none, ready := false, verdict := false, withdraw := false, withdrawn := false, nextRole := none
      aligned := false, joinRing := [] } }

end Sys2Proof.Machine
end

