-- ==== Sys2Proof/Machine/Tasks.lean ====
section
/-! DEFINITION. Tasks (spec/09): descriptors, dispatch, triggers, the start of a cycle and its commit, overruns and their
reactions, restarts. -/

namespace Sys2Proof.Machine

/-! ## Descriptors and states -/

/-- The descriptor of a task; an unused one where the image has none (R227). -/
def State.desc (s : State) (t : Nat) : TaskDesc :=
  match s.boot.image with
  | some i => ((i.tasks.find? fun e => e.1 == t).map (·.2)).getD {}
  | none => {}

/-- What a task holds. -/
def State.task (s : State) (t : Nat) : TaskState := sget (dflt {}) s.boot.tasks t

/-- Store what a task holds. -/
def State.setTask (s : State) (t : Nat) (x : TaskState) : State :=
  { s with boot := { s.boot with tasks := sset (dflt {}) s.boot.tasks t x } }

/-- The task that runs on a core. -/
def State.running (s : State) (c : Nat) : Option Nat := sget (dflt none) s.boot.onCore c

/-- Make a task, or none, the one that runs on a core. -/
def State.setRunning (s : State) (c : Nat) (t : Option Nat) : State :=
  { s with boot := { s.boot with onCore := sset (dflt none) s.boot.onCore c t } }

/-- The non-holder of a pair in twin sync, or one that joins and has aligned: it takes the holder's choices (R460). -/
def State.follower (s : State) : Bool := (s.twinSync && s.role == 3) || (s.role == 4 && decide (3 ≤ s.joinStep))

/-- The TPM word at which bank `b` of a task's blocks begins (R236). -/
def blockWord (d : TaskDesc) (b : Nat) : Nat := if b = 0 then d.block0 else d.block1

/-- The address of a TPM word (R140). -/
def tpmAddr (w : Nat) : W64 := BitVec.ofNat 64 (0x100000000 + 8 * w)

/-- CYCLE as the block of the task's cycle shows it (R236): cycles started before it. DEDUCED: log entry 139. -/
def TaskState.shownCycle (x : TaskState) : W64 := if x.started then x.cycle - 1 else x.cycle

/-- DATA of a task event (R253). -/
def State.taskData (s : State) (t : Nat) : W64 :=
  BitVec.ofNat 64 (((s.task t).relFrame.toNat % 2 ^ 32) * 2 ^ 32 + (s.task t).shownCycle.toNat % 2 ^ 32)

/-! ## Dispatch (R230, R231) -/

/-- Task `a` goes before task `b` in dispatch: by PRIO, then the earlier release, then the lower number. -/
def State.before (s : State) (a b : Nat) : Bool :=
  let pa := (s.desc a).prio
  let pb := (s.desc b).prio
  if pa = pb then
    let ra := (s.task a).relFrame.toNat
    let rb := (s.task b).relFrame.toNat
    if ra = rb then decide (a < b) else decide (ra < rb)
  else decide (pb < pa)

/-- The CYCLIC or EVENT task that core `c` is to run (R230); a task that waits for the joining module is not ready (R475). -/
def State.bestTask (s : State) (c : Nat) : Option Nat :=
  (List.range 32).foldl (fun best t =>
    let d := s.desc t
    let x := s.task t
    if d.core.val = c ∧ x.active = true ∧ (d.cls = .cyclic ∨ d.cls = .event) ∧ (x.started = true ∨ x.joining = false) then
      match best with
      | none => some t
      | some b => if s.before t b then some t else some b
    else best) none

/-- The BACKGROUND tasks of a core in order (R230). -/
def State.backgrounds (s : State) (c : Nat) : List Nat :=
  (List.range 32).filter fun t => (s.desc t).cls == .background && (s.desc t).core.val == c

/-- The task that core `c` is to run now (R230). -/
def State.nextTask (s : State) (c : Nat) : Option Nat :=
  match s.bestTask c with
  | some t => some t
  | none =>
    match sget (dflt none) s.boot.slice c with
    | some t => some t
    | none => (s.backgrounds c).head?

/-- The running task of a core is preempted: its registers and budget are kept (R230, R231). -/
def State.preempt (s : State) (c t : Nat) : State :=
  let x := s.core c
  let s := s.setTask t { s.task t with
    savedBudget := (s.reg (coreKey c 0x140)).toNat, savedG := x.g, savedPc := x.pc }
  s.setReg (coreKey c 0x140) 0

/-- A preempted task resumes where it stopped (R230, R231). -/
def State.resume (s : State) (c t : Nat) : State :=
  let x := s.task t
  let s := s.setCore c { s.core c with g := x.savedG, pc := x.savedPc }
  if (s.desc t).cls = .background then s else s.setReg (coreKey c 0x140) (BitVec.ofNat 32 x.savedBudget)

/-- Core `c` runs the task that R230 gives it: one whose cycle has started where it stopped, another one after the runtime's copies. -/
def State.dispatch (s : State) (c : Nat) : State :=
  let cur := s.running c
  let next := s.nextTask c
  if cur = next ∨ s.boot.running = false then s
  else
    let s := match cur with
      | some t => if (s.task t).started then s.preempt c t else s
      | none => s
    let s := s.setRunning c next
    match next with
    | some t => if (s.task t).started then s.resume c t else s.toRuntime c
    | none => s.toRuntime c

/-- Every core dispatches. -/
def State.dispatchAll (s : State) : State := [0, 1, 2, 3].foldl State.dispatch s

/-! ## Triggers (R232, R233) -/

/-- A trigger for task `t`: the status of service TRIGGER, 0 queued, 1 full, 2 not an EVENT task or stopped; and the state
after it. The non-holder of a pair queues only the holder's entries. -/
def State.queueTrigger (s : State) (t kind : Nat) (id : W32) (ots : W64) : Nat × State :=
  let d := s.desc t
  let x := s.task t
  if d.cls ≠ .event ∨ x.stopped = true then (2, s)
  else if s.follower then (0, s)
  else if x.queue.length < d.qdepth then
    (0, s.setTask t { x with queue := x.queue ++ [{ kind := kind, id := id, ots := ots, frame := (s.lfi + 1).toNat }] })
  else
    let data := (s.taskData t &&& 0x00FFFFFFFFFFFFFF) ||| BitVec.ofNat 64 (kind % 256 * 2 ^ 56)
    (1, (s.setTask t { x with ovrTotal := x.ovrTotal + 1 }).logEvt 0x000 t 0x66 data)

/-- A source of triggers is one of a task's: the channel, object or ring that it names, or any snapshot of Contact Sheet (R232). -/
def triggeredBy (d : TaskDesc) (kind id : Nat) : Bool :=
  if kind = 2 then d.triggers.any fun e => e.1 == 2 else d.triggers.contains (kind, id)

/-- A source of triggers fires: every EVENT task that names it gets an entry (R232). -/
def State.fireTriggers (s : State) (kind : Nat) (id : W32) (ots : W64) : State :=
  if s.boot.running then
    (List.range 32).foldl (fun s t =>
      if triggeredBy (s.desc t) kind id.toNat then (s.queueTrigger t kind id ots).2 else s) s
  else s

/-- TRIGGER: the service of SVC code 0x0020 (R233). -/
def execTrigger (c : CoreId) (s : State) : Res :=
  .next <|
    let t := (s.greg c.val 4).data.toNat % 32
    let caller := BitVec.ofNat 32 ((s.running c.val).getD 0)
    let r := s.queueTrigger t 5 caller 0
    r.2.setGreg c.val 4 { data := BitVec.ofNat 64 r.1, tag := 0 }

/-! ## The start of a cycle (R235, R236, R243) -/

/-- STATUS of the block header (R236). -/
def TaskState.status (x : TaskState) : W64 :=
  BitVec.ofNat 64 (min x.ovrTotal 0xFFFFFFFF * 2 ^ 32 + min x.ovrConsec 0xFF * 2 ^ 8 + x.skipHdr.toNat * 8 + x.kind % 4 * 2
    + x.first.toNat)

/-- TRIG of the block header (R236). -/
def TaskState.trigWord (x : TaskState) : W64 :=
  match x.trig with
  | some e => BitVec.ofNat 64 (e.kind % 256 * 2 ^ 56 + e.id.toNat)
  | none => 0

/-- Copy words of TPM, values and tags. -/
def State.copyTpm (s : State) (src dst : Nat) : State := s.setTpm dst (s.tpmAt src)

/-- The snapshot and the output area are copied into the working block (R235). -/
def State.startCopies (s : State) (d : TaskDesc) (b : Nat) (gi : W64) : State :=
  let tb := blockWord d b
  let fb := s.frameBuffer gi
  let s := d.inList.foldl (fun s e => s.copyTpm (fb + e.1) (tb + e.2)) s
  (List.range d.outLen).foldl (fun s i => s.copyTpm (blockWord d (1 - b) + d.outOff + i) (tb + d.outOff + i)) s

/-- The header of the working block, with tag 0x00 (R236). -/
def State.writeHeader (s : State) (tb : Nat) (h : List W64) : State :=
  (h.foldl (fun (p : State × Nat) v => (p.1.setTpmData p.2 v 0, p.2 + 1)) (s, tb)).1

/-- 8 bytes go to the stack in program memory (R211, R227). -/
def State.pushWord (s : State) (a v : W64) : State :=
  if 0x200000000 ≤ a.toNat ∧ a.toNat < 0x240000000 then s.setPm (a.toNat - 0x200000000) 8 v.toNat else s

/-- The runtime calls the next function block of a cycle's list with an FCALL: LK and IB go to the stack, IB takes the instance address with
tag 0x00, LK the return into the runtime (R211, R235, R241). DEDUCED: log entry 137. -/
def State.callNext (s : State) (t : Nat) : State :=
  let d := s.desc t
  let x := s.task t
  match d.fbList[x.calls]? with
  | none => s
  | some call =>
    let c := d.core.val
    let sp := s.greg c 31
    let s := (s.pushWord (sp.data - 16) (s.greg c 30).data).pushWord (sp.data - 8) (s.greg c 28).data
    let s := (s.setGreg c 31 { sp with data := sp.data - 16 }).setGreg c 28 { data := call.2, tag := 0 }
    let s := s.setGreg c 30 { data := runtimeAddr, tag := 0 }
    (s.setCore c { s.core c with pc := call.1 }).setTask t { x with calls := x.calls + 1 }

/-- Core `c` stands in the runtime, where its calls return to. -/
def State.inRuntime (s : State) (c : Nat) : Bool := (s.core c).pc == runtimeAddr

/-- The start of a cycle of task `t` with its snapshot frame and task time: TB, SP, the budget and the first function block (R235, R236,
R241, R243). -/
def State.startCycle (s : State) (t : Nat) (snap tt : W64) : State :=
  let d := s.desc t
  let x := s.task t
  let b := 1 - x.published
  let tb := blockWord d b
  let dt := if x.first then 0 else tt - x.prevTT
  let ots := (x.trig.map (·.ots)).getD 0
  let s := s.startCopies d b snap
  let s := s.writeHeader tb [tt, dt, x.relFrame, snap, x.cycle, x.status, x.trigWord, ots]
  let s := s.setTask t { x with
    started := true, working := b, prevTT := tt, cycle := x.cycle + 1, kind := 0, first := false, calls := 0, holderStart := none }
  let c := d.core.val
  let s := if d.cls = .background then s else s.setReg (coreKey c 0x140) (BitVec.ofNat 32 d.budget)
  ((s.setGreg c 29 { data := tpmAddr tb, tag := 0 }).setGreg c 31 { data := d.stackTop, tag := 0 }).callNext t

/-- TASK_CYCLE_START: a task that its core runs starts its cycle, and each time a function block of it returns the runtime calls the next. The
non-holder waits for the holder's SNAP_FRAME and TT, which stand also where it has become the holder since (R235, R250). -/
def execTaskCycleStart (task : Fin 32) (s : State) : Res :=
  .next <|
    let t := task.val
    let d := s.desc t
    let x := s.task t
    if s.boot.running = false ∨ s.running d.core.val ≠ some t then s
    else if x.started then (if s.inRuntime d.core.val then s.callNext t else s)
    else match x.holderStart with
      | some h => s.startCycle t h.1 h.2
      | none => if s.follower && d.cls != .background then s else s.startCycle t (s.lfi - 1) (s.time.ltb + s.boot.ttBase)

/-! ## Commit (R237 to R240) -/

/-- A select word (R237). -/
def selectWord (apply : W32) (new old : Nat) : W64 :=
  BitVec.ofNat 64 (apply.toNat * 2 ^ 32 + new % 2 * 2 + old % 2)

/-- APPLY of a commit stored now: the next boundary if it is at least 2 µs away, else the one after it (R239). -/
def State.applyNow (s : State) : W32 := (s.boundaryAfter 500).setWidth 32

/-- The cycle of a task is over: it is inactive, its core in the runtime, which dispatches (R239, R246). -/
def State.endCycle (s : State) (t : Nat) : State :=
  let c := (s.desc t).core.val
  let x := s.task t
  let s := s.setTask t { x with
    active := false, started := false, overran := false, lateAt := none, calls := 0, trig := none
    savedBudget := 0, savedG := [], savedPc := 0 }
  if s.running c = some t then ((s.toRuntime c).setRunning c none).dispatch c else s

/-- A commit with a given APPLY (R239). -/
def State.commitTask (s : State) (t : Nat) (apply : W32) : State :=
  let d := s.desc t
  let x := s.task t
  let s := s.setTpmData d.select (selectWord apply x.working x.published) 0
  let s := s.setTask t { x with ovrConsec := 0, committed := true, holderApply := none }
  s.endCycle t

/-- The last function block of a task's cycle has returned (R239). -/
def State.cycleDone (s : State) (t : Nat) : Bool :=
  let d := s.desc t
  let x := s.task t
  s.boot.running && s.running d.core.val == some t && x.started && decide (d.fbList.length ≤ x.calls) && s.inRuntime d.core.val

/-- The commit of a task after the last function block of the cycle (R239, R240, R248): with the holder's APPLY where it has come, also once
the module has become the holder (R250). A BACKGROUND task commits nothing and begins its list again. -/
def State.taskCommit (s : State) (t : Nat) : State :=
  let d := s.desc t
  let x := s.task t
  if s.cycleDone t = false then s
  else if d.cls = .background then s.setTask t { x with started := false }
  else if s.follower then
    match x.holderApply with
    | some a =>
      let late := !decide ((a - s.applyNow).toNat < 2 ^ 31)
      let s := if late then s.logEvt 0x000 t 0x69 (s.taskData t) else s
      let s := s.commitTask t a
      if late then s.endTwinSync 3
      else if x.overran || x.lateAt.isSome then s.endTwinSync 2 else s
    | none => s
  else s.commitTask t (x.holderApply.getD s.applyNow)

/-! ## Overruns (R245 to R248) -/

/-- The published values of a stopped task, once more, each with Q BAD and cause 7, F and S kept, L 0 (R246). -/
def State.publishBad (s : State) (t : Nat) : State :=
  let d := s.desc t
  let x := s.task t
  let b := 1 - x.published
  let s := (List.range d.outLen).foldl (fun s i =>
    let v := s.tpmAt (blockWord d x.published + d.outOff + i)
    s.setTpmData (blockWord d b + d.outOff + i) v.data (mkTag 2 7 ||| (v.tag &&& 0x06))) s
  s.setTpmData d.select (selectWord s.applyNow b x.published) 0

/-- STOP_TASK (R246). -/
def State.stopTask (s : State) (t : Nat) : State :=
  let s := s.logEvt 0x000 t 0x64 (s.taskData t)
  let s := (s.setTask t { s.task t with stopped := true, skipped := false }).endCycle t
  s.publishBad t

/-- Every task and loop stops, the claim is lowered to role 0, and the module is in STOP (R121, R247). -/
def State.enterStop (s : State) : State :=
  let s := s.stopRunning
  let s := { s with boot := { s.boot with raised := false, tasks := [] } }
  ((s.setClaimRole 0).setRole 5).setFld Reg.SYS_BOOT_STAT 28 4 6

/-- STATION_FAULT (R247): after the switch-over that is planned here the module re-integrates. Where none comes about it stops.
DEDUCED: log entry 23. -/
def State.stationFault (s : State) (t : Nat) : State :=
  let s := s.logEvt 0x000 t 0x65 (s.taskData t)
  if s.peerReady then
    let s := (s.endCycle t).planSwitch
    match s.pair.sched with
    | some e => { s with pair := { s.pair with sched := some (e.1, .faulted) } }
    | none => if s.pair.withdraw then s else s.enterStop
  else s.enterStop

/-- A cycle of task `t` overruns (R245, R246, R248): counted once per cycle, logged with its cause, and the reaction taken. The
non-holder takes no reaction. DEDUCED: log entry 23. -/
def State.overrun (s : State) (t cause : Nat) : State :=
  let d := s.desc t
  let x := s.task t
  if s.follower then s.setTask t { x with overran := true }
  else if x.overran then s
  else
    let s := (s.setTask t { x with
      overran := true, ovrTotal := x.ovrTotal + 1, ovrConsec := min (x.ovrConsec + 1) 0xFF }).logEvt 0x000 t cause (s.taskData t)
    match d.reaction with
    | .stationFault => s.stationFault t
    | .stopTask => (s.stopTask t).endTwinSync 2
    | .skipNext =>
      if d.ovrLimit ≤ x.ovrConsec + 1 then (s.stopTask t).endTwinSync 2
      else if cause = 0x61 then s.setTask t { s.task t with skipped := true }
      else (((s.setTask t { s.task t with skipNext := true })).endCycle t).endTwinSync 2

/-- Boundary `g` for one task: released, skipped or found late (R229). The non-holder waits for what the holder says of a late one (R248). -/
def State.releaseTask (s : State) (g : W64) (t : Nat) : State :=
  let d := s.desc t
  let x := s.task t
  let due := (d.cls == .cyclic && decide (d.period ≠ 0) && g.toNat % d.period == d.phase)
    || (d.cls == .event && x.queue.any fun e => decide (e.frame ≤ g.toNat))
  if x.stopped || !due || s.boot.shut == ShutStep.stopping then s
  else if x.skipNext then s.setTask t { x with skipNext := false, skipped := true }
  else if x.active then (if s.follower then s.setTask t { x with lateAt := some g } else s.overrun t 0x61)
  else
    let trig := if d.cls = .event then x.queue.head? else none
    let queue := if d.cls = .event then x.queue.tail else x.queue
    s.setTask t { x with
      active := true, started := false, overran := false, relFrame := g, trig := trig, queue := queue, skipHdr := x.skipped
      skipped := false }

/-- An EVENT task that has passed its DEADLINE (R229, R245). -/
def State.checkDeadline (s : State) (g : W64) (t : Nat) : State :=
  let d := s.desc t
  let x := s.task t
  if d.cls = .event ∧ x.active = true ∧ d.deadline ≤ (g - x.relFrame).toNat then s.overrun t 0x62 else s

/-- The count of the core watchdog is loaded from TIMEOUT, with STAGE 0 (R182). -/
def State.loadCwdg (s : State) (c : Nat) : State :=
  s.setReg (coreKey c 0x138) (BitVec.ofNat 32 (s.fld (coreKey c 0x130) 0 16 * 0x10000))

/-- The boundary handler of R229 kicks the core watchdog of every core on which it is not held off (R182, R231). -/
def State.kickCores (s : State) : State :=
  [0, 1, 2, 3].foldl (fun s c =>
    if s.flag (coreKey c 0x100) 3 then s else s.loadCwdg c) s

/-- The boundary handler (R229): it kicks whether tasks run or not, from RUNTIME_INIT on (R231). -/
def State.releaseTasks (s : State) (g : W64) : State :=
  let s := if s.boot.image.isSome then s.kickCores else s
  if s.boot.running then
    let s := (List.range 32).foldl (fun s t => s.releaseTask g t) s
    let s := (List.range 32).foldl (fun s t => s.checkDeadline g t) s
    s.dispatchAll
  else s

/-- Every select word is latched; the read treats its check errors (R176, R238). -/
def State.latchSelects (s : State) (g : W64) : State :=
  (List.range 32).foldl (fun s t =>
    let d := s.desc t
    if d.cls = .unused then s
    else
      let s := s.tpmTouched d.select
      let w := (s.tpmAt d.select).data
      let apply : W32 := (w >>> 32).setWidth 32
      let new := decide ((g.setWidth 32 - apply).toNat < 2 ^ 31)
      s.setTask t { s.task t with published := if new then (w.getLsbD 1).toNat else (w.getLsbD 0).toNat }) s

/-! ## The other task events -/

/-- BACKGROUND_SLICE: the slice ends and the next BACKGROUND task of the core runs (R230). -/
def execBackgroundSlice (c : CoreId) (s : State) : Res :=
  .next <|
    let l := s.backgrounds c.val
    let cur := (sget (dflt none) s.boot.slice c.val).getD (l.head?.getD 0)
    let next := match l.find? fun t => decide (cur < t) with
      | some t => some t
      | none => l.head?
    ({ s with boot := { s.boot with slice := sset (dflt none) s.boot.slice c.val next } }).dispatch c.val

/-- TPM words take the image's initial values; one that the image does not list takes 0 with tag 0xC0 (R121, R242). -/
def State.initWords (s : State) (l : List Nat) : State :=
  match s.boot.image with
  | some i => l.foldl (fun s w =>
      s.setTpm w (((i.tpmInit.find? fun e => e.1 == w).map (·.2)).getD { data := 0, tag := 0xC0 })) s
  | none => s

/-- TASK_RESTART: a stopped task starts again (R249, R250). -/
def execTaskRestart (task : Fin 32) (s : State) : Res :=
  .next <|
    let t := task.val
    let d := s.desc t
    let x := s.task t
    if x.stopped then
      let s := (s.initWords d.instances).initWords d.vars
      (s.setTask t { x with
        stopped := false, queue := [], ovrConsec := 0, kind := 3, first := true, skipNext := false, skipped := false }).logEvt 0x000 t 0x67
    else s

end Sys2Proof.Machine
end

