-- ==== Sys2Proof/Machine/Fgc.lean ====
section
/-! DEFINITION. A field group controller: its channels, bursts and reports on its field link, admission and the holder, safe states,
release and the mailbox (spec/13, with the payloads of spec/14, spec/15 and spec/23). -/

namespace Sys2Proof.Machine

/-! ## Groups -/

/-- The kind of the group in a slot by its block: 0x80 DG, 0xA0 AG, 0xB0 TG, 0xB4 CG, 0xB8 AN; 0 for an unused slot (R143). -/
def grpKind (k : Nat) : Nat :=
  if k < 32 then 0x80 else if k < 48 then 0xA0 else if k < 50 then 0xB0 else if k < 52 then 0
  else if k < 56 then 0xB4 else if k = 56 then 0xB8 else 0

/-- The page of the group in slot `k`. -/
def grpPage (k : Nat) : Nat := 0x080 + k

/-- The number of channel `c` of the group in events: DCH, ACH, TCH, CCH or AN (R358, R390, R418, R608). -/
def chanNo (k c : Nat) : Nat :=
  if k < 32 then 16 * k + c else if k < 48 then 16 * (k - 32) + c else if k < 52 then 16 * (k - 48) + c
  else if k < 56 then 16 * (k - 52) + c else c

/-- What the group in slot `k` holds. -/
def State.grp (s : State) (k : Nat) : GroupState := sget (dflt {}) s.groups k

/-- Store what the group in slot `k` holds. -/
def State.setGrp (s : State) (k : Nat) (g : GroupState) : State := { s with groups := sset (dflt {}) s.groups k g }

/-! ## Configuration -/

/-- MODE of a digital channel by its fuse map code (R349). -/
def dgFuseMode (code : Nat) : Nat :=
  match code with
  | 1 => 1
  | 2 => 4
  | 3 => 4
  | 4 => 2
  | 5 => 3
  | _ => 0

/-- MODE of a current-loop channel by its fuse map code (R373). -/
def agFuseMode (code : Nat) : Nat :=
  match code with
  | 1 => 1
  | 2 => 3
  | 3 => 3
  | 4 => 4
  | 5 => 4
  | 6 => 3
  | _ => 2

/-- The current in µA that a current-loop channel's code gives its output; 0 is off or fully conducting (R373). -/
def agFuseTarget (code : Nat) : Nat :=
  match code with
  | 2 => 3500
  | 3 => 4000
  | 4 => 3500
  | 5 => 4000
  | _ => 0

/-- The controller's configuration after its power-on reset: the register's reset value, with SAFE PROG and the MODE of the fuse map
in DG and AG groups (R349, R373, R389, R602). -/
def fgcDefault (k : Nat) (map : Sparse Nat) (off : Nat) : W32 :=
  let v := regDefault (rk (grpPage k) off)
  let code := sget (dflt 0) map ((off - 0x140) / 4)
  if 0x140 ≤ off ∧ off < 0x180 then
    match grpKind k with
    | 0x80 => withField (withField v 22 2 3) 16 3 (dgFuseMode code)
    | 0xA0 => withField (withField v 30 2 3) 20 3 (agFuseMode code)
    | _ => v
  else v

/-- The controller's configuration word at `off`. -/
def GroupState.cfgAt (g : GroupState) (k off : Nat) : W32 := sget (fgcDefault k g.map) g.cfg off

/-- CHCFGc at the controller. -/
def GroupState.chCfg (g : GroupState) (k c : Nat) : W32 := g.cfgAt k (0x140 + 4 * c)

/-- TMO in field periods. -/
def GroupState.tmo (g : GroupState) (k : Nat) : Nat := fieldOf (g.cfgAt k 0x100) 0 17

def GroupState.dgc (g : GroupState) (c : Nat) : DgChan := sget (dflt {}) g.dg c
def GroupState.setDg (g : GroupState) (c : Nat) (x : DgChan) : GroupState := { g with dg := sset (dflt {}) g.dg c x }
def GroupState.agc (g : GroupState) (c : Nat) : AgChan := sget (dflt {}) g.ag c
def GroupState.setAg (g : GroupState) (c : Nat) (x : AgChan) : GroupState := { g with ag := sset (dflt {}) g.ag c x }
def GroupState.cgc (g : GroupState) (c : Nat) : CgChan := sget (dflt {}) g.cg c
def GroupState.setCg (g : GroupState) (c : Nat) (x : CgChan) : GroupState := { g with cg := sset (dflt {}) g.cg c x }
def GroupState.anc (g : GroupState) (c : Nat) : AnChan := sget (dflt {}) g.an c
def GroupState.setAn (g : GroupState) (c : Nat) (x : AnChan) : GroupState := { g with an := sset (dflt {}) g.an c x }

/-- The 16 channels of a group. -/
def chans : List Nat := List.range 16

/-- MODE of a digital, current-loop or counter channel (R331, R359, R391). -/
def GroupState.mode (g : GroupState) (k c : Nat) : Nat :=
  match grpKind k with
  | 0x80 => fieldOf (g.chCfg k c) 16 3
  | 0xA0 => fieldOf (g.chCfg k c) 20 3
  | 0xB4 => fieldOf (g.chCfg k c) 28 4
  | _ => 0

/-- The channel is an output: MODE 0b100 of a digital, 0b011 or 0b100 of a current-loop channel. -/
def GroupState.isOut (g : GroupState) (k c : Nat) : Bool :=
  match grpKind k with
  | 0x80 => g.mode k c == 4
  | 0xA0 => g.mode k c == 3 || g.mode k c == 4
  | 0xB8 => true
  | _ => false

/-- The stages have power: the field domain is ON since the last period and the supply neither LOST nor HIGH (R72, R86). -/
def GroupState.powered (g : GroupState) : Bool := g.dom == 2 && !g.domNew && g.sup != 2 && g.sup != 3 && !g.held

/-- This module's stages drive (R60, R375). -/
def GroupState.driving (g : GroupState) : Bool := !g.tied || (g.side != 0 && g.named == g.side)

/-- A pulse test holds the channel's switch open (R485). -/
def GroupState.pulsed (g : GroupState) (c : Nat) : Bool :=
  match g.pulse with
  | some p => p.2.1 == c
  | none => false

/-- The stage of a current-loop channel: an output's carries its target, or what its ramp has reached, while it has power and drives, and is
in the state of R59 otherwise; an active input's source is on with power (R59, R72, R86, R359, R374, R375). -/
def GroupState.settleAg (g : GroupState) (k c : Nat) : GroupState :=
  let x := g.agc c
  let on := g.isOut k c && g.powered && g.driving
  g.setAg c { x with
    stage := if !on then 0 else if x.ramp = 0 then x.target else x.stage
    excited := g.powered && g.mode k c == 1 }

/-- A resistance thermometer is excited while the group has power, drives and is not released (R59, R348, R379, R382). -/
def GroupState.settleTg (g : GroupState) (k c : Nat) : GroupState :=
  g.setAg c { g.agc c with
    excited := g.powered && g.driving && !g.released && decide (8 ≤ fieldOf (g.chCfg k c) 28 4) }

/-- The stages follow what is commanded: the switches of digital outputs with the cut-off, the latch and a pulse test, current-loop stages and
the excitation of resistance thermometers (R59, R336, R337, R350, R382, R485). -/
def GroupState.settle (g : GroupState) (k : Nat) : GroupState :=
  match grpKind k with
  | 0x80 =>
    chans.foldl (fun g c =>
      let x := g.dgc c
      g.setDg c { x with on := g.isOut k c && g.powered && x.want && x.cut == 0 && !x.latched && !g.pulsed c }) g
  | 0xA0 => chans.foldl (fun g c => g.settleAg k c) g
  | 0xB0 => chans.foldl (fun g c => g.settleTg k c) g
  | _ => g

/-- The current of a ramping stage after one more field period, in µA (R374). DEDUCED: log entry 133. -/
def rampTo (stage target left : Nat) : Nat := ((stage : Int) + ((target : Int) - stage) / (left : Nat)).toNat

/-- The ramps of current-loop outputs and the windows after their commands' changes advance by one field period (R371, R374). -/
def GroupState.tickRamps (g : GroupState) (k : Nat) : GroupState :=
  if grpKind k = 0xA0 then
    chans.foldl (fun g c =>
      let x := g.agc c
      let x := { x with window := x.window - 1 }
      g.setAg c (if x.ramp = 0 then x else { x with stage := rampTo x.stage x.target x.ramp, ramp := x.ramp - 1 })) g
  else g

/-- A field domain that has come on: from this field frame outputs follow the commanded values, current-loop outputs by a ramp of 1 ms (R86,
R374). -/
def GroupState.startDomain (g : GroupState) (k : Nat) : GroupState :=
  if !g.domNew then g
  else
    let g := { g with domNew := false }
    if grpKind k = 0xA0 then chans.foldl (fun g c => g.setAg c { g.agc c with ramp := 100 }) g else g

/-! ## Obeying, safe states and release (R346 to R348, R372, R401, R602) -/

/-- Byte `i` of a burst. -/
def bAt (b : List Byte) (i : Nat) : Nat := byteAt b i

/-- A little-endian number of `n` bytes at byte `i` of a burst. -/
def leAt (b : List Byte) (i n : Nat) : Nat := leNat (fun j => (b[j]?).getD 0) i n

/-- Bits of byte `i` of a burst. -/
def bitsAt (b : List Byte) (i lo w : Nat) : Nat := bAt b i / 2 ^ lo % 2 ^ w

/-- CLAIM of a burst, and its role. -/
def claimOf (b : List Byte) : Nat := leAt b 2 2
def roleOf (b : List Byte) : Nat := claimOf b / 16384

/-- The group leaves a safe state, a release or its fuse map states, or obeys its first control frame: current-loop outputs ramp for 1 ms
(R132, R374). DEDUCED: log entry 132. -/
def GroupState.leaves (g : GroupState) : Bool := g.safe || g.released || g.fresh || g.starting

/-- One output channel takes its command from the burst obeyed (R342, R374, R384, R603). -/
def GroupState.obeyChan (g : GroupState) (k : Nat) (b : List Byte) (c : Nat) : GroupState :=
  if !g.isOut k c then g
  else match grpKind k with
    | 0x80 =>
      let x := g.dgc c
      let on := bitsAt b (12 + c / 8) (c % 8) 1 == 1
      g.setDg c { x with
        want := on, cmdTag := BitVec.ofNat 8 (bAt b (14 + c)), cut := if on || x.latched then x.cut else 0 }
    | 0xA0 =>
      let x := g.agc c
      let i := 3 * (leAt b 12 26 / 2 ^ (13 * c) % 8192)
      g.setAg c { x with
        target := i, ramp := if g.leaves then 100 else x.ramp
        window := if x.target + 200 < i ∨ i + 200 < x.target then 200 else x.window }
    | _ =>
      let x := g.anc c
      let on := bitsAt b (12 + c) 7 1 == 1
      let restart := bitsAt b (12 + c) 6 1 == 1
      g.setAn c { x with
        on := on, sound := bitsAt b (12 + c) 0 4, phase := if restart || (on && !x.on) then 0 else x.phase }

/-- The domain request of a burst (R86, R346). -/
def GroupState.takeDom (g : GroupState) (b : List Byte) : GroupState :=
  match bitsAt b 10 4 2 with
  | 1 => if g.dom = 0 then { g with dom := 1 } else g
  | 2 => if g.dom = 2 then { g with dom := 3 } else g
  | _ => g

/-- The other side of a station. -/
def otherSide (side : Nat) : Nat :=
  match side with
  | 1 => 2
  | 2 => 1
  | _ => 0

/-- A burst is obeyed (R346, R375). -/
def GroupState.obey (g : GroupState) (k : Nat) (b : List Byte) : GroupState :=
  let g := chans.foldl (fun g c => g.obeyChan k b c) g
  let side := bAt b 11 / 64
  let g := { g with
    safe := false, released := false, fresh := false, starting := false, hclaim := claimOf b
    named := if bitsAt b 10 6 1 = 1 then side else otherSide side }
  g.takeDom b

/-- Change the holder; every change counts (R345). -/
def GroupState.setHolder (g : GroupState) (h : Nat) : GroupState :=
  if g.holder = h then g else { g with holder := h, hchg := (g.hchg + 1) % 32 }

/-- The alarm level of a current-loop channel in µA (R370). -/
def alarmLevel (cfg : W32) : Nat := if cfg.getLsbD 29 then 21500 else 3500

/-- One output channel takes its safe state (R347, R372, R602). -/
def GroupState.safeChan (g : GroupState) (k c : Nat) : GroupState :=
  let cfg := g.chCfg k c
  let code := sget (dflt 0) g.map c
  if !g.isOut k c then g
  else match grpKind k with
    | 0x80 =>
      let x := g.dgc c
      match fieldOf cfg 22 2 with
      | 0 => g.setDg c { x with want := false }
      | 1 => g.setDg c { x with want := true }
      | 2 => g
      | _ => g.setDg c { x with want := code == 3 }
    | 0xA0 =>
      let x := g.agc c
      match fieldOf cfg 30 2 with
      | 0 => g.setAg c { x with target := 0, ramp := 0 }
      | 1 => g.setAg c { x with target := alarmLevel cfg, ramp := 0 }
      | 2 => g.setAg c { x with target := if 0 < x.ramp ∧ (g.powered && g.driving) = true then x.stage else x.target, ramp := 0 }
      | _ => g.setAg c { x with target := agFuseTarget code, ramp := 0 }
    | _ =>
      let x := g.anc c
      if g.released then g.setAn c { x with on := false }
      else match fieldOf cfg 30 2 with
        | 0 => g.setAn c { x with on := false }
        | 1 => g.setAn c { x with on := true, sound := fieldOf cfg 26 4, phase := if x.on then x.phase else 0 }
        | _ => g

/-- The safe states are applied (R347). -/
def GroupState.applySafe (g : GroupState) (k : Nat) : GroupState :=
  let g := chans.foldl (fun g c => g.safeChan k c) g
  ({ g with safe := true }.setHolder 0).settle k

/-- The group is released: every output stage off or in the state of R59 (R348, R372). -/
def GroupState.release (g : GroupState) (k : Nat) : GroupState :=
  let g := chans.foldl (fun g c => match grpKind k with
    | 0x80 => g.setDg c { g.dgc c with want := false }
    | 0xA0 => g.setAg c { g.agc c with target := 0, ramp := 0 }
    | 0xB8 => g.setAn c { g.anc c with on := false }
    | _ => g) g
  { g with released := true }.settle k

/-! ## The mailbox (R350, R384, R402, R603) -/

/-- The offsets that a controller takes from the mailbox. DEDUCED: log entry 105. -/
def mbKnown (kind addr : Nat) : Bool :=
  addr % 4 == 0 && (addr == 0x100 || decide (0x140 ≤ addr ∧ addr < 0x180) || (match kind with
    | 0x80 => addr == 0x1F0
    | 0xA0 => decide (0x180 ≤ addr ∧ addr < 0x620)
    | 0xB4 => decide (0x180 ≤ addr ∧ addr < 0x200)
    | 0xB8 => decide (0x180 ≤ addr ∧ addr < 0x280 ∧ addr % 16 ≠ 12) || decide (0x300 ≤ addr ∧ addr < 0x3C0)
    | _ => false))

/-- An SSI configuration that R398 refuses: N, CDIV, MONO and SSIP, compared in nanoseconds. -/
def ssiTooLong (cfg cfg2 : W32) : Bool :=
  decide (fieldOf cfg2 8 8 * 10000 < (fieldOf cfg 26 6 + 1) * fieldOf cfg 16 10 * 20 + fieldOf cfg 10 6 * 1000 + 2000)

/-- The value written is reserved, or R398 refuses it (MB_RES 0x03). DEDUCED: log entry 105. -/
def GroupState.mbInvalid (g : GroupState) (k addr : Nat) (v : W32) : Bool :=
  if addr = 0x100 then
    decide (fieldOf v 0 17 < 5 ∨ 100000 < fieldOf v 0 17) || (grpKind k == 0xA0 && fieldOf v 24 8 == 0)
  else if 0x140 ≤ addr ∧ addr < 0x180 then
    match grpKind k with
    | 0x80 => decide (6 ≤ fieldOf v 16 3 ∨ fieldOf v 0 11 = 0 ∨ 1600 < fieldOf v 0 11)
    | 0xA0 => decide (5 ≤ fieldOf v 20 3 ∨ fieldOf v 25 2 = 3 ∨ 100 < fieldOf v 7 7)
    | 0xB0 => decide (14 ≤ fieldOf v 28 4 ∨ fieldOf v 26 2 = 3)
    | 0xB4 => decide (9 ≤ fieldOf v 28 4 ∨ 2 ≤ fieldOf v 22 2 ∨ 12 < fieldOf v 18 4)
    | _ => fieldOf v 30 2 == 3
  else if grpKind k = 0xB4 ∧ 0x180 ≤ addr then
    let base := addr / 8 * 8
    if addr % 8 = 0 then
      decide (fieldOf v 26 6 < 8 ∨ 48 < fieldOf v 26 6 ∨ fieldOf v 16 10 < 25 ∨ 500 < fieldOf v 16 10
        ∨ fieldOf v 10 6 < 15 ∨ 60 < fieldOf v 10 6) || ssiTooLong v (g.cfgAt k (base + 4))
    else decide (fieldOf v 8 8 < 3 ∨ 100 < fieldOf v 0 8) || ssiTooLong (g.cfgAt k base) v
  else false

/-- A write that needs an obeyed burst: a MODE to or from an output, or to or from SSI (R350, R384, R402). -/
def GroupState.mbNeedsObey (g : GroupState) (k addr : Nat) (v : W32) : Bool :=
  if 0x140 ≤ addr ∧ addr < 0x180 then
    let old := g.mode k ((addr - 0x140) / 4)
    match grpKind k with
    | 0x80 => (old == 4) != (fieldOf v 16 3 == 4)
    | 0xA0 => old != fieldOf v 20 3 && (old == 3 || old == 4 || fieldOf v 20 3 == 3 || fieldOf v 20 3 == 4)
    | 0xB4 => (old == 8) != (fieldOf v 28 4 == 8)
    | _ => false
  else false

/-- A channel whose MODE changes: a digital or current-loop output switches its stage off, and a latch stays; the filter of a digital channel
takes the next sample at once; a counter's raw count is cleared (R333, R337, R350, R393). -/
def GroupState.modeChanged (g : GroupState) (k c : Nat) : GroupState :=
  match grpKind k with
  | 0x80 =>
    let x := g.dgc c
    g.setDg c { x with
      want := false, cmdTag := 0, cut := if x.latched then x.cut else 0, disagree := false, first := true, run := 0 }
  | 0xA0 => g.setAg c { g.agc c with target := 0, ramp := 0, band := none, opened := false, disagree := false }
  | 0xB4 => g.setCg c {}
  | _ => g

/-- The table that a mailbox word belongs to, and its place in it: current-loop tables of 66 words, waveforms of 16 (R367, R596). -/
def tblPlace (kind addr : Nat) : Option (Nat × Nat × Nat) :=
  if kind = 0xA0 ∧ 0x200 ≤ addr then some ((addr - 0x200) / 0x108, (addr - 0x200) % 0x108 / 4, 66)
  else if kind = 0xB8 ∧ 0x300 ≤ addr then some ((addr - 0x300) / 0x40, (addr - 0x300) % 0x40 / 4, 16)
  else none

/-- Bit `t` of a map of bits. -/
def withBit (m t : Nat) (on : Bool) : Nat := if m.testBit t then (if on then m else m - 2 ^ t) else if on then m + 2 ^ t else m

/-- binary32 as binary64; exact. -/
def toDouble (v : W32) : W64 := asW64 (convertFp f64 .rne (unpack f32 v.toNat))

/-- x0 to x32 of a table strictly increase (R367); `at_` gives the table's words. -/
def tableRises (at_ : Nat → W32) : Bool :=
  (List.range 32).all fun i => dLt (toDouble (at_ (2 * i))) (toDouble (at_ (2 * i + 2)))

/-- A table word arrives: a version is taken into use when all its words have come in one mailbox cycle and, in a current-loop
group, x rises; one that fails sets TBL_BAD (R367, R596). -/
def GroupState.takeTableWord (g : GroupState) (kind addr : Nat) (v : W32) : GroupState :=
  match tblPlace kind addr with
  | none => g
  | some (t, i, n) =>
    let want := sget (dflt 0) g.tblNext t
    let g := { g with tblBuf := sset (dflt 0) g.tblBuf addr v }
    if i = 0 ∨ i = want then
      if i + 1 < n then { g with tblNext := sset (dflt 0) g.tblNext t (i + 1) }
      else
        let base := addr - 4 * i
        let good := kind == 0xB8 || tableRises fun j => sget (dflt 0) g.tblBuf (base + 4 * j)
        let g := { g with tblNext := sset (dflt 0) g.tblNext t 0, tblBad := withBit g.tblBad t (!good) }
        if good then
          { g with
            tblOk := withBit g.tblOk t true
            tblUse := (List.range n).foldl (fun m j =>
              sset (dflt 0) m (base + 4 * j) (sget (dflt 0) g.tblBuf (base + 4 * j))) g.tblUse }
        else g
    else { g with tblNext := sset (dflt 0) g.tblNext t 0 }

/-- A configuration word takes effect. -/
def GroupState.takeWord (g : GroupState) (k addr : Nat) (v : W32) : GroupState :=
  let c := (addr - 0x140) / 4
  let old := g.mode k c
  let g := (if 0x180 ≤ addr then g.takeTableWord (grpKind k) addr v else g)
  let g := { g with cfg := sset (fgcDefault k g.map) g.cfg addr v }
  if 0x140 ≤ addr ∧ addr < 0x180 ∧ g.mode k c ≠ old then g.modeChanged k c else g

/-- A pulse test may start (R485). -/
def GroupState.pulseAllowed (g : GroupState) (k : Nat) (obeyed : Bool) (v : W32) : Bool :=
  let c := fieldOf v 0 4
  obeyed && g.tied && g.peerAct && g.isOut k c && (g.dgc c).want && decide (50 ≤ fieldOf v 8 8 ∧ fieldOf v 8 8 ≤ 199)

/-- A fuse map programming (R644): refused where a blown fuse would have to read 0; the fuses of unchanged codes stay. The group of
codes `addr` holds holds 5 channels: 15 bits of MB_DATA. -/
def GroupState.blowFuses (g : GroupState) (addr : Nat) (v : W32) : GroupState × Nat :=
  let l := (List.range 5).map fun i => ((addr % 16) * 5 + i, fieldOf v (3 * i) 3)
  let l := l.filter fun e => decide (e.1 < 16)
  if l.any fun e => (sget (dflt 0) g.fuse e.1) &&& e.2 != sget (dflt 0) g.fuse e.1 then (g, 3)
  else ({ g with fuse := l.foldl (fun m e => sset (dflt 0) m e.1 e.2) g.fuse }, 0)

/-- A mailbox operation is acted on (R350): `obeyed` says that its burst is obeyed, `solo` that it is a local burst with GROUP side
0b11. -/
def GroupState.takeOp (g : GroupState) (k : Nat) (o : MbOp) (obeyed solo : Bool) : GroupState :=
  let kind := grpKind k
  let done (g : GroupState) (res : Nat) : GroupState := { g with mbAck := o.seq, mbRes := res }
  let ask := g.fuseAsk
  let g := { g with fuseAsk := if o.op = 3 ∧ solo = true then some (o.addr, o.data) else none }
  match o.op with
  | 0 => g
  | 1 =>
    if !mbKnown kind o.addr then done g 2
    else if kind = 0x80 ∧ o.addr = 0x1F0 then
      if g.pulseAllowed k obeyed o.data then
        { g with pulse := some (o.seq, fieldOf o.data 0 4, fieldOf o.data 8 8) }
      else done g 1
    else if g.mbInvalid k o.addr o.data then done g 3
    else if g.mbNeedsObey k o.addr o.data && !obeyed then done g 1
    else done (g.takeWord k o.addr o.data) 0
  | 2 =>
    if kind ≠ 0x80 ∧ kind ≠ 0xB8 then done g 2
    else if g.lastClear = some o.seq then done g 0
    else
      let g := { g with lastClear := some o.seq }
      let g := chans.foldl (fun g c =>
        if !o.data.getLsbD c then g
        else if kind = 0x80 then
          let x := g.dgc c
          if x.latched then g.setDg c { x with latched := false, cut := 0, cutShown := false } else g
        else g.setAn c { g.anc c with latched := false, tripped := false, trips := 0 }) g
      done g 0
  | 3 =>
    if kind ≠ 0x80 ∧ kind ≠ 0xA0 then done g 2
    else if !g.tied && g.fresh && solo && ask == some (o.addr, o.data) then
      let r := g.blowFuses o.addr o.data
      done r.1 r.2
    else g
  | 4 => { done g 0 with loopback := fieldOf o.data 0 17 }
  | _ => done g 2

/-- The mailbox bytes of a burst (R342, R384, R402, R603). -/
def opOf (b : List Byte) : MbOp :=
  { seq := bAt b 30, op := bAt b 31, addr := leAt b 32 2, data := BitVec.ofNat 32 (leAt b 34 4) }

/-- The mailbox of a burst of stream `st`, 1 local or 2 peer: one operation in a burst, or in AG groups in two (R384). -/
def GroupState.takeMailbox (g : GroupState) (k st : Nat) (b : List Byte) (obeyed : Bool) : GroupState :=
  let solo := st == 1 && bAt b 11 / 64 == 3
  if grpKind k ≠ 0xA0 then { (g.takeOp k (opOf b) obeyed solo).settle k with mbHalf := none }
  else
    let q := leAt b 4 2
    if q % 2 = 0 then
      { g with mbHalf := some (st, q, { seq := bAt b 38, op := bAt b 39, addr := leAt b 40 2 }) }
    else
      match g.mbHalf with
      | some (st', q', o) =>
        let g := { g with mbHalf := none }
        if st' = st ∧ (q' + 1) % 65536 = q then
          g.takeOp k { o with data := BitVec.ofNat 32 (leAt b 38 4) } obeyed solo
        else g
      | none => g

/-! ## Bursts received (R343) -/

/-- What arrives of what stands on a wire; none where nothing does. A burst that fails R343 by its timing or length is given as an
empty list. DESIGN CHOICE: log entry 103. -/
def received (wire : Option (List Byte)) (rx : LineRx) : Option (List Byte) :=
  match rx with
  | .asSent => wire
  | .bytes b => some b
  | _ => some []

/-- Cut short or running on (R343). -/
def rxPart : LineRx → Bool
  | .partially => true
  | .oversize => true
  | .bytes b => b.length != 48
  | _ => false

/-- A burst of 48 bytes with its CRC-32C over bytes 1 to 43 (R342, R343). -/
def sealBurst (l : List Byte) : List Byte := l ++ natBytes (crc32c (l.drop 1)).toNat 4

/-- The checks of R343 on the bytes: length, CRC, VER and KIND, and the group slot, which stands in byte `at_`.
DESIGN CHOICE: log entry 103. -/
def burstOk (b : List Byte) (kind k at_ : Nat) : Bool :=
  b.length == 48 && leAt b 44 4 == (crc32c ((b.drop 1).take 43)).toNat && bAt b 1 == 16 + kind && bAt b at_ % 64 == k

/-- A burst arrives in a slot (R343): accepted and kept to the end of the period, or discarded and counted. From a local one the
controller takes TIME, its side, PEER_ACT and LFPH, and in CG groups LATCH (R335, R345, R364, R375, R402). -/
def GroupState.receive (g : GroupState) (k slot : Nat) (rx : LineRx) : GroupState :=
  if g.held || decide (0 < g.loopback) || (slot == 1 && !g.tied) then g
  else match received (if slot = 0 then g.link.wire0 else g.link.relay) rx with
    | none => g
    | some b =>
      if !burstOk b 1 k 11 then
        if slot = 0 then { g with lrej := (g.lrej + 1) % 256 } else { g with prej := (g.prej + 1) % 256 }
      else if slot = 1 then { g with rx1 := some b }
      else
        let lv := grpKind k == 0xB4 && g.own.adm && bitsAt b 13 7 1 == 1
        { g with
          rx0 := some b, started := true, time := BitVec.ofNat 32 (leAt b 6 4), side := bAt b 11 / 64
          lfph := some (leAt b 42 2 % 16384 % 15625)
          peerAct := bitsAt b 10 7 1 == 1, latch := if lv then some (bitsAt b 13 4 3) else g.latch }

/-- FGC_BURST_RECEIVE (R343). -/
def execFgcBurstReceive (group : Fin 57) (slot : Fin 2) (rx : LineRx) (s : State) : Res :=
  .next (if grpKind group.val = 0 then s else s.setGrp group.val ((s.grp group.val).receive group.val slot.val rx))

/-! ## The end of a period (R344, R346 to R348) -/

/-- SEQ is in the window after `last` (R344). -/
def seqWindow (q last : Nat) : Bool := decide (1 ≤ (q + 65536 - last) % 65536 ∧ (q + 65536 - last) % 65536 ≤ 8)

/-- Admission of a sub-stream in one period: `b` is SEQ of the burst in its slot (R346). -/
def Stream.period (x : Stream) (b : Option Nat) (tmo : Nat) : Stream :=
  let x := match b with
    | none => { x with valid := false, run := 0 }
    | some q =>
      let run := if 0 < x.run ∧ q = (x.last + 1) % 65536 then x.run + 1 else 1
      if x.adm && seqWindow q x.last then { x with valid := true, last := q }
      else { x with run := run, adm := decide (3 ≤ run), valid := decide (3 ≤ run), last := q }
  let quiet := if x.valid then 0 else x.quiet + 1
  { x with quiet := quiet, adm := x.adm && decide (quiet < tmo) }

/-- The holder after a period: `a` and `b` say that the local and the peer stream are valid with role 3, `ca` and `cb` are their
claims (R346). -/
def nextHolder (h : Nat) (a b : Bool) (ca cb : Nat) : Nat :=
  if h = 1 ∧ a = true then (if b = true ∧ ca < cb then 2 else 1)
  else if h = 2 ∧ b = true then (if a = true ∧ cb < ca then 1 else 2)
  else if a = true ∧ b = true then (if ca < cb then 2 else 1)
  else if a = true then 1 else if b = true then 2 else h

/-- A burst that is there has role 3. -/
def isRole3 (b : Option (List Byte)) : Bool := (b.map roleOf) == some 3

/-- CLAIM of a burst that may be missing. -/
def claimOr0 (b : Option (List Byte)) : Nat := (b.map claimOf).getD 0

/-- The burst obeyed in this period, with its stream. -/
def GroupState.obeyedBurst (g : GroupState) : Option (Nat × List Byte) :=
  if g.holder = 1 ∧ g.own.valid = true ∧ isRole3 g.rx0 = true then g.rx0.map fun b => (1, b)
  else if g.holder = 2 ∧ g.peer.valid = true ∧ isRole3 g.rx1 = true then g.rx1.map fun b => (2, b)
  else none

/-- Admission and holder at the end of a period (R346). -/
def GroupState.admitted (g : GroupState) (k : Nat) : GroupState :=
  let tmo := g.tmo k
  let own := g.own.period (g.rx0.map fun b => leAt b 4 2) tmo
  let peer := if g.tied then g.peer.period (g.rx1.map fun b => leAt b 4 2) tmo else g.peer
  let h := nextHolder g.holder (own.valid && isRole3 g.rx0) (g.tied && peer.valid && isRole3 g.rx1)
    (claimOr0 g.rx0) (claimOr0 g.rx1)
  let begins (was now : Stream) (b : Option (List Byte)) : Bool := !was.adm && now.adm && !isRole3 b
  { g with
    own := own, peer := peer
    starting := g.starting || begins g.own own g.rx0 || begins g.peer peer g.rx1 }.setHolder h

/-- The commands of a period: the obeyed burst and its mailbox, or the domain request and the mailbox of the admitted local stream
(R346, R350). -/
def GroupState.command (g : GroupState) (k : Nat) : GroupState :=
  match g.obeyedBurst with
  | some (st, b) => { ((g.obey k b).takeMailbox k st b true) with silent := 0 }
  | none =>
    let g := { g with silent := g.silent + 1 }
    match g.rx0 with
    | some b => if g.own.adm then (g.takeDom b).takeMailbox k 1 b false else g
    | none => g

/-- Silence: safe states at TMO, release after three empty periods (R347, R348). -/
def GroupState.silence (g : GroupState) (k : Nat) : GroupState :=
  let empty := if g.rx0.isNone && g.rx1.isNone then g.empty + 1 else 0
  let g := { g with empty := empty }
  let g := if g.tmo k ≤ g.silent ∧ g.safe = false then g.applySafe k else g
  if g.tied && decide (3 ≤ empty) && !g.released then g.release k else g

/-- The lowest of the codes that apply, 0 where none does (R356, R388). -/
def lowest (l : List (Nat × Bool)) : Nat := ((l.find? fun e => e.2).map (·.1)).getD 0

/-! ## Annunciators (R598 to R604, R607) -/

/-- LEVEL and the other words of a sound at the controller. -/
def GroupState.soundA (g : GroupState) (k n : Nat) : W32 := g.cfgAt k (0x180 + 16 * n)

/-- The channel cannot sound because of CHSTAT 0x1 to 0x6 (R601). DEDUCED: log entry 85. -/
def GroupState.anFails (g : GroupState) (c : Nat) : Bool :=
  let x := g.anc c
  x.probe != 0 || x.tripped || x.latched || x.therm == 2

/-- The sound that a channel plays and its phase: its own, or that of the channel it plays for (R601). -/
def GroupState.anPlays (g : GroupState) (c : Nat) : Option (Nat × Nat) :=
  let x := g.anc c
  match x.playsFor with
  | some d => some ((g.anc d).sound, (g.anc d).phase)
  | none => if x.on then some (x.sound, x.phase) else none

/-- The pattern sounds at a phase: its step is on, and with ONCE it has not ended (R597). -/
def GroupState.patternOn (g : GroupState) (k n phase : Nat) : Bool :=
  let a := g.soundA k n
  let steps := fieldOf (g.cfgAt k (0x188 + 16 * n)) 0 5 + 1
  let step := phase / (1000 * max 1 (fieldOf a 12 8))
  let table := fieldOf a 30 2
  !(a.getLsbD 27 && decide (steps ≤ step)) && (g.cfgAt k (0x184 + 16 * n)).getLsbD (step % steps)
    && (table == 0 || g.tblOk.testBit (table - 1))

/-- A channel sounds (R601, R604). -/
def GroupState.sounding (g : GroupState) (k c : Nat) : Bool :=
  let x := g.anc c
  match g.anPlays c with
  | some (n, phase) => g.powered && g.driving && !x.tripped && !x.latched && x.therm != 2 && g.patternOn k n phase
  | none => false

/-- The applied level in % (R598). -/
def GroupState.anLevel (g : GroupState) (k c : Nat) : Nat :=
  match g.anPlays c with
  | some (n, _) =>
    let l := fieldOf (g.soundA k n) 20 7
    if g.sup == 1 || (g.anc c).therm == 1 || (g.anc c).temp == none then min l 50 else l
  | none => 0

/-- The level is limited by R598. -/
def GroupState.anLimited (g : GroupState) (k c : Nat) : Bool :=
  match g.anPlays c with
  | some (n, _) => decide (g.anLevel k c < fieldOf (g.soundA k n) 20 7)
  | none => false

/-- The status code of an annunciator channel (R607). -/
def GroupState.anStatus (g : GroupState) (k c : Nat) : Nat :=
  let x := g.anc c
  lowest [(1, x.probe == 1), (2, x.probe == 2), (3, x.tripped), (4, x.latched), (5, g.anLimited k c), (6, x.therm == 2),
    (7, x.playsFor.isSome), (8, g.released), (9, g.safe), (10, g.sup != 0)]

/-- PRIO of a sound (R596, R601). -/
def GroupState.soundPrio (g : GroupState) (k n : Nat) : Nat := fieldOf (g.soundA k n) 28 2

/-- Channel `f` is commanded on and fails, and its partner `p`, free of CHSTAT 0x1 to 0x6, is to play its sound (R601). -/
def GroupState.takesOver (g : GroupState) (k f p : Nat) : Bool :=
  let x := g.anc f
  let y := g.anc p
  let code := g.anStatus k p
  x.on && g.anFails f && !(decide (1 ≤ code ∧ code ≤ 6)) && (!y.on || decide (g.soundPrio k y.sound < g.soundPrio k x.sound))

/-- The partners of enabled pairs take over and give back at the end of a field period (R601). DEDUCED: log entry 85. -/
def GroupState.partners (g : GroupState) (k : Nat) : GroupState :=
  if grpKind k ≠ 0xB8 then g
  else
    let own := chans.foldl (fun g c => g.setAn c { g.anc c with playsFor := none }) g
    let pairs := fieldOf (g.cfgAt k 0x100) 24 8
    chans.foldl (fun g c =>
      let f := if c % 2 = 0 then c + 1 else c - 1
      if pairs.testBit (c / 2) && own.takesOver k f c then g.setAn c { g.anc c with playsFor := some f } else g) own

/-- The patterns of annunciators advance by one field period (R597). -/
def GroupState.tickPatterns (g : GroupState) (k : Nat) : GroupState :=
  if grpKind k = 0xB8 then
    chans.foldl (fun g c => let x := g.anc c; if x.on then g.setAn c { x with phase := x.phase + 1 } else g) g
  else g

/-- The end of a field period at a controller; the place of the next loop frame boundary moves by its 2500 cycles (R346, R364). -/
def GroupState.periodEnd (g : GroupState) (k : Nat) : GroupState :=
  if g.held then g
  else
    let g := ((((g.tickRamps k).admitted k).command k).silence k).startDomain k
    let time := if g.rx0.isSome then g.time else g.time + 1250
    let lfph := g.lfph.map fun n => (n + 13125) % 15625
    (({ g with rx0 := none, rx1 := none, time := time, lfph := lfph, loopback := g.loopback - 1 }.tickPatterns k).partners k).settle k

/-- FGC_PERIOD_END (R346). -/
def execFgcPeriodEnd (group : Fin 57) (s : State) : Res :=
  .next (if grpKind group.val = 0 then s else s.setGrp group.val ((s.grp group.val).periodEnd group.val))

/-- SAFE_STATE_TIMEOUT: no burst has been obeyed for TMO (R347). -/
def execSafeStateTimeout (group : Fin 57) (s : State) : Res :=
  .next <|
    let k := group.val
    let g := s.grp k
    if grpKind k = 0 || g.held || g.safe then s
    else s.setGrp k ({ g with silent := max g.silent (g.tmo k) }.applySafe k)

/-- GROUP_RELEASE: with CTYP tied, neither slot has held a burst for three periods (R348). -/
def execGroupRelease (group : Fin 57) (s : State) : Res :=
  .next <|
    let k := group.val
    let g := s.grp k
    if grpKind k = 0 || g.held || g.released || !g.tied then s
    else s.setGrp k ({ g with empty := max g.empty 3 }.release k)

/-! ## Power-on reset, supply and domain (R72, R73, R86, R349, R373) -/

/-- The controller is held in its power-on reset: every stage off, its link silent; its fuses stay, the logic end is not touched. -/
def GroupState.hold (g : GroupState) : GroupState :=
  { held := true, fuse := g.fuse, map := g.map, sup := g.sup, feed1 := g.feed1, feed2 := g.feed2, dom := g.dom
    link := { g.link with wireRep := none, wireVal := none } }

/-- FGC_HELD_IN_RESET (R73). -/
def execFgcHeldInReset (group : Fin 57) (s : State) : Res :=
  .next (if grpKind group.val = 0 then s else s.setGrp group.val (s.grp group.val).hold)

/-- The controller after its power-on reset: its fuse map in force, its outputs by it, FRESH, its domain on; with CTYP tied a counter group's
terminations are off (R60, R78, R349, R373). -/
def GroupState.powerOn (g : GroupState) (k : Nat) (tied : Bool) : GroupState :=
  let g := { g.hold with held := false, tied := tied, map := g.fuse, dom := 2, term := grpKind k == 0xB4 && !tied }
  let g := chans.foldl (fun g c =>
    let code := sget (dflt 0) g.map c
    if !g.isOut k c then g
    else match grpKind k with
      | 0x80 => g.setDg c { g.dgc c with want := code == 3 }
      | 0xA0 => g.setAg c { g.agc c with target := agFuseTarget code }
      | _ => g) g
  g.settle k

/-- FGC_POWER_ON_RESET: the controller leaves its power-on reset and reads CTYP (R349). -/
def execFgcPowerOnReset (group : Fin 57) (tied : Bool) (s : State) : Res :=
  .next (if grpKind group.val = 0 then s else s.setGrp group.val ((s.grp group.val).powerOn group.val tied))

/-- FIELD_DOMAIN_STAGES_READY: the stages have powered up or down; outputs follow from the next field frame (R86). -/
def execFieldDomainStagesReady (group : Fin 57) (s : State) : Res :=
  .next <|
    let k := group.val
    let g := s.grp k
    if grpKind k = 0 || g.held then s
    else match g.dom with
      | 1 => s.setGrp k ({ g with dom := 2, domNew := true }.settle k)
      | 3 => s.setGrp k ({ g with dom := 0 }.settle k)
      | _ => s

/-- The number of a supply state: 0 OK, 1 LOW, 2 LOST, 3 HIGH (R92). -/
def supplyCode : SupplyState → Nat
  | .ok => 0
  | .low => 1
  | .lost => 2
  | .high => 3

/-- The state of R72 after a condition: OK from every state, otherwise only a worse one. -/
def supplyNext (old new : Nat) : Nat := if new = 0 ∨ old < new then new else old

/-- A supply of a group takes a state: 0 the group's own, 1 AFS-1, 2 AFS-2 (R72). -/
def State.groupSupply (s : State) (k which code : Nat) : State :=
  let g := s.grp k
  if grpKind k = 0 then s
  else match which with
    | 0 => s.setGrp k ({ g with sup := supplyNext g.sup code }.settle k)
    | 1 => s.setGrp k { g with feed1 := supplyNext g.feed1 code }
    | _ => s.setGrp k { g with feed2 := supplyNext g.feed2 code }

end Sys2Proof.Machine
end

