-- ==== Sys2Proof/Machine/FieldChan.lean ====
section
/-! DEFINITION. What happens at the channels of a field group: digital filters and outputs (R331 to R338), conversions and outputs of
current loops, temperatures (R359 to R382), counters and SSI (R391 to R399, R402). -/

namespace Sys2Proof.Machine

/-! ## Digital channels -/

/-- The group slot and the channel of a DCH number. -/
def dchOf (n : Nat) : Nat × Nat := (n / 16, n % 16)

/-- A digital channel changes; its group's switches follow. -/
def State.onDch (s : State) (n : Nat) (f : GroupState → Nat → DgChan → DgChan) : State :=
  let k := (dchOf n).1
  let c := (dchOf n).2
  let g := s.grp k
  if g.held then s else s.setGrp k ((g.setDg c (f g c (g.dgc c))).settle k)

/-- A digital channel in MODE 0b100 changes. -/
def State.onDchOut (s : State) (n : Nat) (f : GroupState → Nat → DgChan → DgChan) : State :=
  s.onDch n fun g c x => if g.isOut (dchOf n).1 c then f g c x else x

/-- The raw state of a sample of `mv` mV; between the thresholds the previous one, which before the first sample is `free`: the spec states
none (R332, R338, R340). DESIGN CHOICE: log entry 134. -/
def rawState (mode mv : Nat) (prev : Option Bool) (free : Bool) : Bool :=
  if (if mode = 1 then 11000 else 15000) ≤ mv then true else if mv ≤ 5000 then false else prev.getD free

/-- The band of a terminal current in nA in a wire-break mode (R334, R340). -/
def rawBandOf (mode nA : Nat) : Band :=
  if nA < 500000 then .wireBreak
  else if nA < 1500000 then .indetLow
  else if nA ≤ 2800000 then .opened
  else if nA ≤ 5000000 then .indetHigh
  else if mode = 3 ∧ 18000000 < nA then .lineShort
  else .closed

/-- The two INDET ranges are one band for the filter (R334). -/
def isIndet : Band → Bool
  | .indetLow | .indetHigh => true
  | _ => false

/-- The same band for the filter (R334). -/
def sameBand (a b : Band) : Bool := a == b || (isIndet a && isIndet b)

/-- The filtered band becomes `b`: OPEN and CLOSED are remembered (R334). -/
def DgChan.takeBand (x : DgChan) (b : Band) : DgChan :=
  { x with band := b, run := 0, prev := match b with
    | .opened => false
    | .closed => true
    | _ => x.prev }

/-- Samples in a row that differ, from one to the next over FILT × 20 µs, at one sample in 2.5 µs (R333). -/
def filterSpan (cfg : W32) : Nat := 8 * fieldOf cfg 0 11

/-- `n` samples with the raw state `raw` (R333). -/
def DgChan.sampleState (x : DgChan) (span n : Nat) (raw : Bool) : DgChan :=
  let x := { x with raw := some raw }
  if x.first || raw == x.filtered then { x with filtered := raw, run := 0, first := false }
  else if span < x.run + n then { x with filtered := raw, run := 0 }
  else { x with run := x.run + n }

/-- `n` samples in the band `b`; an INDET band shows the range of the latest sample in either (R333, R334). -/
def DgChan.sampleBand (x : DgChan) (span n : Nat) (b : Band) : DgChan :=
  let run := (if sameBand x.rawBand b then x.run else 0) + n
  let x := { x with rawBand := b }
  if x.first then { x.takeBand b with first := false }
  else if sameBand x.band b then { x with band := b, run := 0 }
  else if span < run then x.takeBand b
  else { x with run := run }

/-- Consecutive equal samples of a channel: classified by the thresholds of R332, or in the wire-break modes by the bands of R334 from the
terminal's current, of which the own stage carries half while PEER_ACT is 1 (R335); then filtered (R333). -/
def DgChan.sample (x : DgChan) (g : GroupState) (k c : Nat) (free : Bool) (d : DchSamples) : DgChan :=
  let m := g.mode k c
  let span := filterSpan (g.chCfg k c)
  if d.count = 0 then x
  else if m = 2 ∨ m = 3 then
    x.sampleBand span d.count (rawBandOf m (if g.peerAct then 2 * d.reading.toNat else d.reading.toNat))
  else x.sampleState span d.count (rawState m d.reading.toNat x.raw free)

/-- INPUT_FILTER_ACCEPT: the samples of a terminal, one every 2.5 µs; the raw state or band that has differed in every sample for the filter
time becomes the filtered one (R332 to R335, R338, R340). -/
def execInputFilterAccept (dch : Fin 512) (samples : List DchSamples) (s : State) : Res :=
  let free := s.freeVal.getLsbD 0
  .next (s.onDch dch.val fun g c x => samples.foldl (fun x d => x.sample g (dchOf dch.val).1 c free d) x).drawn

/-- An output is cut off, and latched where RETRY is 0 (R336, R337). -/
def cutOff (g : GroupState) (k c why : Nat) (shed : Bool) (x : DgChan) : DgChan :=
  if x.on then
    { x with cut := why, shed := shed, cutShown := false, latched := !(g.chCfg k c).getLsbD 21 }
  else x

/-- OUTPUT_SHORT_CUTOFF (R336). -/
def execOutputShortCutoff (dch : Fin 512) (s : State) : Res :=
  .next (s.onDchOut dch.val fun g c x => cutOff g (dchOf dch.val).1 c 1 false x)

/-- OUTPUT_OVERLOAD (R336). -/
def execOutputOverload (dch : Fin 512) (s : State) : Res :=
  .next (s.onDchOut dch.val fun g c x => cutOff g (dchOf dch.val).1 c 2 false x)

/-- OUTPUT_SHED: the highest-numbered channel that is on is switched off (R336). -/
def execOutputShed (group : Fin 32) (s : State) : Res :=
  .next <|
    let g := s.grp group.val
    match chans.reverse.find? fun c => (g.dgc c).on with
    | some c => s.onDchOut (16 * group.val + c) fun g c x => cutOff g group.val c 2 true x
    | none => s

/-- OUTPUT_RETRY: 100 ms after the cut-off, with RETRY 1 and the channel still commanded on (R337). -/
def execOutputRetry (dch : Fin 512) (s : State) : Res :=
  .next (s.onDchOut dch.val fun _ _ x => if x.want && !x.latched then { x with cut := 0 } else x)

/-- READBACK_DISAGREE: the readback has differed from, or agreed with, the expected state for 1 ms; nothing is compared while the
group is released (R338). -/
def execReadbackDisagree (dch : Fin 512) (differs : Bool) (s : State) : Res :=
  .next (s.onDchOut dch.val fun g _ x => if g.released then x else { x with disagree := differs })

/-! ## Conversions (R363 to R367, R379 to R381) -/

/-- The number of R365's band for a current in nA, 0 wire break to 6 overload, without hysteresis. -/
def nominalBand (i : Int) : Nat :=
  if i < 500000 then 0 else if i < 3600000 then 1 else if i < 3800000 then 2 else if i ≤ 20500000 then 3
  else if i ≤ 21000000 then 4 else if i ≤ 30000000 then 5 else 6

/-- The upper threshold of a band in nA. -/
def bandTop (b : Nat) : Int :=
  match b with
  | 0 => 500000
  | 1 => 3600000
  | 2 => 3800000
  | 3 => 20500000
  | 4 => 21000000
  | _ => 30000000

/-- The band after a conversion: it leaves only past its threshold by 20 µA (R365). -/
def nextBand (b : Option Nat) (i : Int) : Nat :=
  match b with
  | none => nominalBand i
  | some b =>
    let up := decide (b < 6) && decide (bandTop b + 20000 < i)
    let down := decide (0 < b) && decide (i < bandTop (b - 1) - 20000)
    if up || down then nominalBand i else b

/-- CODE of a band (R368). -/
def bandCode (b : Nat) : Nat :=
  match b with
  | 0 => 5
  | 1 => 3
  | 2 => 1
  | 3 => 0
  | 4 => 1
  | 5 => 4
  | _ => 6

/-- A current in nA as binary64 mA. -/
def milliamps (i : Int) : W64 := dFrac i 1000000

/-- A value as the nearest multiple of 2^exp in the signed 27-bit field, and whether it was saturated (R366). -/
def toVal (v : W64) (exp : Int) : BitVec 27 × Bool :=
  match unp v with
  | .num neg m e =>
    let n := (integerOf .rne neg m (e - exp)).1
    if n < -67108864 then (BitVec.ofInt 27 (-67108864), true)
    else if 67108863 < n then (BitVec.ofInt 27 67108863, true) else (BitVec.ofInt 27 n, false)
  | .inf neg => (BitVec.ofInt 27 (if neg then -67108864 else 67108863), true)
  | _ => (0, false)

/-- EXP of a current-loop channel (R388). -/
def expOf (cfg : W32) : Int := (BitVec.ofNat 6 (fieldOf cfg 14 6)).toInt

/-- binary64 4.0 and 16.0. -/
def d4 : W64 := 0x4010000000000000#64
def d16 : W64 := 0x4030000000000000#64

/-- LO + q × (HI − LO), with q = (I − 4 mA) / 16 mA (R366). -/
def linearValue (i lo hi : W64) : W64 := dAdd lo (dMul (dDiv (dSub i d4) d16) (dSub hi lo))

/-- The square-root characteristic; CUTOFF in 0.1 % (R366). -/
def sqrtValue (i lo hi : W64) (cutoff : Nat) : W64 :=
  let q := dDiv (dSub i d4) d16
  let f := if dLt q 0 then 0 else dSqrt q
  let f := if dLt f (dFrac cutoff 1000) then 0 else f
  dAdd lo (dMul f (dSub hi lo))

/-- Linear interpolation in a table of 33 points, and whether an end clamped (R366, R370); `at_` gives the words of the table. -/
def tableValue (at_ : Nat → W32) (x : W64) : W64 × Bool :=
  let px (i : Nat) := toDouble (at_ (2 * i))
  let py (i : Nat) := toDouble (at_ (2 * i + 1))
  if dLt x (px 0) then (py 0, true)
  else if dLt (px 32) x then (py 32, true)
  else
    let i := ((List.range 32).find? fun i => dLe x (px (i + 1))).getD 31
    (dAdd (py i) (dDiv (dMul (dSub (py (i + 1)) (py i)) (dSub x (px i))) (dSub (px (i + 1)) (px i))), false)

/-- Word `j` of current-loop table `t` in use at the controller. -/
def GroupState.tblWord (g : GroupState) (t j : Nat) : W32 := sget (dflt 0) g.tblUse (0x200 + 0x108 * t + 4 * j)

/-- LO and HI of a channel at the controller. -/
def GroupState.lohi (g : GroupState) (k c : Nat) : W64 × W64 :=
  (toDouble (g.cfgAt k (0x180 + 8 * c)), toDouble (g.cfgAt k (0x184 + 8 * c)))

/-- The value of a current-loop channel at a sense current, and whether it was clamped (R366, R369). -/
def GroupState.agValue (g : GroupState) (k c : Nat) (i : W64) : W64 × Bool :=
  let cfg := g.chCfg k c
  let (lo, hi) := g.lohi k c
  if g.isOut k c then (linearValue i lo hi, false)
  else match fieldOf cfg 25 2 with
    | 1 => (sqrtValue i lo hi (fieldOf cfg 7 7), false)
    | 2 => tableValue (g.tblWord (fieldOf cfg 23 2)) i
    | _ => (linearValue i lo hi, false)

/-- A current-loop conversion (R363, R365, R366); `free` is the free value that stands for a value that is no number.
DESIGN CHOICE: log entry 104. -/
def GroupState.convertCurrent (g : GroupState) (k c : Nat) (nA : Int) (limiting : Bool) (free : W64) : GroupState :=
  let x := g.agc c
  let i := nA + x.offset
  let (v, clamped) := g.agValue k c (milliamps i)
  let (val, sat) := if dNan v then (free.setWidth 27, false) else toVal v (expOf (g.chCfg k c))
  g.setAg c { x with
    band := some (nextBand x.band i), val := val, limited := clamped || sat, fresh := true, current := i
    overload := limiting || decide (30000000 < i), fault := false }

/-- The range of a temperature type in °C (R379). -/
def tempRange (type : Nat) : Int × Int :=
  match type with
  | 1 => (-200, 1372)
  | 2 => (-210, 1200)
  | 3 => (-200, 1300)
  | 4 => (-200, 400)
  | 5 => (-200, 1000)
  | 6 => (-50, 1768)
  | 7 => (250, 1820)
  | _ => (-200, 850)

/-- A temperature conversion: within 2 % beyond the range extrapolated, further clamped (R380). -/
def GroupState.convertTemp (g : GroupState) (k c : Nat) (v : W64) : GroupState :=
  let (lo, hi) := tempRange (fieldOf (g.chCfg k c) 28 4)
  let x := g.agc c
  let below := dLt v (dInt lo)
  let above := dLt (dInt hi) v
  let far := dLt v (dFrac (51 * lo - hi) 50) || dLt (dFrac (51 * hi - lo) 50) v
  let w := if far then (if below then dInt lo else dInt hi) else v
  let r := toVal w (-14)
  g.setAg c { x with
    band := some (if far then 3 else if below || above then 1 else 0), val := r.1, limited := far || r.2, fresh := true
    fault := false }

/-- A temperature channel reads open or shorted: its value keeps the last result (R380). -/
def GroupState.sensorFails (g : GroupState) (c code : Nat) : GroupState :=
  g.setAg c { g.agc c with band := some code, fresh := true, fault := false }

/-- The resistance of a thermometer in mΩ; in 3-wire connection without the lead's (R379). -/
def rtdOhms (type : Nat) (milliohms lead : W32) : Int :=
  (milliohms.toNat : Int) - (if type = 9 ∨ type = 12 then lead.toNat else 0)

/-- A conversion with a thermocouple, open above 50 mV (R380). -/
def GroupState.convertThermocouple (g : GroupState) (k c : Nat) (uV : Int) (v : W64) : GroupState :=
  if 50000 < uV then g.sensorFails c 5 else if dNan v then g else g.convertTemp k c v

/-- A conversion with a resistance thermometer: open above 400 Ω or 4000 Ω, short below 10 Ω or 100 Ω (R380). -/
def GroupState.convertRtd (g : GroupState) (k c : Nat) (r : Int) (v : W64) : GroupState :=
  let unit : Int := if 11 ≤ fieldOf (g.chCfg k c) 28 4 then 10000 else 1000
  if 400 * unit < r then g.sensorFails c 5 else if r < 10 * unit then g.sensorFails c 6
  else if dNan v then g else g.convertTemp k c v

/-- CONVERSION: a conversion ends at its instant (R363, R380, R381). DESIGN CHOICE: log entry 104. -/
def execConversion (group : Fin 57) (chan : Fin 16) (result : Conversion) (s : State) : Res :=
  .next <|
    let k := group.val
    let c := chan.val
    let g := s.grp k
    let ag := grpKind k == 0xA0 && g.mode k c != 0
    let type := if grpKind k = 0xB0 then fieldOf (g.chCfg k c) 28 4 else 0
    if g.held then s
    else match result with
      | .current nA limiting =>
        if ag then (s.setGrp k (g.convertCurrent k c nA.toInt limiting s.freeVal)).drawn else s
      | .thermocouple uV v => if 1 ≤ type ∧ type ≤ 7 then s.setGrp k (g.convertThermocouple k c uV.toInt v) else s
      | .rtd r lead v => if 8 ≤ type then s.setGrp k (g.convertRtd k c (rtdOhms type r lead) v) else s
      | .coldJunction v bad =>
        if grpKind k = 0xB0 then
          let bad := bad || dNan v || dLt v (dInt (-45)) || dLt (dInt 110) v
          s.setGrp k { g with cjVal := if bad then g.cjVal else v, cjFault := bad, cjFresh := true }
        else s
      | .converterFault => if ag || type != 0 then s.setGrp k (g.setAg c { g.agc c with fault := true }) else s

/-! ## The spare converter (R377, R378) -/

/-- SPARE_VISIT_START: the reference is checked and the next channel in turn is visited (R377). -/
def execSpareVisitStart (group : Fin 16) (refBad : Bool) (s : State) : Res :=
  .next <|
    let k := 32 + group.val
    let g := s.grp k
    let order := (List.range 16).map fun i => (g.spareNext + i) % 16
    if g.held || g.spareBad || g.spareBusy || !(g.cfgAt k 0x100).getLsbD 23 then s
    else match order.find? fun c => g.mode k c != 0 with
      | none => s
      | some c =>
        if refBad then s.setGrp k { g with spareBad := true }
        else s.setGrp k { g with spareBusy := true, spareCh := c, spareNext := (c + 1) % 16 }

/-- A visit of the spare converter to channel `c` found `d` nA, signed (R378); the visit counts for Proof's round (R481). -/
def State.spareEnd (s : State) (k c : Nat) (d : Int) : State :=
  let g := s.grp k
  let tol := 1000 * fieldOf (g.cfgAt k 0x100) 24 8
  let x := g.agc c
  let s := { s with proof := { s.proof with done := insertNew s.proof.done (0x1000 + 16 * k + c) } }
  if d.natAbs ≤ tol then s.setGrp k (g.setAg c { x with offset := x.offset + d, calFail := false, lastD := d })
  else s.setGrp k ({ g with calFails := (g.calFails + 1) % 16 }.setAg c { x with calFail := true, lastD := d })

/-- SPARE_VISIT_END: `d` in nA, signed (R378). -/
def execSpareVisitEnd (group : Fin 16) (d : BitVec 32) (s : State) : Res :=
  .next <|
    let k := 32 + group.val
    let g := s.grp k
    if g.spareBusy then (s.setGrp k { g with spareBusy := false }).spareEnd k g.spareCh d.toInt else s

/-! ## Current-loop outputs (R360, R361, R371) -/

/-- A current-loop output changes; nothing is compared while the group is released or its domain not ON (R371). -/
def State.onAchOut (s : State) (n : Nat) (f : AgChan → AgChan) : State :=
  let k := 32 + n / 16
  let c := n % 16
  let g := s.grp k
  if g.held || g.released || g.dom != 2 || !g.isOut k c then s else s.setGrp k (g.setAg c (f (g.agc c)))

/-- OUTPUT_OPEN (R360, R361). -/
def execOutputOpen (ach : Fin 256) (s : State) : Res :=
  .next (s.onAchOut ach.val fun x => { x with opened := true, disagree := false })

/-- OUTPUT_DISAGREE: outside the window after a change of command the sense current has differed from it by more than 0.2 mA for 5 ms, or
has been within it for 5 ms (R371). -/
def execOutputDisagree (ach : Fin 256) (differs : Bool) (s : State) : Res :=
  .next (s.onAchOut ach.val fun x =>
    if differs then (if x.window = 0 then { x with disagree := !x.opened } else x) else { x with disagree := false, opened := false })

/-! ## Counters (R391 to R393, R397, R402) -/

/-- The level of a sample in mV by LEVEL; between the thresholds the previous one, which before the first sample is `free` (R392).
DESIGN CHOICE: log entry 142. -/
def counterLevel (single : Bool) (mv : Int) (prev : Option Bool) (free : Bool) : Bool :=
  if (if single then decide (15000 ≤ mv) else decide (200 < mv)) then true
  else if (if single then decide (mv ≤ 5000) else decide (mv < -200)) then false
  else prev.getD free

/-- The samples for which a level must stand to pass the glitch filter (R392). -/
def glitchSpan (flt : Nat) : Nat := if flt = 0 then 1 else 2 ^ (flt + 1)

/-- `n` samples at `level`: the input after them, and, where its filtered level changes, the sample at which it does, from 1, and the samples
since its edge before (R392). The first level is no edge. -/
def CgInput.sample (x : CgInput) (level : Bool) (n span : Nat) : CgInput × Option (Nat × Nat) :=
  let x := { x with raw := some level }
  match x.level with
  | none => ({ x with level := some level }, none)
  | some was =>
    if was = level then ({ x with run := 0, since := x.since + n }, none)
    else if span ≤ x.run + n then
      let p := span - x.run
      ({ x with level := some level, run := 0, since := n - p }, some (p, x.since + p))
    else ({ x with run := x.run + n, since := x.since + n }, none)

/-- What an edge of A, or of B where `b`, counts in modes 0x1 to 0x5: `rise` says that it rises, `other` is the other input's level (R391). -/
def edgeCount (m : Nat) (b rise other : Bool) : Int :=
  match m, b with
  | 1, false => if rise then (if other then -1 else 1) else 0
  | 2, false => if rise == other then -1 else 1
  | 3, false => if rise == other then -1 else 1
  | 3, true => if rise == other then 1 else -1
  | 4, false => if rise then (if other then -1 else 1) else 0
  | 5, false => if rise then 1 else 0
  | 5, true => if rise then -1 else 0
  | _, _ => 0

/-- Samples of a channel at which A changes at `pa` and B at `pb`: a change of both in one sample is a phase error in quadrature, edges too
close are overspeed; rising edges of A count in modes 0x6 and 0x7, and `time p` is the time of sample `p` (R391, R392). -/
def CgChan.takeEdges (x : CgChan) (m : Nat) (dir single : Bool) (pa pb : Option (Nat × Nat)) (time : Nat → W32) : CgChan :=
  let la := x.inA.level.getD false
  let lb := x.inB.level.getD false
  let at_ (e : Option (Nat × Nat)) : Nat := (e.map (·.1)).getD 0
  let phase := decide (1 ≤ m ∧ m ≤ 3) && pa.isSome && at_ pa == at_ pb
  let fast (e : Option (Nat × Nat)) : Bool := e.any fun e => decide (e.2 < if single then 500 else 10)
  let bWas := if at_ pa < at_ pb then !lb else lb
  let aWas := if at_ pb < at_ pa then !la else la
  let na := if pa.isSome && !phase then edgeCount m false la bWas else 0
  let nb := if pb.isSome && !phase then edgeCount m true lb aWas else 0
  let d := BitVec.ofInt 32 (na + nb)
  let rises := pa.isSome && la && (m == 6 || m == 7)
  let tooFast := decide (1 ≤ m ∧ m ≤ 7) && (fast pa || (decide (m ≤ 5) && fast pb))
  { x with
    raw := if dir then x.raw - d else x.raw + d, err := x.err || phase || tooFast, phase := if phase then true else if tooFast then false else x.phase
    edges := x.edges + rises.toNat, edgeAt := if rises then time (at_ pa) else x.edgeAt }

/-- Consecutive equal samples of a channel, of which `after` more follow up to time `t` (R391, R392). -/
def CgChan.sample (x : CgChan) (m : Nat) (cfg : W32) (free : Bool) (d : CounterSamples) (after : Nat) (t : W32) : CgChan :=
  let single := cfg.getLsbD 27
  let n := d.count.toNat
  let span := glitchSpan (fieldOf cfg 18 4)
  if n = 0 then x
  else
    let a := x.inA.sample (counterLevel single d.a.toInt x.inA.raw free) n span
    let b := x.inB.sample (counterLevel single d.b.toInt x.inB.raw free) n span
    { x with inA := a.1, inB := b.1 }.takeEdges m (cfg.getLsbD 26) single a.2 b.2
      fun p => t - BitVec.ofNat 32 ((after + n - p) * 5 / 8)

/-- The samples of a channel up to time `t` (R391, R392). -/
def CgChan.sampleAll (x : CgChan) (m : Nat) (cfg : W32) (free : Bool) (t : W32) : List CounterSamples → CgChan
  | [] => x
  | d :: l => (x.sample m cfg free d ((l.map fun d => d.count.toNat).sum) t).sampleAll m cfg free t l

/-- What the samples of a channel up to time `t` count in modes 0x1 to 0x7 (R391). -/
def GroupState.addCount (g : GroupState) (k : Nat) (free : Bool) (t : W32) (n : Counted) : GroupState :=
  let c := n.chan.val
  let m := g.mode k c
  if 1 ≤ m ∧ m ≤ 7 then g.setCg c ((g.cgc c).sampleAll m (g.chCfg k c) free t n.samples) else g

/-- A counter channel changes. -/
def State.onCch (s : State) (n : Nat) (f : GroupState → Nat → Nat → CgChan → CgChan) : State :=
  let k := 52 + n / 16
  let c := n % 16
  let g := s.grp k
  if g.held then s else s.setGrp k (g.setCg c (f g k c (g.cgc c)))

/-- COUNTER_INPUT_ERROR: overspeed in the counting modes, or in quadrature a phase error (R392, R393). -/
def execCounterInputError (cch : Fin 64) (phase : Bool) (s : State) : Res :=
  .next <| s.onCch cch.val fun g k c x =>
    let m := g.mode k c
    if 1 ≤ m ∧ m ≤ (if phase then 3 else 7) then { x with err := true, phase := phase } else x

/-- The number of an input in cause 0x08 and in the model's state, from 1. -/
def inputNo : CounterInput → Nat
  | .a => 1
  | .b => 2
  | .z => 3

/-- COUNTER_INPUT_FAULT: a differential input has stayed below 50 mV for 10 µs, or no longer does (R392). -/
def execCounterInputFault (cch : Fin 64) (input : CounterInput) (present : Bool) (s : State) : Res :=
  .next <| s.onCch cch.val fun g k c x =>
    if present && ((g.chCfg k c).getLsbD 27 || g.mode k c == 0) then x
    else { x with inFault := if present then inputNo input else if x.inFault = inputNo input then 0 else x.inFault }

/-- INDEX_EVENT: the raw count is latched and queued; a further event replaces a queued index entry that has no latch entry behind it
(R397). `samples` are those up to the edge. -/
def execIndexEvent (cch : Fin 64) (samples : List CounterSamples) (s : State) : Res :=
  .next <|
    let k := 52 + cch.val / 16
    let g := s.grp k
    let c := cch.val % 16
    let m := g.mode k c
    if g.held || !decide (1 ≤ m ∧ m ≤ 5) then s
    else
      let g := g.addCount k (s.freeVal.getLsbD 0) (s.time.ltb.setWidth 32) { chan := Fin.ofNat 16 c, samples := samples }
      let x := g.cgc c
      let r : CgRecord := { latch := false, num := 0, raw := x.raw.toNat % 0x100000 }
      let x :=
        if x.queue.length < 2 then { x with queue := x.queue ++ [r] }
        else match x.queue.getLast? with
          | some e => if e.latch then { x with replaced := x.replaced + 1 }
            else { x with queue := x.queue.dropLast ++ [r], replaced := x.replaced + 1 }
          | none => x
      (s.setGrp k (g.setCg c x)).drawn

/-- COUNTER_LATCH: at the commanded instant every counting channel's raw count is latched (R402). `counted` holds the channels' samples up
to that instant. -/
def execCounterLatch (group : Fin 4) (counted : List Counted) (s : State) : Res :=
  .next <|
    let k := 52 + group.val
    let g := s.grp k
    match g.latch with
    | none => s
    | some lid =>
      if g.held then s
      else
        let g := counted.foldl (fun g n => g.addCount k (s.freeVal.getLsbD 0) (s.time.ltb.setWidth 32) n) g
        let g := chans.foldl (fun g c =>
          let m := g.mode k c
          let x := g.cgc c
          let r : CgRecord := { latch := true, num := lid, raw := x.raw.toNat % 0x100000 }
          if 1 ≤ m ∧ m ≤ 5 then
            g.setCg c { x with
              queue := x.queue.take 1 ++ [r], replaced := if x.queue.length < 2 then x.replaced else x.replaced + 1 }
          else g) g
        (s.setGrp k { g with latch := none, latched := some lid }).drawn

/-! ## SSI (R398, R399) -/

/-- SSI_READ: the clock falls, or the read is skipped while the data line is not at 1 (R398); the clock runs only where the stage
drives (R401). -/
def execSsiRead (cch : Fin 64) (dataHigh : Bool) (s : State) : Res :=
  .next <| s.onCch cch.val fun g k c x =>
    if g.mode k c ≠ 8 ∨ g.driving = false ∨ g.released = true ∨ g.powered = false then x
    else if dataHigh then { x with reading := some s.time.ltb, skips := 0 }
    else { x with skips := x.skips + 1, ssiCode := if 4 ≤ x.skips + 1 then 6 else x.ssiCode }

/-- Gray code of `n` bits decoded (R398). -/
def fromGray (v : Nat) (n : Nat) : Nat := (List.range n).foldl (fun r i => r ^^^ (v >>> (i + 1))) v

/-- The outcome of a read by CODE, the first that applies (R399). -/
def ssiOutcome (mono : Nat) (f : SsiFrame) : Nat :=
  if f.extra then 4
  else match f.back with
    | none => 6
    | some t => if t < 10 * mono then 5 else if 40 * mono < t then 6 else 0

/-- SSI_READ_END (R399). -/
def execSsiReadEnd (cch : Fin 64) (frame : SsiFrame) (s : State) : Res :=
  .next <| s.onCch cch.val fun g k c x =>
    let cfg := g.cfgAt k (0x180 + 8 * c)
    let n := fieldOf cfg 26 6
    match x.reading with
    | none => x
    | some t =>
      let x := { x with reading := none, ssiCode := ssiOutcome (fieldOf cfg 10 6) frame }
      if x.ssiCode = 0 then
        let v := frame.bits % 2 ^ n
        { x with
          ssiVal := if (g.chCfg k c).getLsbD 17 then fromGray v n else v
          ssiNo := (x.ssiNo + 1) % 8, ssiAt := t, ssiSeg := 0 }
      else x

end Sys2Proof.Machine
end

