-- ==== Sys2Proof/Machine/FgcReport.lean ====
section
/-! DEFINITION. The report of a field group controller and the value burst after it (R339, R345, R368, R385, R386, R400, R403,
R604). -/

namespace Sys2Proof.Machine

/-- The contribution of a supply state to a value's tag: LOW UNCERTAIN cause 7, LOST and HIGH BAD cause 7 (R72). -/
def supplyTag (sup : Nat) : Tag :=
  match sup with
  | 0 => 0
  | 1 => mkTag 1 7
  | _ => mkTag 2 7

/-! ## Digital channels (R334, R339, R356) -/

/-- The value of a band; INDET keeps the previous one (R334). -/
def DgChan.bandValue (x : DgChan) : Bool :=
  match x.band with
  | .closed => true
  | .lineShort => true
  | .wireBreak => false
  | .opened => false
  | _ => x.prev

/-- The tag of a band (R334). -/
def bandTag : Band → Tag
  | .wireBreak => 0x90
  | .indetLow => 0x50
  | .indetHigh => 0x48
  | .lineShort => 0x90
  | _ => 0

/-- A channel of MODE 0b010 or 0b011. -/
def GroupState.wireMode (g : GroupState) (k c : Nat) : Bool := g.mode k c == 2 || g.mode k c == 3

/-- The value of a digital channel (R339). -/
def GroupState.dgValue (g : GroupState) (k c : Nat) : Bool :=
  let x := g.dgc c
  if g.wireMode k c then x.bandValue else x.filtered

/-- The tag of a digital channel (R339). -/
def GroupState.dgTag (g : GroupState) (k c : Nat) : Tag :=
  let x := g.dgc c
  let out := g.isOut k c
  if g.dom = 0 then 0xC0
  else mergeTags [
    if out then x.cmdTag else 0,
    if g.wireMode k c then bandTag x.band else 0,
    if out && (x.cut == 1 || x.latched) then 0x90 else 0,
    if out && (x.cut == 2 || x.disagree) then 0xB8 else 0,
    if out && (g.safe || g.released) then 0x58 else 0,
    supplyTag g.sup]

/-- The status code of a digital channel (R356); a cut-off that latches is shown once before the latch (R357). -/
def GroupState.dgStatus (g : GroupState) (k c : Nat) : Nat :=
  let x := g.dgc c
  let out := g.isOut k c
  let wire := g.wireMode k c
  if out && x.latched && x.cutShown then 7
  else lowest [(1, wire && x.band == .wireBreak), (2, wire && (x.band == .indetLow || x.band == .indetHigh)),
    (3, wire && x.band == .lineShort), (4, out && x.cut == 1), (5, out && x.cut == 2), (6, out && x.disagree),
    (8, out && g.released), (9, out && g.safe), (10, g.sup != 0)]

/-! ## Annunciators (R604) -/

/-- The tag of an annunciator channel (R604). -/
def GroupState.anTag (g : GroupState) (k c : Nat) : Tag :=
  let x := g.anc c
  let lim := g.anLimited k c
  if g.dom = 0 then 0xC0
  else mergeTags [
    if x.probe != 0 || x.latched then 0x90 else 0,
    if x.tripped || x.therm == 2 then 0xB8 else 0,
    if lim then 0x48 else 0,
    if g.safe || g.released then 0x58 else 0,
    supplyTag g.sup] ||| (if lim then 1 else 0)

/-! ## Value words (R368, R403) -/

/-- CODE of a current-loop channel: the highest that applies (R368). -/
def GroupState.agCode (g : GroupState) (k c : Nat) : Nat :=
  let x := g.agc c
  let cfg := g.chCfg k c
  let out := g.isOut k c
  let noTable := !out && fieldOf cfg 25 2 == 2 && !g.tblOk.testBit (fieldOf cfg 23 2)
  [if out then 0 else (x.band.map bandCode).getD 0, if x.calFail then 2 else 0, if out && x.opened then 3 else 0,
    if out && x.disagree then 4 else 0, if x.overload then 6 else 0, if x.fault || noTable then 7 else 0].foldl max 0

/-- CODE of a temperature channel (R368, R381). -/
def GroupState.tgCode (g : GroupState) (k c : Nat) : Nat :=
  let x := g.agc c
  let type := fieldOf (g.chCfg k c) 28 4
  [x.band.getD 0, if g.cjFault && decide (1 ≤ type ∧ type ≤ 7) then 2 else 0, if x.fault then 7 else 0].foldl max 0

/-- A value word (R368). -/
def valueWord (fresh lim : Bool) (code : Nat) (val : BitVec 27) : Nat :=
  fresh.toNat * 2 ^ 31 + lim.toNat * 2 ^ 30 + code % 8 * 2 ^ 27 + val.toNat

/-- The value word of a current-loop or temperature channel. -/
def GroupState.agWord (g : GroupState) (k c : Nat) : Nat :=
  let x := g.agc c
  let code := if grpKind k = 0xA0 then (if g.mode k c = 0 then 0 else g.agCode k c) else g.tgCode k c
  valueWord x.fresh x.limited code x.val

/-- The value word of the cold junction (R385). -/
def GroupState.cjWord (g : GroupState) : Nat :=
  valueWord g.cjFresh false (if g.cjFault then 2 else 0) (toVal g.cjVal (-14)).1

/-- CODE of a counter channel as its controller reports it (R393, R399, R400). -/
def GroupState.cgCode (g : GroupState) (k c : Nat) : Nat :=
  let x := g.cgc c
  let m := g.mode k c
  [if x.err then 3 else 0, if m = 8 then x.ssiCode else 0, if x.inFault ≠ 0 then 7 else 0].foldl max 0

/-- The value word of a counter channel, 24 bits; `t` is SAMPLE_T (R403). -/
def GroupState.cgWord (g : GroupState) (k c : Nat) (t : W32) : Nat :=
  let x := g.cgc c
  let low :=
    match g.mode k c with
    | 6 => x.edges % 256 * 2 ^ 13 + min ((t - x.edgeAt).toNat * 4 / 5) 8191
    | 7 => x.edges % 256 * 2 ^ 13 + min ((t - x.edgeAt).toNat * 4 / 5) 8191
    | 8 => x.ssiSeg * 2 ^ 19 + x.ssiNo * 2 ^ 16 + x.ssiVal / 2 ^ (16 * x.ssiSeg) % 65536
    | _ => x.raw.toNat % 0x100000
  g.cgCode k c * 2 ^ 21 + low

/-- The record of a counter channel in a value burst (R397, R403). -/
def GroupState.cgRecordWord (g : GroupState) (c : Nat) : Nat :=
  let x := g.cgc c
  match x.queue.head? with
  | some r =>
    c * 2 ^ 28 + r.latch.toNat * 2 ^ 27 + (if r.latch then r.num else x.replaced % 8) * 2 ^ 24 + 2 ^ 23 + r.raw
  | none => c * 2 ^ 28

/-! ## The report -/

/-- The code of admission in OBEY (R345). -/
def Stream.code (x : Stream) : Nat := if x.adm then 2 else if 0 < x.run then 1 else 0

/-- Bits as a number, the first the lowest. -/
def bitsNat (l : List Bool) : Nat := l.foldr (fun b n => 2 * n + b.toNat) 0

/-- Bytes 12 to 37 of a report (R345, R385, R403, R604). -/
def GroupState.reportPayload (g : GroupState) (k : Nat) (t : W32) : List Byte :=
  match grpKind k with
  | 0x80 =>
    natBytes (bitsNat (chans.map fun c => g.dgValue k c)) 2
      ++ natBytes ((chans.map fun c => g.dgStatus k c).foldr (fun v n => 16 * n + v) 0) 8 ++ chans.map fun c => g.dgTag k c
  | 0xB8 =>
    natBytes (bitsNat (chans.map fun c => g.sounding k c)) 2
      ++ natBytes ((chans.map fun c => g.anStatus k c).foldr (fun v n => 16 * n + v) 0) 8 ++ chans.map fun c => g.anTag k c
  | 0xA0 =>
    ((List.range 6).flatMap fun c => natBytes (g.agWord k c) 4)
      ++ [BitVec.ofNat 8 (g.driving.toNat * 128 + g.spareBusy.toNat * 64 + g.spareBad.toNat * 32 + g.spareCh),
        BitVec.ofNat 8 (g.tblBad % 16 * 16 + g.calFails % 16)]
  | 0xB0 =>
    let part := g.seq % 3
    let cs := if part = 2 then [12, 13, 14, 15] else (List.range 6).map fun i => 6 * part + i
    (cs.flatMap fun c => natBytes (g.agWord k c) 4)
      ++ (if part = 2 then natBytes g.cjWord 4 ++ natBytes 0 4 else [])
      ++ [BitVec.ofNat 8 (g.driving.toNat * 128), 0]
  | _ =>
    ((List.range 8).flatMap fun c => natBytes (g.cgWord k c t) 3)
      ++ [BitVec.ofNat 8 (g.driving.toNat * 128),
        BitVec.ofNat 8 (match g.latched with
          | some lid => 128 + lid % 8 * 16
          | none => 0)]

/-- Byte 42: the group slot, and for DG groups XSW and SHED of channel SEQ mod 16 (R345). -/
def GroupState.groupByte (g : GroupState) (k : Nat) : Nat :=
  let c := g.seq % 16
  if grpKind k = 0x80 then k + (g.dgc c).on.toNat * 128 + (g.dgc c).shed.toNat * 64 else k

/-- The report of a controller with SAMPLE_T `t` (R345). -/
def GroupState.report (g : GroupState) (k : Nat) (t : W32) : List Byte :=
  sealBurst ([0xBC, 0x12] ++ natBytes g.seq 2 ++ natBytes t.toNat 4
    ++ [BitVec.ofNat 8 (g.sup * 32 + g.dom * 8 + g.fresh.toNat * 4 + g.tied.toNat * 2),
      BitVec.ofNat 8 (g.holder * 64 + g.safe.toNat * 32 + g.released.toNat * 16 + g.own.code * 4 + g.peer.code)]
    ++ natBytes (if g.holder = 0 then 0 else g.hclaim) 2 ++ g.reportPayload k t
    ++ [BitVec.ofNat 8 g.mbAck, BitVec.ofNat 8 g.mbRes, BitVec.ofNat 8 g.lrej, BitVec.ofNat 8 g.prej,
      BitVec.ofNat 8 (g.groupByte k), BitVec.ofNat 8 (g.hchg * 8 + sget (dflt 0) g.fuse (g.seq % 16))])

/-- The value burst after a report, of AG and CG groups (R386, R403). -/
def GroupState.valueBurst (g : GroupState) (k : Nat) (t : W32) : List Byte :=
  let body :=
    if grpKind k = 0xA0 then (List.range 10).flatMap fun i => natBytes (g.agWord k (6 + i)) 4
    else ((List.range 8).flatMap fun i => natBytes (g.cgWord k (8 + i) t) 3)
      ++ (List.range 4).flatMap fun i => natBytes (g.cgRecordWord (4 * (g.seq % 4) + i)) 4
  sealBurst ([0xBC, 0x13, BitVec.ofNat 8 k, BitVec.ofNat 8 g.seq] ++ body)

/-- The channels whose value a report, with its value burst, carries. -/
def GroupState.carried (g : GroupState) (k : Nat) : List Nat :=
  if grpKind k = 0xB0 then
    (if g.seq % 3 = 2 then [12, 13, 14, 15] else (List.range 6).map fun i => 6 * (g.seq % 3) + i)
  else chans

/-- What a report has carried is no longer new; a record sent leaves its queue, and the next SSI segment follows. -/
def GroupState.afterReport (g : GroupState) (k : Nat) : GroupState :=
  let seq := g.seq
  let g := (g.carried k).foldl (fun g c => match grpKind k with
    | 0x80 => let x := g.dgc c; if x.latched && !x.cutShown then g.setDg c { x with cutShown := true } else g
    | 0xB4 =>
      let x := g.cgc c
      let sent := decide (c / 4 = seq % 4)
      g.setCg c { x with
        err := false, ssiSeg := if x.ssiSeg < 2 then x.ssiSeg + 1 else 0
        queue := if sent then x.queue.tail else x.queue, replaced := if sent && !x.queue.isEmpty then 0 else x.replaced }
    | 0xB8 => g
    | _ => let x := g.agc c; if x.fresh then g.setAg c { x with fresh := false } else g) g
  { g with seq := (seq + 1) % 65536, latched := none, cjFresh := g.cjFresh && !(grpKind k == 0xB0 && seq % 3 == 2) }

/-- SAMPLE_T at `offset` into the period: from TIME of the period's local burst, extrapolated where there is none (R345). -/
def GroupState.sampleT (g : GroupState) (offset : W32) : W32 := (if g.rx0.isSome then g.time else g.time + 1250) + offset

/-- The latest conversion instant whose result a report can carry, in ticks from the start of its period: instants fall 53.5 µs before each loop
frame boundary, their results are there 29.5 µs later, and the report leaves 1.0 µs into the period (R345, R364, R385). DEDUCED: log entry 141. -/
def instantOffset (lfph : Nat) : W32 := BitVec.ofInt 32 ((-7125 - ((6250 - (lfph : Int)) % 15625)) / 2)

/-- Where SAMPLE_T lies in the period: at the conversion instant in AG and TG groups once LFPH places it, otherwise at `offset`, which is the
controller's own sampling instant (R345, R364, R385). -/
def GroupState.sampleOffset (g : GroupState) (k : Nat) (offset : W32) : W32 :=
  if grpKind k = 0xA0 ∨ grpKind k = 0xB0 then (g.lfph.map instantOffset).getD offset else offset

/-- A controller sends its report, and in AG and CG groups the value burst after it; what it measured of AFS-1 and AFS-2 goes with it (R74).
PRESUMED: log entry 130. -/
def GroupState.sendReport (g : GroupState) (k : Nat) (offset : W32) (counted : List Counted) (free : Bool) : GroupState :=
  let t := g.sampleT (g.sampleOffset k offset)
  let g := if grpKind k = 0xB4 then counted.foldl (fun g n => g.addCount k free t n) g else g
  let rep := g.report k t
  let val := if grpKind k = 0xA0 ∨ grpKind k = 0xB4 then some (g.valueBurst k t) else none
  let g := g.afterReport k
  { g with link := { g.link with wireRep := some rep, wireVal := val, wireFeeds := (g.feed1, g.feed2) } }

/-- FGC_REPORT: 1.0 µs after the slot 0 comma, once a first local burst has been accepted, and not in loopback; `offset` places SAMPLE_T in ticks
from the period's start, `counted` holds the counters' samples up to it (R345, R385, R639). -/
def execFgcReport (group : Fin 57) (offset : W32) (counted : List Counted) (s : State) : Res :=
  .next <|
    let k := group.val
    let g := s.grp k
    if grpKind k = 0 || g.held || !g.started || decide (0 < g.loopback) then s
    else (s.setGrp k (g.sendReport k offset counted (s.freeVal.getLsbD 0))).drawn

/-- LOOPBACK_END: after the commanded number of periods the controller sends its next report (R639). -/
def execLoopbackEnd (group : Fin 57) (s : State) : Res :=
  .next <|
    let k := group.val
    let g := s.grp k
    if grpKind k = 0 || g.held || !g.started || g.loopback == 0 then s
    else s.setGrp k ({ g with loopback := 0 }.sendReport k 0 [] false)

end Sys2Proof.Machine
end

