-- ==== Sys2Proof/Machine/LinkSend.lean ====
section
/-! DEFINITION. The logic end of a field link, outbound: what a burst carries and when it is composed and sent (R341, R342, R350, R370,
R384, R402, R410, R461 to R464, R603). -/

namespace Sys2Proof.Machine

/-! ## Commands (R238, R342, R370, R603) -/

/-- The word that commands channel `c` of a page: a task's output word in its published bank, or the word that a loop writes (R238);
0 with tag 0xC0 where the image names none. -/
def State.outWord (s : State) (p c : Nat) : TWord :=
  match s.boot.image.bind fun i => i.outputs.find? fun o => o.page == p && o.chan == c with
  | none => { data := 0, tag := 0xC0 }
  | some o =>
    match o.task with
    | some (t, off) => s.tpmAt (blockWord (s.desc t) (s.task t).published + off)
    | none => s.tpmAt o.word

/-- The nearest integer to x × num / den, ties to even; 0 where x is no finite number. -/
def dRoundScaled (x : W64) (num den : Nat) : Int :=
  match unp x with
  | .num neg m e =>
    let n := m * num * 2 ^ e.toNat
    let d := den * 2 ^ (-e).toNat
    let q := n / d
    let r := 2 * (n % d)
    signedInt neg (if d < r ∨ (r = d ∧ q % 2 = 1) then q + 1 else q)
  | _ => 0

/-- binary64 3.8, 20.5, 3.5 and 21.5 mA. -/
def outMin : W64 := dFrac 38 10
def outMax : W64 := dFrac 205 10

/-- The current of an output command in units of 3 µA (R370); `lo`, `hi` and `tbl` are the page's, `ok` says that a table has passed
R367. -/
def outCurrent (cfg : W32) (lo hi v : W64) (tbl : Nat → W32) (ok : Bool) : Nat :=
  let span := dSub hi lo
  let alarm := dFrac (alarmLevel cfg) 1000
  let i :=
    if dNan v || dEq span 0 || !dFinite span then alarm
    else
      let i := if fieldOf cfg 25 2 = 2 && ok then (tableValue tbl v).1
        else dAdd d4 (dDiv (dMul d16 (dSub v lo)) span)
      if dLt i outMin then outMin else if dLt outMax i then outMax else i
  (dRoundScaled i 1000 3).toNat

/-- The command of a current-loop channel (R370). -/
def State.agCommand (s : State) (k c : Nat) : Nat :=
  let p := grpPage k
  let cfg := s.reg (rk p (0x140 + 4 * c))
  let l := (s.grp k).link
  let t := fieldOf cfg 23 2
  outCurrent cfg (toDouble (s.reg (rk p (0x180 + 8 * c)))) (toDouble (s.reg (rk p (0x184 + 8 * c)))) (s.outWord p c).data
    (fun j => sget (dflt 0) l.tblUse (0x200 + 0x108 * t + 4 * j)) (l.tblOk.testBit t)

/-- The command bytes of a burst, from byte 12 on: OUT and OTAG, CMD, or the annunciators' bytes (R342, R384, R603). -/
def State.commandBytes (s : State) (k : Nat) : List Byte :=
  let p := grpPage k
  match grpKind k with
  | 0x80 =>
    natBytes (bitsNat (chans.map fun c => (s.outWord p c).data.getLsbD 0)) 2 ++ chans.map fun c => (s.outWord p c).tag
  | 0xA0 => natBytes ((chans.map fun c => s.agCommand k c % 8192).foldr (fun v n => 8192 * n + v) 0) 26
  | 0xB8 => chans.map fun c => (s.outWord p c).data.setWidth 8 &&& 0xCF
  | _ => []

/-! ## The mailbox (R350, R384, R402, R603) -/

/-- The registers of the mailbox cycle, in order (R350, R384, R603). -/
def mailboxCycle (kind : Nat) : List Nat :=
  0x100 :: offsRow 0x140 4 16 ++ (match kind with
    | 0xA0 => offsRow 0x180 4 32 ++ offsRow 0x200 4 264
    | 0xB4 => offsRow 0x180 4 32
    | 0xB8 => ((List.range 16).flatMap fun i => offsRow (0x180 + 16 * i) 4 3) ++ offsRow 0x300 4 48
    | _ => [])

/-- The logic end of a group runs: CTRL.EN is 1 and no block reset of its page has been accepted (R119, R350). -/
def State.linkOn (s : State) (k : Nat) : Bool :=
  s.flag (rk (grpPage k) Reg.CTRL) 0 && !s.flag (rk (grpPage k) Reg.CTRL) 1

/-- A register of a field group page was written: it is sent before the cycle goes on (R350). -/
def State.linkDirty (s : State) (k off : Nat) : State :=
  let g := s.grp k
  if (mailboxCycle (grpKind k)).contains off && s.linkOn k then
    s.setGrp k { g with link := { g.link with dirty := insertNew g.link.dirty off } }
  else s

/-- The last word of a table has been sent: the logic end takes the version into use under R367. -/
def State.takeOutTable (s : State) (k : Nat) (l : LinkEnd) (off : Nat) : LinkEnd :=
  match tblPlace (grpKind k) off with
  | some (t, 65, 66) =>
    let base := 0x200 + 0x108 * t
    if grpKind k = 0xA0 ∧ tableRises (fun j => s.reg (rk (grpPage k) (base + 4 * j))) = true then
      { l with
        tblOk := withBit l.tblOk t true
        tblUse := (List.range 66).foldl (fun m j => sset (dflt 0) m (base + 4 * j) (s.reg (rk (grpPage k) (base + 4 * j)))) l.tblUse }
    else l
  | _ => l

/-- The next mailbox operation, and the logic end after it: a clear first, then what Proof and the tests ask, then registers (R350). -/
def State.nextOp (s : State) (k : Nat) (l : LinkEnd) : MbOp × LinkEnd :=
  let seq := (l.mbSeq + 1) % 256
  let note (o : MbOp) (l : LinkEnd) : MbOp × LinkEnd := (o, { l with sent := (o :: l.sent).take 64 })
  let regOp (off : Nat) : MbOp := { seq := seq, op := 1, addr := off, data := s.reg (rk (grpPage k) off) }
  if l.clr ≠ 0 then
    match l.clrSeq with
    | some q => ({ seq := q, op := 2, addr := 0, data := BitVec.ofNat 32 l.clr }, l)
    | none => note { seq := seq, op := 2, addr := 0, data := BitVec.ofNat 32 l.clr } { l with mbSeq := seq, clrSeq := some seq }
  else match l.special with
    | o :: rest => note { o with seq := seq } { l with mbSeq := seq, special := rest }
    | [] =>
      match l.dirty with
      | off :: rest => note (regOp off) { l with mbSeq := seq, dirty := rest }
      | [] =>
        let cycle := mailboxCycle (grpKind k)
        let off := (cycle[l.cyc]?).getD 0x100
        let l := s.takeOutTable k l off
        note (regOp off) { l with mbSeq := seq, cyc := (l.cyc + 1) % cycle.length }

/-- The eight mailbox bytes of R342. -/
def opBytes (o : MbOp) : List Byte :=
  [BitVec.ofNat 8 o.seq, BitVec.ofNat 8 o.op] ++ natBytes o.addr 2 ++ natBytes o.data.toNat 4

/-- The mailbox bytes of a burst and the logic end after it: in AG groups half an operation (R384). -/
def State.mailboxBytes (s : State) (k : Nat) (l : LinkEnd) : List Byte × LinkEnd :=
  if grpKind k ≠ 0xA0 then
    let r := s.nextOp k l
    (opBytes r.1, r.2)
  else if l.seq % 2 = 0 then
    let r := s.nextOp k l
    ((opBytes r.1).take 4, { r.2 with half := some r.1 })
  else (natBytes ((l.half.map (·.data.toNat)).getD 0) 4, { l with half := none })

/-! ## Composition (R342, R461, R463, R464) -/

/-- DRV_SEL names the driving module: the holder, or the peer of the holder for a group moved to it (R463, R474). -/
def State.drvSel (s : State) (k : Nat) : Bool := s.holder != s.pair.moved.contains (grpPage k)

/-- CTRL of a burst (R86, R335, R342). -/
def State.ctrlByte (s : State) (k : Nat) : Nat :=
  let peerAct := grpKind k == 0x80 && !s.flag Reg.SYS_CT_IN0 7 && (s.grp k).link.peerDomOn
  peerAct.toNat * 128 + (s.drvSel k).toNat * 64 + sget (dflt 0) s.pwr.fieldReq (pageDomain (grpPage k)) * 16

/-- The side code in byte 11: A, B or SOLO (R342). -/
def State.sideCode (s : State) : Nat := s.side

/-- The burst of a group for the next period, but for what is written as it leaves: CLAIM, TIME, LFPH, LATCH and the CRC (R342, R462).
DEDUCED: log entry 56. -/
def State.composeBurst (s : State) (k : Nat) : State :=
  let g := s.grp k
  let cmd := s.commandBytes k
  let (mb, l) := s.mailboxBytes k g.link
  let body :=
    match grpKind k with
    | 0x80 => cmd ++ mb ++ natBytes 0 6
    | 0xA0 => cmd ++ mb ++ natBytes 0 2
    | 0xB8 => cmd ++ natBytes 0 2 ++ mb ++ natBytes 0 6
    | _ => natBytes 0 18 ++ mb ++ natBytes 0 6
  let b := [0xBC, 0x11] ++ natBytes 0 2 ++ natBytes l.seq 2 ++ natBytes 0 4
    ++ [BitVec.ofNat 8 (s.ctrlByte k), BitVec.ofNat 8 (s.sideCode * 64 + k)] ++ body
  let s := s.setGrp k { g with link := { l with composed := some b, seq := (l.seq + 1) % 65536 } }
  if s.mirroring then
    { s with pair := { s.pair with
      hashAcc := (natBytes (grpPage k) 2 ++ cmd).foldl crc64Byte s.pair.hashAcc } }
  else s

/-! ## Sending (R341, R384, R410, R462) -/

/-- Replace bytes of a burst from byte `at_` on. -/
def patch (b : List Byte) (at_ : Nat) (l : List Byte) : List Byte := b.take at_ ++ l ++ b.drop (at_ + l.length)

/-- OTS time `t` in ns as an LTB tick, by the mapping in force (R410). -/
def State.otsToLtb (s : State) (t : W64) : W64 :=
  let inc := if s.flag Reg.TIME_OTS_CTRL 24 then s.time.inc1 else s.time.inc0
  let d : Int := t.toNat * 2 ^ 32 - (s.time.ots.toNat : Int)
  s.time.ltb + BitVec.ofInt 64 ((d + inc.toNat / 2) / (max 1 inc.toNat : Nat))

/-- The latch instant of a snapshot after the start of this period, in 10 ns, where it falls in this period's window (R410). -/
def State.latchOffset (s : State) (n : Snapshot) : Option Nat :=
  if n.ltbT.isSome then none
  else
    let d := (s.otsToLtb n.t - s.time.ltb).toInt * 8
    let ofs := ((d + 5) / 10).toNat
    if 5000 ≤ d ∧ d ≤ 14999 then some (max 500 (min ofs 1499)) else none

/-- The snapshot to latch in this period, with its offset. -/
def State.latchNow (s : State) : Option (Snapshot × Nat) :=
  s.cap.snaps.findSome? fun n => (s.latchOffset n).map fun o => (n, o)

/-- LATCH of CG bursts in this period (R402). -/
def latchField : Option (Snapshot × Nat) → Nat
  | some (n, o) => 0x8000 + n.slot % 8 * 4096 + o
  | none => 0

/-- The composed burst as it leaves: CLAIM of the claim in force, TIME, LFPH, LATCH and the CRC (R342, R384, R402, R462). -/
def State.leaving (s : State) (k latch : Nat) (b : List Byte) : List Byte :=
  let b := patch b 2 (natBytes (s.fld Reg.CLAIM_OWN 0 16) 2)
  let b := patch b 6 (natBytes (s.time.ltb.toNat % 2 ^ 32) 4)
  let b := if grpKind k = 0xA0 ∨ grpKind k = 0xB0 then patch b 42 (natBytes ((15625 - s.lfiCyc) % 15625) 2) else b
  sealBurst (if grpKind k = 0xB4 then patch b 12 (natBytes latch 2) else b)

/-- A new period on the wires of a group: the burst of slot 0; what came in the last period has been received or is gone.
DEDUCED: log entry 56. -/
def State.sendBurst (s : State) (k latch : Nat) : State :=
  let g := s.grp k
  let en := s.linkOn k && s.sendsStreams
  let next := if s.relays && s.linkOn k then sget (dflt none) s.pair.relayNext k else none
  let bubble := en && s.relays && g.link.relay.isNone
  let s := if bubble then s.countSat Reg.TWIN_RELAY 16 16 1 else s
  s.setGrp k { g with link := { g.link with
    wire0 := if en then g.link.composed.map (s.leaving k latch) else none
    composed := none, relay := next
    wireRep := none, wireVal := none, rep := none } }

end Sys2Proof.Machine
end

