-- ==== Sys2Proof/Machine/CgLink.lean ====
section
/-! DEFINITION. Counter channels at the logic end: positions, index handling, periods and frequencies, SSI values, codes and tags (R394 to
R404, R411, R415). -/

namespace Sys2Proof.Machine

/-! ## The logic end's view of a group -/

/-- Change the logic end of a group. -/
def State.onLink (s : State) (k : Nat) (f : LinkEnd → LinkEnd) : State :=
  let g := s.grp k
  s.setGrp k { g with link := f g.link }

/-- What the logic end holds of counter channel `c`. -/
def State.cgEnd (s : State) (k c : Nat) : CgEnd := sget (dflt {}) (s.grp k).link.cg c

/-- Store what the logic end holds of counter channel `c`. -/
def State.setCgEnd (s : State) (k c : Nat) (x : CgEnd) : State := s.onLink k fun l => { l with cg := sset (dflt {}) l.cg c x }

/-- Store a word of a group's region (R351). -/
def State.setRegion (s : State) (k i : Nat) (v : TWord) : State :=
  s.onLink k fun l => { l with region := sset (dflt {}) l.region i v }

/-- A word of a group's region. -/
def State.regionAt (s : State) (k i : Nat) : TWord := sget (dflt {}) (s.grp k).link.region i

/-- An event of a channel of a group. -/
def State.chanEvent (s : State) (k c cause : Nat) (data : W64 := 0) : State :=
  s.logEvt (grpPage k) (chanNo k c) cause data

/-- A bit of the group's event register. -/
def State.grpEvt (s : State) (k b : Nat) : State := s.setEvt (rk (grpPage k) 0x128) b

/-- A group's event: its bit and its record. -/
def State.groupEvent (s : State) (k b cause : Nat) (data : W64 := 0) : State :=
  (s.grpEvt k b).logEvt (grpPage k) 0xFFF cause data

/-! ## Positions (R394) -/

/-- A 20-bit number as signed. -/
def sext20 (n : Nat) : W64 := (BitVec.ofNat 20 n).signExtend 64

/-- CHCFGc of a counter channel in its page. -/
def State.cgCfg (s : State) (k c : Nat) : W32 := s.reg (rk (grpPage k) (0x140 + 4 * c))

/-- The position of a channel at a raw count of 20 bits, from what the logic end holds (R394). -/
def CgEnd.posAt (x : CgEnd) (raw : Nat) : W64 := x.ext + sext20 (raw + 0x100000 - x.last20) + x.offset

/-- The counter of a channel after a report's raw count; a position set acts now (R394, R415). -/
def CgEnd.count (x : CgEnd) (raw : Nat) : CgEnd :=
  let x := if x.started then { x with ext := x.ext + sext20 (raw + 0x100000 - x.last20), last20 := raw }
    else { x with started := true, ext := sext20 raw, offset := 0, last20 := raw }
  match x.posset with
  | some v => { x with offset := v.signExtend 64 - x.ext, posset := none }
  | none => x

/-! ## Index handling (R396, R397) -/

/-- The deviation of an index edge: P − E, reduced modulo W where W is not 0 (R396). -/
def indexDeviation (p : W64) (e w : W32) : Int :=
  let d := p.toInt - e.toInt
  if w = 0 then d
  else
    let m : Int := w.toNat
    let r := d % m
    if r < m - m / 2 then r else r - m

/-- Store HOMED of a channel. -/
def State.setHomed (s : State) (k c : Nat) (on : Bool) : State := s.setFlag (rk (grpPage k) 0x12C) (16 + c) on

/-- HOMED of a channel. -/
def State.homed (s : State) (k c : Nat) : Bool := s.flag (rk (grpPage k) 0x12C) (16 + c)

/-- The last deviation or correction of a channel, in word 35 + c (R404). -/
def State.recordDev (s : State) (k c : Nat) (d : Int) : State := s.setRegion k (35 + c) { data := BitVec.ofInt 64 d, tag := 0 }

/-- An index event with its deviation: within TOL it clears CODE 2 and CODE 3, beyond it sets CODE 2 (R393, R396). -/
def State.indexFlag (s : State) (k c : Nat) (within : Bool) (dev : Int) : State :=
  let x := s.cgEnd k c
  let s := s.recordDev k c dev
  if within then s.setCgEnd k c { x with code2 := false, code3 := false }
  else ((s.setCgEnd k c { x with code2 := true }).grpEvt k 7).chanEvent k c 0x01 (BitVec.ofInt 64 dev)

/-- An index record of a channel is applied (R396, R397). -/
def State.indexRecord (s : State) (k c raw zcnt : Nat) : State :=
  let p := grpPage k
  let s := if zcnt ≠ 0 then s.chanEvent k c 0x0A (BitVec.ofNat 64 zcnt) else s
  let x := s.cgEnd k c
  let pos := x.posAt raw
  let e := s.reg (rk p (0x300 + 8 * c))
  let dev := indexDeviation pos e (s.reg (rk p (0x304 + 8 * c)))
  let within := decide (dev.natAbs ≤ s.fld (rk p (0x380 + 4 * c)) 16 16)
  let huge (d : Int) : Bool := decide (2 ^ 27 ≤ d.natAbs)
  match fieldOf (s.cgCfg k c) 24 2 with
  | 0 => s
  | 1 => s.indexFlag k c within dev
  | 2 =>
    if within && !huge dev then
      let s := (s.indexFlag k c true dev).recordDev k c (-dev)
      let x := s.cgEnd k c
      let s := s.setCgEnd k c { x with offset := x.offset - BitVec.ofInt 64 dev }
      if dev = 0 then s else s.chanEvent k c 0x02 (BitVec.ofInt 64 (-dev))
    else s.indexFlag k c false dev
  | _ =>
    if s.homed k c then s.indexFlag k c within dev
    else
      let d := pos.toInt - e.toInt
      if huge d then s.indexFlag k c false d
      else
        let offset := x.offset - BitVec.ofInt 64 d
        let s := (s.recordDev k c (-d)).setHomed k c true
        (s.setCgEnd k c { x with offset := offset, code2 := false, code3 := false }).chanEvent k c 0x03 offset

/-- A latch record of a channel: the position at the latch instant of the snapshot with that LID (R411, R414). -/
def State.latchRecord (s : State) (k c raw lid : Nat) (tag : Tag) : State :=
  let ch := chanNo k c
  let pos := (s.cgEnd k c).posAt raw
  { s with cap := { s.cap with snaps := s.cap.snaps.map fun n =>
      match n.ltbT with
      | some t =>
        if n.slot % 8 = lid ∧ n.latched.contains ch = false ∧ n.partially = false then
          { n with
            latched := n.latched ++ [ch]
            words := sset (dflt {}) (sset (dflt {}) n.words (8 + 2 * ch) { data := pos, tag := tag }) (9 + 2 * ch) { data := t, tag := 0 } }
        else n
      | none => n } }

/-- A record of a value burst (R397, R403). -/
def State.cgRecord (s : State) (k r : Nat) : State :=
  let c := r / 2 ^ 28
  if r / 2 ^ 23 % 2 = 0 then s
  else if r / 2 ^ 27 % 2 = 0 then s.indexRecord k c (r % 2 ^ 20) (r / 2 ^ 24 % 8)
  else s.latchRecord k c (r % 2 ^ 20) (r / 2 ^ 24 % 8) (s.regionAt k (2 * c)).tag

/-! ## Period and frequency (R395) -/

/-- A time in units of 2 ns as seconds. -/
def seconds2 (t : Int) : W64 := dFrac t 500000000

/-- New edges of a report: their count modulo 256 and the time of the latest (R395, R403). DEDUCED: log entry 102. -/
def CgEnd.takeEdges (x : CgEnd) (n : Nat) (t : W64) (ago : Nat) : CgEnd :=
  if !x.started then { x with started := true, last20 := n }
  else
    let de := (n + 256 - x.last20) % 256
    if de = 0 then x
    else
      let at_ := t * 4 - BitVec.ofNat 64 (5 * ago)
      let prev := if x.edges = 0 then at_ else at_ - BitVec.ofNat 64 ((at_ - x.edgeAt).toNat / de)
      { x with
        last20 := n, edges := x.edges + de, edgeAt := at_, edgePrev := prev
        history := x.history ++ [(t * 4, x.edges + de, at_)] }

/-- The value of a channel in period mode and whether it is limited; none before two edges (R395). -/
def CgEnd.period (x : CgEnd) (t : W64) (scale : W64) : Option (W64 × Bool) :=
  if x.edges < 2 then none
  else
    let last := (x.edgeAt - x.edgePrev).toInt
    let since := (t * 4 - x.edgeAt).toInt
    if last < since then some (dMul (seconds2 since) scale, true) else some (dMul (seconds2 last) scale, false)

/-- The latest entry of a history at or before a time. -/
def latestAt (h : List (W64 × Nat × W64)) (t : Int) : Option (W64 × Nat × W64) :=
  (h.filter fun e => decide ((e.1.toNat : Int) ≤ t)).getLast?

/-- The value of a channel in frequency mode; GATE in ms (R395, R405). DEDUCED: log entry 102. -/
def CgEnd.frequency (x : CgEnd) (t : W64) (gate : Nat) (scale : W64) : W64 :=
  let g : Int := gate * 500000
  if g < (t * 4 - x.edgeAt).toInt then 0
  else match latestAt x.history ((x.edgeAt.toNat : Int) - g) with
    | none => 0
    | some e =>
      if x.edges - e.2.1 < 2 then 0
      else dMul (dDiv (dInt (x.edges - e.2.1 : Nat)) (seconds2 (x.edgeAt - e.2.2).toInt)) scale

/-- Entries that no later frequency needs are dropped. -/
def CgEnd.prune (x : CgEnd) (gate : Nat) : CgEnd :=
  match latestAt x.history ((x.edgeAt.toNat : Int) - gate * 500000) with
  | none => x
  | some e => { x with history := x.history.dropWhile fun f => decide (f.1.toNat < e.1.toNat) }

/-! ## A channel's value word (R394, R400, R403, R404) -/

/-- The tag of CODE (R400). -/
def cgTag (code : Nat) : Tag :=
  match code with
  | 0 => 0
  | 1 => 0x70
  | 2 => 0x78
  | 7 => 0x90
  | _ => 0xB8

/-- A segment of an SSI value; the value once all three of one read have come (R403). -/
def CgEnd.takeSegment (x : CgEnd) (seg no bits : Nat) : CgEnd :=
  let x := if x.segNo = no then x else { x with segNo := no, segs := [] }
  { x with segs := sset (dflt none) x.segs seg (some bits) }

/-- The SSI value of three segments. -/
def CgEnd.ssiValue (x : CgEnd) : Option Nat :=
  match sget (dflt none) x.segs 0, sget (dflt none) x.segs 1, sget (dflt none) x.segs 2 with
  | some a, some b, some c => some (a + b * 2 ^ 16 + c * 2 ^ 32)
  | _, _, _ => none

/-- CODE of a channel at the logic end: the highest that applies (R400). -/
def State.cgCodeNow (s : State) (k c word : Nat) : Nat :=
  let x := s.cgEnd k c
  let cfg := s.cgCfg k c
  let counting := decide (1 ≤ fieldOf cfg 28 4 ∧ fieldOf cfg 28 4 ≤ 5)
  [word, if counting && fieldOf cfg 24 2 == 3 && !s.homed k c then 1 else 0, if counting && x.code2 then 2 else 0,
    if x.code3 then 3 else 0].foldl max 0

/-- CODE 3 is latched (R393); the event tells overspeed from a phase error (R418). -/
def State.latchCode3 (s : State) (k c : Nat) (phase : Bool) : State :=
  let x := s.cgEnd k c
  if x.code3 then s else (s.setCgEnd k c { x with code3 := true }).chanEvent k c 0x04 (BitVec.ofNat 64 phase.toNat)

/-- A channel's value and time stamp; none keeps the last ones. `word` is the value word's lower part, `t` the extended SAMPLE_T. -/
def State.cgValue (s : State) (k c low : Nat) (t : W64) : Option (W64 × W64 × Bool) × State :=
  let cfg := s.cgCfg k c
  let m := fieldOf cfg 28 4
  let x := s.cgEnd k c
  let scale := toDouble (s.reg (rk (grpPage k) (0x200 + 8 * c)))
  if 1 ≤ m ∧ m ≤ 5 then
    let x := x.count (low % 0x100000)
    (some (x.ext + x.offset, t, false), s.setCgEnd k c x)
  else if m = 6 ∨ m = 7 then
    let gate := fieldOf cfg 6 10
    let x := (x.takeEdges (low / 2 ^ 13 % 256) t (low % 8192)).prune gate
    let s := s.setCgEnd k c x
    if m = 7 then (some (x.frequency t gate scale, t, false), s)
    else match x.period t scale with
      | some (v, lim) => (some (v, t, lim), s)
      | none => (some (s.freeVal, t, false), s.drawn)
  else if m = 8 then
    let x := x.takeSegment (low / 2 ^ 19 % 4) (low / 2 ^ 16 % 8) (low % 65536)
    let s := s.setCgEnd k c x
    (x.ssiValue.map fun v => (BitVec.ofNat 64 v, ((s.grp k).cgc c).ssiAt, false), s)
  else (some ((s.regionAt k (2 * c)).data, t, false), s)

/-- A snapshot whose T a read's latch instant does not pass takes the read once its segments have come (R411). -/
def State.snapRead (s : State) (k c : Nat) (v at_ : TWord) : State :=
  let n := chanNo k c
  { s with cap := { s.cap with snaps := s.cap.snaps.map fun m =>
      match m.ltbT with
      | some t =>
        if at_.data.toNat ≤ t.toNat then
          { m with words := sset (dflt {}) (sset (dflt {}) m.words (8 + 2 * n) v) (9 + 2 * n) at_ }
        else m
      | none => m } }

/-- A counter channel takes its value word of 24 bits; `sup` is the supply's contribution, `off` says that the domain is OFF. The answer
is CODE and the state after it. -/
def State.takeCounter (s : State) (k c word : Nat) (t : W64) (sup : Tag) (off : Bool) : Nat × State :=
  let code := word / 2 ^ 21 % 8
  let s := if code = 3 then s.latchCode3 k c ((s.grp k).cgc c).phase else s
  let r := s.cgValue k c (word % 2 ^ 21) t
  let s := r.2
  let code := s.cgCodeNow k c code
  let tag : Tag := if off then 0xC0 else mergeTags [cgTag code, sup]
  match r.1 with
  | some (v, at_, lim) =>
    let value : TWord := { data := v, tag := tag ||| (if lim then 1 else 0) }
    let at_ : TWord := { data := at_, tag := 0 }
    let s := if fieldOf (s.cgCfg k c) 28 4 = 8 then s.snapRead k c value at_ else s
    (code, (s.setRegion k (2 * c) value).setRegion k (2 * c + 1) at_)
  | none => (code, s.setRegion k (2 * c) { s.regionAt k (2 * c) with tag := tag })

/-- More than 262 periods without an accepted report: every counting channel gets CODE 3, logged once for the group (R394). -/
def State.reportGap (s : State) (k : Nat) : State :=
  let l := chans.filter fun c => decide (1 ≤ fieldOf (s.cgCfg k c) 28 4 ∧ fieldOf (s.cgCfg k c) 28 4 ≤ 5)
  let s := l.foldl (fun s c => s.setCgEnd k c { s.cgEnd k c with code3 := true }) s
  s.logEvt (grpPage k) 0xFFF 0x04 2

/-! ## Commands of the CG page (R396, R415) -/

/-- The effect of a write to CGn.CLR (R393). -/
def State.writeCgClr (s : State) (k : Nat) (v : W32) : State :=
  chans.foldl (fun s c => if v.getLsbD c then s.setCgEnd k c { s.cgEnd k c with code3 := false } else s) s

/-- COUNTER_CLEAR (R415). -/
def execCounterClear (w : Writer) (page : Nat) (value : W32) (s : State) : Res :=
  .next (if pageBlock page = 0xB4 then s.command w (rk page 0x114) value fun s => s.writeCgClr (page - 0x080) value else s)

/-- The effect of a write to CGn.HOME (R396). -/
def State.writeHome (s : State) (k : Nat) (v : W32) : State :=
  chans.foldl (fun s c => if v.getLsbD c then s.setHomed k c false else s) s

/-- HOME_ARM (R396). -/
def execHomeArm (w : Writer) (page : Nat) (value : W32) (s : State) : Res :=
  .next (if pageBlock page = 0xB4 then s.command w (rk page 0x12C) value fun s => s.writeHome (page - 0x080) value else s)

/-- The effect of a write to CGn.POSSETc (R415). -/
def State.writePosset (s : State) (k c : Nat) (v : W32) : State := s.setCgEnd k c { s.cgEnd k c with posset := some v }

/-- POSITION_SET (R415). -/
def execPositionSet (w : Writer) (page : Nat) (chan : Fin 16) (value : W32) (s : State) : Res :=
  .next (if pageBlock page = 0xB4 then
      s.command w (rk page (0x204 + 8 * chan.val)) value fun s => s.writePosset (page - 0x080) chan.val value
    else s)

end Sys2Proof.Machine
end

