-- ==== Sys2Proof/Machine/LinkRecv.lean ====
section
/-! DEFINITION. The logic end of a field link, inbound: reports, value bursts, the group region, events and field supplies (R74, R86,
R351 to R358, R367 to R369, R385 to R390, R403, R404, R604, R608), and the field period (R341). -/

namespace Sys2Proof.Machine

/-! ## Snapshots take what a report is about to replace (R411) -/

/-- The TPM word at which the open frame buffer begins; where R460 mirrors it, from 4 µs before a boundary, the next one. -/
def State.openBuffer (s : State) : Nat := s.frameBuffer (if s.mirroring && decide (14625 < s.lfiCyc) then s.lfi + 1 else s.lfi)

/-- This module's own reports write the group's region (R460, R474), and LOOP, whose registers place the image, is on. -/
def State.writesImage (s : State) (k : Nat) : Bool :=
  s.domState 6 == 2 &&
    (if s.follower then s.pair.moved.contains (grpPage k) else !s.pair.fromPeer.contains (grpPage k))

/-- A word of a group's region as the input image holds it: own, or the peer's (R411, R460, R474). -/
def State.imageAt (s : State) (k i : Nat) : TWord :=
  if s.writesImage k || s.domState 6 != 2 then s.regionAt k i else s.tpmAt (s.openBuffer + 64 + 64 * k + i)

/-- The words of a snapshot's record that a group fills, with their values in the region. -/
def State.snapWords (s : State) (k : Nat) : List (Nat × TWord) :=
  chans.flatMap fun c =>
    let v := s.imageAt k (2 * c)
    let t := s.imageAt k (2 * c + 1)
    let n := chanNo k c
    match grpKind k with
    | 0x80 => (136 + n, v) :: (if c = 0 then [(648 + k, t)] else [])
    | 0xA0 => [(680 + 2 * n, v), (681 + 2 * n, t)]
    | 0xB0 => [(1192 + 2 * n, v), (1193 + 2 * n, t)]
    | 0xB4 => if 6 ≤ fieldOf (s.cgCfg k c) 28 4 then [(8 + 2 * n, v), (9 + 2 * n, t)] else []
    | _ => []

/-- A snapshot takes a group's values. DEDUCED: log entry 57. -/
def State.snapTake (s : State) (k : Nat) (n : Snapshot) : Snapshot :=
  if n.taken.contains k then n
  else { n with
    taken := n.taken ++ [k], words := (s.snapWords k).foldl (fun m e => sset (dflt {}) m e.1 e.2) n.words }

/-- Before a report with SAMPLE_T after T replaces a group's values, the snapshots take them (R411). DEDUCED: log entry 57. -/
def State.snapBefore (s : State) (k : Nat) (t : W64) : State :=
  { s with cap := { s.cap with snaps := s.cap.snaps.map fun n =>
      match n.ltbT with
      | some u => if u.toNat < t.toNat then s.snapTake k n else n
      | none => n } }

/-! ## The input image (R234, R351 to R354, R460) -/

/-- Write words of a group's region into the open frame buffer. -/
def State.putImage (s : State) (k : Nat) (l : List (Nat × TWord)) : State :=
  let base := s.openBuffer + 64 + 64 * k
  l.foldl (fun s e => s.setTpm (base + e.1) e.2) s

/-- The whole region of a group goes into the open frame buffer (R353). -/
def State.putRegion (s : State) (k : Nat) : State :=
  if s.writesImage k then s.putImage k ((List.range 64).map fun i => (i, s.regionAt k i)) else s

/-- The worse of a tag and 0x98 (R354). -/
def staleTag (t : Tag) : Tag := if 2 ≤ tagQ t then t else 0x98

/-- The region while the reports are timed out: every value with the worse of its tag and 0x98 (R354). -/
def State.putStale (s : State) (k : Nat) : State :=
  let value (i : Nat) : Bool :=
    if i < 32 then i % 2 == 0
    else match grpKind k with
      | 0xA0 => decide (35 ≤ i ∧ i < 51)
      | 0xB4 => false
      | _ => i == 32
  if s.writesImage k then
    s.putImage k ((List.range 64).map fun i =>
      let v := s.regionAt k i
      (i, if value i then { v with tag := staleTag v.tag } else v))
  else s

/-- SAMPLE_T extended to the latest LTB value not after the own LTB (R352). -/
def State.extendT (s : State) (t : Nat) : W64 :=
  let hi := s.time.ltb.toNat / 2 ^ 32
  let v := hi * 2 ^ 32 + t
  if s.time.ltb.toNat < v then BitVec.ofNat 64 (v - 2 ^ 32) else BitVec.ofNat 64 v

/-! ## Field supplies (R74, R92, R93) -/

/-- The cause of a field supply's new state (R93). -/
def supplyCause (code : Nat) : Nat :=
  match code with
  | 0 => 0x13
  | 1 => 0x10
  | 2 => 0x11
  | 3 => 0x12
  | _ => 0x26

/-- FSUP_STAT shows a supply's state, `i` 0 AFS-1, 1 AFS-2, 2 ANS, 3 SFS; a change is flagged and logged (R74, R92, R93). -/
def State.showSupply (s : State) (i code : Nat) : State :=
  if s.fld Reg.PWR_FSUP_STAT (3 * i) 3 = code then s
  else ((s.setFld Reg.PWR_FSUP_STAT (3 * i) 3 code).setEvt Reg.PWR_FSUP_EVT i).logEvt 0x003 (0x010 + i) (supplyCause code)

/-- A group's reports say what it measures of its supplies: they are accepted, and the group is not switched off (R74). -/
def State.measures (s : State) (k : Nat) : Bool := (s.grp k).link.reporting && s.domState (pageDomain (grpPage k)) != 0

/-- The worst state that the groups of `ks` that report it show; MONFAULT where none does (R74). -/
def State.worstFeed (s : State) (ks : List Nat) (f : LinkEnd → Nat) : Nat :=
  let l := (ks.filter s.measures).map fun k => f (s.grp k).link
  if l.isEmpty then 4 else l.foldl max 0

/-- The shared field supplies follow the groups' reports (R74). -/
def State.updateSupplies (s : State) : State :=
  let ks := (List.range 24).map (32 + ·)
  ((s.showSupply 0 (s.worstFeed ks (·.feed1))).showSupply 1 (s.worstFeed ks (·.feed2))).showSupply 2 (s.worstFeed [56] (·.feed1))

/-- The supply of a digital group as its report shows it (R74, R92, R93). -/
def State.showDgSupply (s : State) (k old new : Nat) : State :=
  if old = new then s
  else ((s.setFlag Reg.PWR_FSUP_DG_OK k (new == 0)).setEvt Reg.PWR_FSUP_DG_EVT k).logEvt 0x003 (0x020 + k) (supplyCause new)

/-! ## Events of a report (R357, R358, R390, R418, R608) -/

/-- d of a channel's latest visit, as the events carry it (R390). -/
def AgChan.visitData (x : AgChan) : W64 := BitVec.ofNat 64 (BitVec.ofInt 32 x.lastD).toNat

/-- A calibration check of channel `c` failed (R378, R390). -/
def State.calFailed (s : State) (k c : Nat) : State :=
  let s := s.onLink k fun l => { l with seenCal := withBit l.seenCal c true }
  (s.grpEvt k 7).chanEvent k c 0x09 ((s.grp k).agc c).visitData

/-- The calibration events of a channel whose status code the report shows as `code`: a failure that is still present at re-admission, and a
check passed after a failure (R357, R378). -/
def State.calEvent (s : State) (k c code : Nat) : State :=
  let logged := (s.grp k).link.seenCal.testBit c
  if code = 6 ∧ logged = false then s.calFailed k c
  else if logged && !((s.grp k).agc c).calFail then
    (s.onLink k fun l => { l with seenCal := withBit l.seenCal c false }).chanEvent k c 0x0A ((s.grp k).agc c).visitData
  else s

/-- The calibration events of a current-loop report: every further failure that CALFAIL shows is that of the channel visited (R357, R378,
R385). -/
def State.calEvents (s : State) (k : Nat) (b : List Byte) : State :=
  let fails := bitsAt b 37 0 4
  let s := if (s.grp k).link.seenFails.any (· != fails) then s.calFailed k (bitsAt b 36 0 4) else s
  let s := s.onLink k fun l => { l with seenFails := some fails }
  chans.foldl (fun s c => s.calEvent k c (s.fld (rk (grpPage k) (0x10C + 4 * (c / 8))) (4 * (c % 8)) 4)) s

/-- Put an element in a list of channels that wait. -/
def State.wait (s : State) (k c : Nat) (dis : Bool) : State :=
  s.onLink k fun l => if dis then { l with waitDis := insertNew l.waitDis c } else { l with waitCut := insertNew l.waitCut c }

/-- µA of a current in nA, as the events carry it. -/
def microamps (i : Int) : Nat := (i / 1000).toNat % 65536

/-- A channel's status code changes from `o` to `n`, in a digital group. -/
def State.dgCodeEvent (s : State) (k c o n : Nat) : State :=
  let s := if o = 1 then s.chanEvent k c 0x02 else if o = 3 then s.chanEvent k c 0x04 else if o = 6 then s.chanEvent k c 0x09 else s
  match n with
  | 1 => s.chanEvent k c 0x01
  | 3 => s.chanEvent k c 0x03
  | 4 => s.chanEvent k c 0x05
  | 5 => s.wait k c false
  | 6 => s.wait k c true
  | 7 => s.chanEvent k c 0x07
  | _ => s

/-- The same in a current-loop group. -/
def State.agCodeEvent (s : State) (k c o n : Nat) : State :=
  let x := (s.grp k).agc c
  let mode := fieldOf (s.reg (rk (grpPage k) (0x140 + 4 * c))) 20 3
  let out := mode == 3 || mode == 4
  let fail (v : Nat) : Bool := !out && (v == 3 || v == 4)
  let bad (v : Nat) : Bool := out && (v == 3 || v == 11)
  let s := if o = 1 then s.chanEvent k c 0x02 else s
  let s := if fail o && !fail n then s.chanEvent k c 0x04 else s
  let s := if bad o && !bad n then s.chanEvent k c 0x08 else s
  let s := if fail n && !fail o then s.chanEvent k c 0x03 (BitVec.ofNat 64 (microamps x.current)) else s
  match n with
  | 1 => s.chanEvent k c 0x01
  | 3 => if out then s.chanEvent k c 0x06 (BitVec.ofNat 64 x.target) else s
  | 5 => s.chanEvent k c 0x05 (BitVec.ofNat 64 (microamps x.current))
  | 11 => s.chanEvent k c 0x07 (BitVec.ofNat 64 (x.target % 65536 * 65536 + microamps x.current))
  | _ => s

/-- The same in a temperature group. -/
def State.tgCodeEvent (s : State) (k c o n : Nat) : State :=
  let s := if o = 3 then s.chanEvent k c 0x02 else if o = 2 then s.chanEvent k c 0x04 else s
  match n with
  | 2 => s.chanEvent k c 0x03
  | 3 => s.chanEvent k c 0x01
  | 4 => s.chanEvent k c 0x07
  | _ => s

/-- The same in a counter group. -/
def State.cgCodeEvent (s : State) (k c o n : Nat) : State :=
  let s := if 2 ≤ o ∧ o ≤ 7 then s.chanEvent k c 0x09 (BitVec.ofNat 64 o) else s
  match n with
  | 4 => s.chanEvent k c 0x05
  | 5 => s.chanEvent k c 0x06
  | 6 => s.chanEvent k c 0x07
  | 7 => s.chanEvent k c 0x08 (BitVec.ofNat 64 (((s.grp k).cgc c).inFault - 1))
  | _ => s

/-- The same in group AN; the thermal and partner events have their own conditions. -/
def State.anCodeEvent (s : State) (k c o n : Nat) : State :=
  let s := if o = 1 then s.chanEvent k c 0x02 else if o = 2 then s.chanEvent k c 0x04 else s
  match n with
  | 1 => s.chanEvent k c 0x01
  | 2 => s.chanEvent k c 0x03
  | 3 => (s.grpEvt k 7).chanEvent k c 0x05 (BitVec.ofNat 64 (((s.grp k).anc c).trips - 1))
  | 4 => (s.grpEvt k 7).chanEvent k c 0x06
  | _ => s

/-- A channel's status code as an admitted report shows it. -/
def State.codeEvent (s : State) (k c n : Nat) : State :=
  let o := ((s.grp k).link.seenCodes[c]?).getD 0
  if o = n then s
  else
    let s := s.grpEvt k 3
    match grpKind k with
    | 0x80 => s.dgCodeEvent k c o n
    | 0xA0 => s.agCodeEvent k c o n
    | 0xB0 => s.tgCodeEvent k c o n
    | 0xB4 => s.cgCodeEvent k c o n
    | _ => s.anCodeEvent k c o n

/-- The status codes that the CHSTAT registers show (R356). -/
def State.codes (s : State) (k : Nat) : List Nat := chans.map fun c => s.fld (rk (grpPage k) (0x10C + 4 * (c / 8))) (4 * (c % 8)) 4

/-- Store a channel's status code. -/
def State.setCode (s : State) (k c n : Nat) : State := s.setFld (rk (grpPage k) (0x10C + 4 * (c / 8))) (4 * (c % 8)) 4 n

/-- The events of the channels after an admitted report (R357). -/
def State.channelEvents (s : State) (k : Nat) : State :=
  let now := s.codes k
  let s := chans.foldl (fun s c => s.codeEvent k c ((now[c]?).getD 0)) s
  s.onLink k fun l => { l with seenCodes := now }

/-- Events 0x06 and 0x08 of the channel that this report names by its SEQ (R345, R357). -/
def State.waitingEvents (s : State) (k : Nat) (b : List Byte) : State :=
  let c := leAt b 2 2 % 16
  let l := (s.grp k).link
  let s := if l.waitCut.contains c then s.chanEvent k c 0x06 (BitVec.ofNat 64 (bitsAt b 42 6 1)) else s
  let s := if l.waitDis.contains c then s.chanEvent k c 0x08 (BitVec.ofNat 64 (bitsAt b 42 7 1)) else s
  s.onLink k fun l => { l with waitCut := l.waitCut.filter (· != c), waitDis := l.waitDis.filter (· != c) }

/-- Thermal and partner events of group AN (R598, R601, R608). -/
def State.anExtraEvents (s : State) (k : Nat) : State :=
  let g := s.grp k
  let temp (c : Nat) : W64 := BitVec.ofInt 64 ((g.anc c).temp.getD 0)
  let plays := chans.map fun c => match (g.anc c).playsFor with
    | some d => d + 1
    | none => 0
  let s := chans.foldl (fun s c =>
    let o := (g.link.seenTherm[c]?).getD 0
    let n := (g.anc c).therm
    let s :=
      if o = n then s
      else if n = 0 then (s.grpEvt k 8).chanEvent k c 0x09 (temp c)
      else if n = 2 then (s.grpEvt k 8).chanEvent k c 0x08 (temp c)
      else if o = 0 then (s.grpEvt k 8).chanEvent k c 0x07 (temp c) else s
    let po := (g.link.seenPlays[c]?).getD 0
    let pn := (plays[c]?).getD 0
    let s := if po ≠ 0 ∧ po ≠ pn then s.chanEvent k c 0x0B (BitVec.ofNat 64 (po - 1)) else s
    if pn ≠ 0 ∧ po ≠ pn then s.chanEvent k c 0x0A (BitVec.ofNat 64 (pn - 1)) else s) s
  s.onLink k fun l => { l with seenTherm := chans.map fun c => (g.anc c).therm, seenPlays := plays }

/-- The group's events after an admitted report: safe states, holder, release, FRESH, a held mailbox write, the spare converter (R357,
R358, R377, R390). -/
def State.groupEvents (s : State) (k : Nat) (b : List Byte) : State :=
  let l := (s.grp k).link
  let g := s.reg (rk (grpPage k) 0x104)
  let o := l.seenG
  let oldClaim := if fieldOf o 9 2 = 0 then 0 else fieldOf o 16 16
  let newClaim := if fieldOf g 9 2 = 0 then 0 else fieldOf g 16 16
  let s := if bitsAt b 8 2 1 = 1 ∧ l.seenFresh = false then s.logEvt (grpPage k) 0xFFF 0x16 else s
  let s := if g.getLsbD 8 && !o.getLsbD 8 then s.groupEvent k 0 0x10 (BitVec.ofNat 64 (s.fld (rk (grpPage k) 0x100) 0 17)) else s
  let s := if !g.getLsbD 8 && o.getLsbD 8 then s.groupEvent k 1 0x11 (BitVec.ofNat 64 newClaim) else s
  let s := if fieldOf g 9 2 ≠ fieldOf o 9 2 then s.groupEvent k 2 0x12 (BitVec.ofNat 64 (oldClaim * 65536 + newClaim)) else s
  let s := if g.getLsbD 7 && !o.getLsbD 7 then s.groupEvent k 6 0x15 else s
  let s :=
    if bAt b 39 = 1 ∧ bAt b 38 ≠ l.seenAck then
      s.groupEvent k 5 0x17 (BitVec.ofNat 64 (((l.sent.find? fun o => o.seq == bAt b 38).map (·.addr)).getD 0))
    else s
  let bad := grpKind k == 0xA0 && bitsAt b 36 5 1 == 1
  let s := if bad && !l.seenBad then s.logEvt (grpPage k) 0xFFF 0x0B else s
  let pulse := bAt b 38 != l.seenAck && grpKind k == 0x80
    && (l.sent.find? fun o => o.seq == bAt b 38 && o.op == 1 && o.addr == 0x1F0).isSome
  s.onLink k fun l => { l with
    seenG := g, seenFresh := bitsAt b 8 2 1 == 1, seenAck := bAt b 38, seenBad := bad
    pulseRes := if pulse then some (bAt b 39) else l.pulseRes }

/-! ## Values of a report (R351, R369, R387, R404, R604) -/

/-- The tag of CODE: `kind` and, for a current loop, whether the channel is an output (R368). -/
def codeTag (kind code : Nat) : Tag :=
  match code with
  | 0 => 0
  | 1 => 0x48
  | 2 => if kind = 0xA0 then 0x70 else 0xB8
  | 3 => if kind = 0xA0 then 0xB8 else 0x88
  | 4 => 0xB8
  | 5 => 0x90
  | 6 => 0x90
  | _ => 0xF8

/-- The status code of a current-loop or temperature channel, by CODE and the group's state (R388, R389). -/
def agStatusCode (kind code : Nat) (out driven safe released supBad : Bool) : Nat :=
  if kind = 0xA0 then
    lowest [(1, !out && code == 5), (2, !out && code == 1), (3, code == 3), (4, !out && code == 4), (5, code == 6), (6, code == 2),
      (7, code == 7), (8, out && released), (9, out && safe), (10, supBad), (11, out && code == 4)]
  else
    lowest [(1, code == 1), (2, code == 3), (3, code == 5), (4, code == 6), (5, code == 2), (7, code == 7),
      (8, driven && released), (9, driven && safe), (10, supBad)]

/-- A value of 27 bits times 2^exp as binary64; exact. -/
def valueOf (v : BitVec 27) (exp : Int) : W64 :=
  asW64 (roundFp f64 .rne (decide (v.toInt < 0)) v.toInt.natAbs exp)

/-- What a report says of its group: supply, domain OFF, SAFE, RELEASED. -/
structure GroupView where
  sup : Nat
  off : Bool
  safe : Bool
  released : Bool
deriving DecidableEq, Repr

/-- FSTAT and OBEY of a report (R345). -/
def groupView (b : List Byte) : GroupView :=
  { sup := bitsAt b 8 5 3, off := bitsAt b 8 3 2 == 0, safe := bitsAt b 9 5 1 == 1, released := bitsAt b 9 4 1 == 1 }

/-- A current-loop or temperature channel takes its value word (R368, R369, R387). -/
def State.takeValue (s : State) (k c word : Nat) (t : W64) (v : GroupView) : State :=
  let kind := grpKind k
  let cfg := s.reg (rk (grpPage k) (0x140 + 4 * c))
  let mode := fieldOf cfg 20 3
  let out := kind == 0xA0 && (mode == 3 || mode == 4)
  let code := word / 2 ^ 27 % 8
  let lim : Tag := BitVec.ofNat 8 (word / 2 ^ 30 % 2)
  let tag : Tag :=
    if v.off then 0xC0
    else mergeTags [codeTag kind code, supplyTag v.sup, if out && (v.safe || v.released) then 0x58 else 0] ||| lim
  let val := valueOf (BitVec.ofNat 27 word) (if kind = 0xA0 then expOf cfg else -14)
  let s := s.setRegion k (2 * c) { data := val, tag := tag }
  let s := if word / 2 ^ 31 % 2 = 1 then s.setRegion k (2 * c + 1) { data := t, tag := 0 } else s
  let s :=
    if kind = 0xA0 then s.setRegion k (35 + c) { data := milliamps ((s.grp k).agc c).current, tag := tag } else s
  s.setCode k c (agStatusCode kind code out (kind == 0xB0 && decide (8 ≤ fieldOf cfg 28 4)) v.safe v.released (v.sup != 0))

/-- A counter channel takes its value word (R403, R415). -/
def State.takeCg (s : State) (k c word : Nat) (t : W64) (v : GroupView) : State :=
  let r := s.takeCounter k c word t (supplyTag v.sup) v.off
  let ssi := fieldOf (s.cgCfg k c) 28 4 == 8
  let code := lowest [(r.1, r.1 != 0), (8, ssi && v.released), (9, ssi && v.safe), (10, v.sup != 0)]
  r.2.setCode k c code

/-- Words 32 to 34 that every kind shares or names (R351, R387, R404, R604). -/
def State.putGroupWords (s : State) (k : Nat) (w32 : TWord) : State :=
  let p := grpPage k
  let s := s.setRegion k 32 w32
  let s := s.setRegion k 33 { data := s.reg (rk p 0x110) ++ s.reg (rk p 0x10C), tag := 0 }
  s.setRegion k 34 { data := (s.reg (rk p 0x104)).setWidth 64, tag := 0 }

/-- Word 2c of group AN: sounding, ON as obeyed and the applied level (R604). -/
def State.anWord (s : State) (k c : Nat) (sounding : Bool) : W64 :=
  let g := s.grp k
  BitVec.ofNat 64 (sounding.toNat + (g.anc c).on.toNat * 2 + g.anLevel k c * 256)

/-- The hottest bridge temperature in °C, tagged 0xB8 where a sensor has failed (R604). -/
def GroupState.hottest (g : GroupState) : TWord :=
  let l := chans.map fun c => (g.anc c).temp
  let m := l.foldl (fun (a : Int) t => max a (t.getD (-16000))) (-16000)
  { data := dFrac m 16, tag := if l.any Option.isNone then 0xB8 else 0 }

/-- The region words of a digital or annunciator report (R351, R604). -/
def State.takeStates (s : State) (k : Nat) (b : List Byte) (t : W64) : State :=
  let s := chans.foldl (fun s c =>
    let on := bitsAt b (12 + c / 8) (c % 8) 1 == 1
    let v := if grpKind k = 0x80 then BitVec.ofNat 64 on.toNat else s.anWord k c on
    (s.setRegion k (2 * c) { data := v, tag := BitVec.ofNat 8 (bAt b (22 + c)) }).setRegion k (2 * c + 1) { data := t, tag := 0 }) s
  let s := s.putGroupWords k
    { data := BitVec.ofNat 64 (leAt b 12 2), tag := mergeTags (chans.map fun c => BitVec.ofNat 8 (bAt b (22 + c))) }
  if grpKind k = 0xB8 then s.setRegion k 35 (s.grp k).hottest else s

/-- The registers that every report updates: GSTAT, CNT_FGC and the fuse map (R356, R388). -/
def State.takeStatus (s : State) (k : Nat) (b : List Byte) (rxOk : Bool) : State :=
  let p := grpPage k
  let kind := grpKind k
  let seq := leAt b 2 2
  let c := seq % 16
  let fused := kind == 0x80 || kind == 0xA0
  let s :=
    if fused then
      let s := s.setFld (rk p (0x120 + 4 * (c / 8))) (4 * (c % 8)) 3 (bitsAt b 43 0 3)
      s.onLink k fun l => { l with fmapSeen := l.fmapSeen ||| 2 ^ c }
    else s
  let l := (s.grp k).link
  let g := leAt b 10 2 * 2 ^ 16 + bitsAt b 8 5 3 * 2 ^ 13 + bitsAt b 8 3 2 * 2 ^ 11 + bitsAt b 9 6 2 * 2 ^ 9 + bitsAt b 9 5 1 * 2 ^ 8
    + bitsAt b 9 4 1 * 2 ^ 7 + bitsAt b 9 0 2 * 2 ^ 5 + bitsAt b 9 2 2 * 2 ^ 3 + rxOk.toNat * 2 ^ 2 + bitsAt b 8 1 1 * 2
    + (fused && l.fmapSeen == 0xFFFF).toNat
  let old := s.fld (rk p 0x104) 13 3
  let s := s.setReg (rk p 0x104) (BitVec.ofNat 32 g)
  let s := s.setReg (rk p 0x11C) (BitVec.ofNat 32 (bitsAt b 43 3 5 * 2 ^ 16 + bAt b 41 * 2 ^ 8 + bAt b 40))
  if kind = 0x80 then s.showDgSupply k old (bitsAt b 8 5 3) else s

/-- The domain state that a report shows: PD_STATE, and the request that it fulfils (R86, R92). -/
def State.takeDomain (s : State) (k : Nat) (b : List Byte) : State :=
  let d := pageDomain (grpPage k)
  let st := bitsAt b 8 3 2
  let req := sget (dflt 0) s.pwr.fieldReq d
  let s := if (req = 1 ∧ st = 2) ∨ (req = 2 ∧ st = 0) then { s with pwr := { s.pwr with fieldReq := sset (dflt 0) s.pwr.fieldReq d 0 } } else s
  if s.domState d = st then s.chargeUpdate
  else
    let s := (s.setDomState d st).chargeUpdate
    if st = 2 then (s.logEvt 0x003 d 0x20).pulseIrq 0x003 3 else if st = 0 then (s.logEvt 0x003 d 0x21).pulseIrq 0x003 3 else s

/-- SPSTAT of a current-loop group from bytes 36 and 37 (R385, R388). -/
def State.takeSpstat (s : State) (k : Nat) (b : List Byte) : State :=
  s.setReg (rk (grpPage k) 0x12C) (BitVec.ofNat 32 (bitsAt b 36 5 1 * 2 ^ 31 + bitsAt b 36 6 1 * 2 ^ 30 + bitsAt b 36 7 1 * 2 ^ 29
    + bitsAt b 37 4 4 * 2 ^ 24 + bitsAt b 36 0 4 * 2 ^ 16 + bitsAt b 37 0 4))

/-- The cold junction of a temperature group (R381, R387, R389). -/
def State.takeColdJunction (s : State) (k : Nat) (b : List Byte) (v : GroupView) : State :=
  let w := leAt b 28 4
  let bad := w / 2 ^ 27 % 8 != 0
  let val := valueOf (BitVec.ofNat 27 w) (-14)
  let tag : Tag := if v.off then 0xC0 else if bad then 0xB8 else 0
  let p := grpPage k
  let s := s.setReg (rk p 0x12C) (BitVec.ofNat 32 (tag.toNat * 2 ^ 24 + (BitVec.ofInt 16 (dRoundScaled val 100 1)).toNat))
  let s := s.setRegion k 32 { data := val, tag := tag }
  let was := (s.grp k).link.seenCj
  let s := s.onLink k fun l => { l with seenCj := bad }
  if bad && !was then s.groupEvent k 7 0x05 else if !bad && was then s.logEvt (grpPage k) 0xFFF 0x06 else s

/-- From the report that shows the field domain OFF every value of a group has tag 0xC0, those that it does not carry too (R86, R369). -/
def State.offTags (s : State) (k : Nat) (v : GroupView) : State :=
  if !v.off then s
  else
    let off (s : State) (i : Nat) : State := s.setRegion k i { s.regionAt k i with tag := 0xC0 }
    chans.foldl (fun s c => let s := off s (2 * c); if grpKind k = 0xA0 then off s (35 + c) else s) s

/-- The values that a report carries go into the group's region (R353, R387, R404). -/
def State.takeReportValues (s : State) (k : Nat) (b : List Byte) (t : W64) : State :=
  let v := groupView b
  match grpKind k with
  | 0xA0 =>
    let s := (List.range 6).foldl (fun s c => s.takeValue k c (leAt b (12 + 4 * c) 4) t v) s
    (s.offTags k v).putGroupWords k { data := (s.reg (rk (grpPage k) 0x12C)).setWidth 64, tag := 0 }
  | 0xB0 =>
    let part := leAt b 2 2 % 3
    let cs := if part = 2 then List.range 4 else List.range 6
    let s := cs.foldl (fun s i => s.takeValue k ((if part = 2 then 12 else 6 * part) + i) (leAt b (12 + 4 * i) 4) t v) s
    let s := if part = 2 then s.takeColdJunction k b v else s
    (s.offTags k v).putGroupWords k (s.regionAt k 32)
  | 0xB4 =>
    let s := (List.range 8).foldl (fun s c => s.takeCg k c (leAt b (12 + 3 * c) 3) t v) s
    (s.offTags k v).putGroupWords k { data := BitVec.ofNat 64 (s.fld (rk (grpPage k) 0x12C) 16 16), tag := 0 }
  | _ => s.takeStates k b t

/-! ## Reports (R343, R353, R354) -/

/-- The reports of a group time out, if they were admitted or have shown the local sub-stream admitted since EN was set (R354).
DEDUCED: log entry 135. -/
def State.timeoutReports (s : State) (k : Nat) : State :=
  let l := (s.grp k).link
  if l.timedOut || !(l.rxOk || l.shown) then s
  else
    let s := s.onLink k fun l => { l with rxOk := false, rxRun := 0, timedOut := l.shown }
    let s := (s.setFlag (rk (grpPage k) 0x104) 2 false).groupEvent k 4 0x13
    let moves := l.shown && s.role == 2 && l.peerAdm && (s.laneUp 0 || s.laneUp 1) && !s.pair.moved.contains (grpPage k)
    (if moves then s.moveGroup (grpPage k) else if l.shown then s.putStale k else s).updateSupplies

/-- A group is silent: no feed state of it stands any longer (R74, R354). -/
def State.silentGroup (s : State) (k : Nat) : State :=
  ((s.onLink k fun l => { l with reporting := false }).timeoutReports k).updateSupplies

/-- A report is discarded (R343, R356, R388). -/
def State.discardReport (s : State) (k : Nat) (part : Bool) : State :=
  let p := rk (grpPage k) 0x118
  let s := s.countSat p 16 16 1
  if part && grpKind k == 0x80 then s.countSat p 0 16 1 else s

/-- Admission of the reports after one with SEQ `q` (R353). -/
def LinkEnd.admitReport (l : LinkEnd) (q : Nat) : LinkEnd :=
  if l.rxOk && seqWindow q l.rxLast then { l with rxLast := q, missed := 0 }
  else
    let run := if 0 < l.rxRun ∧ seqWindow q l.rxLast = true then l.rxRun + 1 else 1
    { l with rxLast := q, rxRun := run, rxOk := decide (3 ≤ run), missed := 0 }

/-- A clear that the report acknowledges is awaited no longer (R350). -/
def LinkEnd.acknowledge (l : LinkEnd) (ack : Nat) : LinkEnd :=
  if l.clrSeq = some ack then { l with clr := 0, clrSeq := none } else l

/-- Where the values of a report do not count, the group's region stays as it was (R353, R354). -/
def State.keepRegion (s : State) (k : Nat) (live : Bool) (old : Sparse TWord) : State :=
  if live then s else s.onLink k fun l => { l with region := old }

/-- What an admitted report shows is logged, whether or not it shows the local sub-stream admitted (R357). DEDUCED: log entry 136. -/
def State.reportEvents (s : State) (k : Nat) (b : List Byte) : State :=
  let s := (s.groupEvents k b).channelEvents k
  match grpKind k with
  | 0x80 => s.waitingEvents k b
  | 0xA0 => s.calEvents k b
  | 0xB8 => s.anExtraEvents k
  | _ => s

/-- An accepted report (R353, R354, R356). PRESUMED: log entry 130. -/
def State.acceptReport (s : State) (k : Nat) (b : List Byte) : State :=
  let q := leAt b 2 2
  let t := s.extendT (leAt b 4 4)
  let gap := decide (262 < (s.grp k).link.missed)
  let localAdm := bitsAt b 9 2 2 == 2
  let s := s.onLink k fun l => ((l.admitReport q).acknowledge (bAt b 38))
  let s := s.onLink k fun l => { l with
    shown := l.shown || localAdm, reporting := true
    feed1 := if grpKind k = 0xB8 then bitsAt b 8 5 3 else l.wireFeeds.1, feed2 := l.wireFeeds.2 }
  let l := (s.grp k).link
  let live := l.rxOk && localAdm
  let s := if live && l.timedOut then (s.onLink k fun l => { l with timedOut := false }).logEvt (grpPage k) 0xFFF 0x14 else s
  let s := s.takeStatus k b (l.rxOk && (localAdm || !l.shown))
  let s := (s.takeDomain k b).updateSupplies
  let s := if grpKind k = 0x80 ∨ grpKind k = 0xB8 then
      ((s.setReg (rk (grpPage k) 0x10C) (BitVec.ofNat 32 (leAt b 14 4))).setReg (rk (grpPage k) 0x110)
        (BitVec.ofNat 32 (leAt b 18 4)))
    else s
  let s := if grpKind k = 0x80 then s.setReg (rk (grpPage k) 0x108) (BitVec.ofNat 32 (leAt b 12 2)) else s
  let s := if grpKind k = 0xA0 then s.takeSpstat k b else s
  let s := if live then s.snapBefore k t else s
  let s := if live && grpKind k == 0xB4 && gap then s.reportGap k else s
  let s := if l.rxOk ∨ grpKind k ≠ 0xB4 then (s.takeReportValues k b t).keepRegion k live l.region else s
  let s := if l.rxOk then (s.reportEvents k b).onLink k fun l => { l with rep := some (q % 256, t) } else s
  if live then s.putRegion k
  else if l.shown && !localAdm then s.timeoutReports k
  else s

/-- REPORT_RECEIVE (R343, R353). -/
def execReportReceive (group : Fin 57) (rx : LineRx) (s : State) : Res :=
  .next <|
    let k := group.val
    if grpKind k = 0 || !s.linkOn k then s
    else match received (s.grp k).link.wireRep rx with
      | none => s
      | some b =>
        let s := s.onLink k fun l => { l with wireRep := none }
        if burstOk b 2 k 42 then s.acceptReport k b else s.discardReport k (rxPart rx)

/-- REPORT_TIMEOUT: five consecutive periods without an accepted report (R354). -/
def execReportTimeout (group : Fin 57) (s : State) : Res :=
  .next (if grpKind group.val = 0 then s else s.silentGroup group.val)

/-! ## Value bursts (R386, R403) -/

/-- A period without a usable value burst: counted, and logged at the first of a run (R386, R388). -/
def State.missValue (s : State) (k : Nat) : State :=
  let first := !(s.grp k).link.vmissRun
  let s := s.onLink k fun l => { l with valDone := true, vmissRun := true }
  let s := (s.countSat (rk (grpPage k) 0x118) 0 16 1).grpEvt k 8
  if first then s.logEvt (grpPage k) 0xFFF 0x18 (BitVec.ofNat 64 (s.grp k).link.rxLast) else s

/-- A value burst is used with its report (R386, R387, R403). -/
def State.useValueBurst (s : State) (k : Nat) (b : List Byte) (t : W64) : State :=
  let r := s.reg (rk (grpPage k) 0x104)
  let old := (s.grp k).link.region
  let v : GroupView := { sup := fieldOf r 13 3, off := fieldOf r 11 2 == 0, safe := r.getLsbD 8, released := r.getLsbD 7 }
  let s :=
    if grpKind k = 0xA0 then (List.range 10).foldl (fun s i => s.takeValue k (6 + i) (leAt b (4 + 4 * i) 4) t v) s
    else
      let s := (List.range 4).foldl (fun s i => s.cgRecord k (leAt b (28 + 4 * i) 4)) s
      (List.range 8).foldl (fun s i => s.takeCg k (8 + i) (leAt b (4 + 3 * i) 3) t v) s
  let w := if grpKind k = 0xB4 then
      { data := BitVec.ofNat 64 (s.fld (rk (grpPage k) 0x12C) 16 16), tag := 0 } else s.regionAt k 32
  let s := (s.putGroupWords k w).channelEvents k
  let live := r.getLsbD 2 && fieldOf r 3 2 == 2
  let s := (s.keepRegion k live old).onLink k fun l => { l with valDone := true, vmissRun := false, rep := none }
  if live then s.putRegion k else s

/-- VALUE_BURST_RECEIVE (R386). -/
def execValueBurstReceive (group : Fin 57) (rx : LineRx) (s : State) : Res :=
  .next <|
    let k := group.val
    let l := (s.grp k).link
    if (grpKind k ≠ 0xA0 ∧ grpKind k ≠ 0xB4) ∨ s.linkOn k = false then s
    else match received l.wireVal rx with
      | none => s
      | some b =>
        let s := s.onLink k fun l => { l with wireVal := none }
        match l.rep with
        | some (q, t) => if burstOk b 3 k 2 && bAt b 3 == q then s.useValueBurst k b t else s.missValue k
        | none => s.missValue k

/-! ## The field period (R341, R354, R461) -/

/-- The start of a period at one group's logic end. -/
def State.groupPeriod (s : State) (latch : Nat) (k : Nat) : State :=
  let en := s.linkOn k
  let l := (s.grp k).link
  if grpKind k = 0 || (!en && !l.rxOk && !l.shown && !l.timedOut && !l.reporting && l.wire0.isNone && l.relay.isNone) then s
  else
    let s := s.onLink k fun l => { l with missed := l.missed + 1 }
    let s := if en && l.rxOk && !l.valDone && (grpKind k == 0xA0 || grpKind k == 0xB4) then s.missValue k else s
    let s := s.onLink k fun l => { l with valDone := false }
    let s := if 5 ≤ l.missed then s.silentGroup k else s
    let s := if (s.grp k).link.timedOut then s.putStale k else s
    let s := s.sendBurst k latch
    if en && s.sendsStreams then s.composeBurst k else s

/-- A snapshot whose T falls in this period's window, or is past it, knows its LTB(T); of several in one window the first is latched, and the
others end PARTIAL (R410, R414). -/
def State.commandLatch (s : State) : State :=
  { s with cap := { s.cap with snaps := s.cap.snaps.map fun n =>
      let t := s.otsToLtb n.t
      if n.ltbT.isNone && decide ((t - s.time.ltb).toInt * 8 ≤ 14999) then { n with ltbT := some t } else n } }

/-- The relay cells of a period have been sent, up to 10 bursts in each (R461). -/
def State.relaySent (s : State) : State :=
  let n := ((List.range 57).filter fun k => (s.grp k).link.composed.isSome).length
  if s.relays then s.countMod Reg.TWIN_RELAY 0 16 ((n + 9) / 10) else s

/-- A field period starts (R341). -/
def State.fieldPeriod (s : State) : State :=
  let s := s.applyNextRole
  let now := s.latchNow
  let latch := latchField now
  let s := ((List.range 57).foldl (fun s k => s.groupPeriod latch k) s).commandLatch
  ({ s with pair := { s.pair with relayNext := [] } }).relaySent

/-! ## EN of a field group page (R344, R350, R356) -/

/-- CTRL.EN of a field group page rises or falls: SEQ starts at 0 and the mailbox cycle anew (R344, R350). -/
def State.linkEnable (s : State) (p : Nat) (on : Bool) : State :=
  s.onLink (p - 0x080) fun l =>
    if on then
      { l with
        seq := 0, cyc := 0, dirty := [], half := none, composed := none, wire0 := none, rxRun := 0, rxOk := false, shown := false
        missed := 0, cg := [], rep := none, valDone := true }
    else { l with composed := none, wire0 := none, relay := none, wireRep := none, wireVal := none, rep := none }

/-- The effect of a write to OUT_CLR (R350). -/
def State.writeOutClr (s : State) (p : Nat) (v : W32) : State :=
  s.onLink (p - 0x080) fun l =>
    let bits := fieldOf v 0 16
    if bits = 0 then l else { l with clr := l.clr ||| bits, clrSeq := none }

/-- OUT_CLEAR_WRITE (R350, R600). -/
def execOutClearWrite (w : Writer) (page : Nat) (value : W32) (s : State) : Res :=
  .next (if pageBlock page = 0x80 ∨ pageBlock page = 0xB8 then
      s.command w (rk page 0x114) value fun s => s.writeOutClr page value
    else s)

end Sys2Proof.Machine
end

