-- ==== Sys2Proof/Machine/Snap.lean ====
section
/-! DEFINITION. Shutter (R406 to R408, R416) and Contact Sheet (R409 to R414, R417, R418). -/

namespace Sys2Proof.Machine

/-! ## Shutter -/

/-- OTS of an earlier instant, `n` ticks ago, by the mapping in force (R407). -/
def State.otsAgo (s : State) (n : Nat) : W64 :=
  let inc := if s.flag Reg.TIME_OTS_CTRL 24 then s.time.inc1 else s.time.inc0
  ((s.time.ots - (inc.setWidth 96) * BitVec.ofNat 96 n) >>> 32).setWidth 64

/-- The bytes of a record (R408). -/
def shutBytes (r : ShutRec) : List Byte :=
  natBytes r.ots.toNat 8 ++ natBytes r.ltb.toNat 8 ++ natBytes r.word.toNat 4 ++ natBytes r.count.toNat 4 ++ natBytes 0 8

/-- The registers show the FIFO: its level and its oldest record (R408, R416). -/
def State.showShutter (s : State) : State :=
  let b := match s.cap.fifo.head? with
    | some r => shutBytes r
    | none => natBytes 0 32
  let s := s.setReg Reg.SHUT_FIFO_LVL (BitVec.ofNat 32 s.cap.fifo.length)
  (List.range 8).foldl (fun s i => s.setReg (Reg.SHUT_RECk + 4 * i) (BitVec.ofNat 32 (leAt b (4 * i) 4))) s

/-- SHUT runs: its domain is ON and EN is 1. -/
def State.shutOn (s : State) : Bool := !s.isolated 0x0B9 && s.flag (rk 0x0B9 Reg.CTRL) 0

/-- The edge is selected by EDGEm (R406). -/
def State.shutSelected (s : State) (chan : Nat) (rising : Bool) : Bool :=
  (s.fld (Reg.SHUT_EDGEm + 4 * (chan / 16)) (2 * (chan % 16)) 2).testBit (if rising then 0 else 1)

/-- A digital coupler of a channel in MODE 0b100 captures nothing (R406). -/
def State.shutCarries (s : State) (chan : Nat) : Bool :=
  decide (512 ≤ chan) || !(s.grp (chan / 16)).isOut (chan / 16) (chan % 16)

/-- The compensation of a channel in ns (R407). -/
def State.shutDelay (s : State) (chan : Nat) : Nat :=
  if 512 ≤ chan then s.fld Reg.SHUT_COMP 8 8
  else s.fld Reg.SHUT_COMP 0 8 + s.fld (rk (grpPage (chan / 16)) (0x140 + 4 * (chan % 16))) 0 11 * 20000

/-- An edge becomes a record, or is dropped at a full FIFO (R407, R408). -/
def State.shutRecord (s : State) (chan : Nat) (rising : Bool) : State :=
  let ago := (s.shutDelay chan + 4) / 8
  let missed := s.cap.missed.contains chan
  let count := s.cap.shutCount + 1
  let ots := s.otsAgo ago
  let word := chan * 2 ^ 16 + rising.toNat * 2 ^ 15 + (s.flag Reg.TIME_OTS_CTRL 24).toNat * 2 ^ 14
    + (s.flag Reg.TIME_OTS_STAT 31).toNat * 2 ^ 13 + missed.toNat * 2 ^ 12
  let s := { s with cap := { s.cap with
    shutCount := count, lastEdge := sset (dflt none) s.cap.lastEdge chan (some s.time.ltb) } }
  if s.cap.fifo.length < 1024 then
    let r : ShutRec := { ots := ots, ltb := s.time.ltb - BitVec.ofNat 64 ago, word := BitVec.ofNat 32 word, count := count }
    let s := { s with cap := { s.cap with
      fifo := s.cap.fifo ++ [r], missed := s.cap.missed.filter (· != chan), dropping := false } }
    ((s.showShutter).setEvt Reg.SHUT_SHUT_EVT 0).fireTriggers 1 (BitVec.ofNat 32 chan) ots
  else
    let first := !s.cap.dropping
    let s := { s with cap := { s.cap with dropping := true } }
    let s := (s.countSat Reg.SHUT_DROP 16 16 1).setEvt Reg.SHUT_SHUT_EVT 1
    if first then s.logEvt 0x0B9 chan 0x01 else s

/-- SHUTTER_CAPTURE: a coupler shows an edge at a CLK_NET sample (R406, R407). -/
def execShutterCapture (chan : Fin 576) (rising : Bool) (s : State) : Res :=
  .next <|
    let n := chan.val
    if !s.shutOn || !s.shutSelected n rising || !s.shutCarries n then s
    else
      let dead := match sget (dflt none) s.cap.lastEdge n with
        | some t => decide ((s.time.ltb - t).toNat < 8)
        | none => false
      if dead then
        let s := { s with cap := { s.cap with missed := insertNew s.cap.missed n } }
        (s.countSat Reg.SHUT_DROP 0 16 1).logEvt 0x0B9 n 0x02
      else s.shutRecord n rising

/-- The effect of a write to SHUT.POP (R408). -/
def State.writeShutPop (s : State) (v : W32) : State :=
  if v.getLsbD 0 then ({ s with cap := { s.cap with fifo := s.cap.fifo.tail, dropping := false } }).showShutter else s

/-- SHUTTER_POP (R408). -/
def execShutterPop (w : Writer) (value : W32) (s : State) : Res :=
  .next (s.command w Reg.SHUT_POP value fun s => s.writeShutPop value)

/-- CTRL.EN of SHUT rises: captures are counted from 0 (R408). -/
def State.shutEnable (s : State) (on : Bool) : State :=
  if on then { s with cap := { s.cap with shutCount := 0, lastEdge := [], missed := [] } } else s

/-- A block reset of SHUT, or its domain switched off, empties the FIFO (R408). -/
def State.shutReset (s : State) : State :=
  { s with cap := { s.cap with fifo := [], shutCount := 0, lastEdge := [], missed := [], dropping := false } }

/-! ## Contact Sheet: arms (R409, R412) -/

/-- PEND and SLOTk show the pending snapshots (R417). -/
def State.showSnaps (s : State) : State :=
  let l := s.cap.snaps
  let s := s.setReg Reg.CSHEET_PEND (BitVec.ofNat 32 (l.length * 256 + (l.map fun n => 2 ^ n.slot).sum))
  (List.range 8).foldl (fun s i =>
    s.setReg (Reg.CSHEET_SLOTk + 4 * i) (match l.find? fun n => n.slot == i with
      | some n => BitVec.ofNat 32 (0x80000000 + n.id)
      | none => 0)) s

/-- RESULT of a command (R409). -/
def State.snapResult (s : State) (code id : Nat) : State := s.setReg Reg.CSHEET_RESULT (BitVec.ofNat 32 (code * 2 ^ 28 + id))

/-- An event of CSHEET with the ID in DATA (R418). -/
def State.snapEvent (s : State) (cause id : Nat) (more : Nat := 0) : State :=
  s.logEvt 0x0BA 0xFFF cause (BitVec.ofNat 64 (more * 65536 + id))

/-- CMD.GO: the outcome of an arm, the first of R409's table that holds. -/
def State.snapArm (s : State) : State :=
  let id := s.fld Reg.CSHEET_ID 0 16
  let t := s.reg64 Reg.CSHEET_T_LO
  let refuse (code : Nat) : State := (s.snapResult code id).snapEvent 0x06 id code
  if 8 ≤ s.cap.snaps.length then refuse 3
  else if s.cap.snaps.any fun n => n.id == id then refuse 4
  else if tpmWords < s.fld Reg.CSHEET_RBASE 0 23 + s.fld Reg.CSHEET_RCNT 0 7 * 4096 then refuse 5
  else if t.toNat < s.otsNs.toNat + 20000 then
    ((s.snapResult 2 id).setEvt Reg.CSHEET_CS_EVT 1).snapEvent 0x03 id
  else
    let slot := ((List.range 8).find? fun i => !(s.cap.snaps.any fun n => n.slot == i)).getD 0
    let s := { s with cap := { s.cap with snaps := s.cap.snaps ++ [({ slot := slot, id := id, t := t } : Snapshot)] } }
    ((s.showSnaps).snapResult 1 id).logEvt 0x0BA 0xFFF 0x01 t

/-- CMD.CANCEL (R409). -/
def State.snapCancel (s : State) : State :=
  let id := s.fld Reg.CSHEET_ID 0 16
  if s.cap.snaps.any fun n => n.id == id then
    let s := { s with cap := { s.cap with snaps := s.cap.snaps.filter fun n => n.id != id } }
    ((s.showSnaps).snapResult 6 id).snapEvent 0x07 id
  else s.snapResult 7 id

/-- The effect of a write to CSHEET.CMD, with EN at 1 (R409, R417). -/
def State.writeSnapCmd (s : State) (v : W32) : State :=
  if !s.flag (rk 0x0BA Reg.CTRL) 0 then s
  else if v.getLsbD 31 then s.snapArm
  else if v.getLsbD 30 then s.snapCancel
  else s

/-- SNAPSHOT_ARM (R409). -/
def execSnapshotArm (w : Writer) (value : W32) (s : State) : Res :=
  .next (s.command w Reg.CSHEET_CMD value fun s => s.writeSnapCmd value)

/-- SNAPSHOT_CANCEL (R409). -/
def execSnapshotCancel (w : Writer) (value : W32) (s : State) : Res :=
  .next (s.command w Reg.CSHEET_CMD value fun s => s.writeSnapCmd value)

/-- A block reset of CSHEET, or PD07 switched off, discards every pending snapshot (R414). -/
def State.snapReset (s : State) : State := { s with cap := { s.cap with snaps := [] } }

/-- OTS has not reached T (R412). -/
def State.snapAhead (s : State) (n : Snapshot) : Bool :=
  match n.ltbT with
  | some t => decide (s.time.ltb.toNat < t.toNat)
  | none => true

/-- A step of OTS from `old` to `new` ns before T is reached: forward past T ends a snapshot with SKIPPED, backward sets STEPPED, and its latch
is commanded when OTS comes to T (R412). -/
def State.snapStep (s : State) (old new : W64) : State :=
  let skipped := s.cap.snaps.filter fun n => s.snapAhead n && decide (old.toNat < n.t.toNat ∧ n.t.toNat < new.toNat)
  let back (n : Snapshot) : Snapshot :=
    if s.snapAhead n && decide (new.toNat < old.toNat) then { n with stepped := true, ltbT := none } else n
  let s := { s with cap := { s.cap with snaps := (s.cap.snaps.filter fun n => !skipped.contains n).map back } }
  skipped.foldl (fun s n => (s.setEvt Reg.CSHEET_CS_EVT 3).snapEvent 0x04 n.id) s.showSnaps

/-- A change of OTS's source between arming and T (R412). -/
def State.snapDomainChange (s : State) : State :=
  let mark (n : Snapshot) : Snapshot := if s.snapAhead n then { n with domainChanged := true } else n
  { s with cap := { s.cap with snaps := s.cap.snaps.map mark } }

/-! ## Contact Sheet: records (R411, R413, R414) -/

/-- The counting channels of the module: their CCH numbers (R411). -/
def State.countingChannels (s : State) : List Nat :=
  (List.range 64).filter fun n =>
    let m := fieldOf (s.cgCfg (52 + n / 16) (n % 16)) 28 4
    decide (1 ≤ m ∧ m ≤ 5)

/-- The words of a loop in a record: the PV of its latest sample and that sample's frame (R411, R413). -/
def State.snapLoop (s : State) (l : Nat) : List (Nat × TWord) :=
  if (s.lw l LW.SAMPLES).data = 0 then [(1256 + l, { data := 0, tag := 0xC0 })]
  else [(1256 + l, s.lw l LW.PV), (1768 + l, { data := (s.lw l LW.LAST_FRAME).data, tag := 0 })]

/-- The loops' values, the boundary and the domain are taken for a snapshot whose T is past (R411, R413). -/
def State.snapTakeLoops (s : State) (n : Snapshot) : Snapshot :=
  if n.loops then n
  else { n with
    loops := true, frame := s.lfi, domain := (s.flag Reg.TIME_OTS_CTRL 24).toNat
    words := ((List.range 512).flatMap s.snapLoop).foldl (fun m e => sset (dflt {}) m e.1 e.2) n.words }

/-- At a boundary, before the loops run: snapshots whose T is past take the loops' values. -/
def State.snapBoundary (s : State) : State :=
  { s with cap := { s.cap with snaps := s.cap.snaps.map fun n =>
      match n.ltbT with
      | some t => if t.toNat < s.time.ltb.toNat then s.snapTakeLoops n else n
      | none => n } }

/-- The whole record of a snapshot but its header's first word (R413). -/
def State.snapWordsAll (s : State) (n : Snapshot) (ltbT : W64) : Sparse TWord :=
  let n := (List.range 57).foldl (fun n k => if grpKind k = 0 then n else s.snapTake k n) (s.snapTakeLoops n)
  let absent := s.countingChannels.filter fun c => !n.latched.contains c
  let m := absent.foldl (fun m c => sset (dflt {}) m (8 + 2 * c) { data := 0, tag := 0xD8 }) n.words
  let put (m : Sparse TWord) (i : Nat) (v : W64) : Sparse TWord := sset (dflt {}) m i { data := v, tag := 0 }
  let pair := s.fld (rk 0x0F0 Reg.NET_DD_CFG) 16 12
  put (put (put (put (put m 1 n.t) 2 ltbT) 3 s.time.ltb) 4 n.frame) 5 (BitVec.ofNat 64 (s.roleByte.toNat + pair * 65536))

/-- Header word 0 (R413). -/
def snapHeader (n : Snapshot) : W64 :=
  BitVec.ofNat 64 (n.id * 2 ^ 48 + n.domainChanged.toNat * 128 + n.stepped.toNat * 64 + n.partially.toNat * 32 + n.domain * 16)

/-- SNAPSHOT_COMPLETE: T is past and every latch record has arrived or been given up; header word 0 is written last (R414). -/
def execSnapshotComplete (slot : Fin 8) (s : State) : Res :=
  .next <|
    match s.cap.snaps.find? fun n => n.slot == slot.val with
    | none => s
    | some n =>
      match n.ltbT with
      | none => s
      | some t =>
        if s.time.ltb.toNat < t.toNat ∨ (n.partially = false ∧ (s.countingChannels.all fun c => n.latched.contains c) = false) then s
        else
          let n' := s.snapTakeLoops n
          let words := s.snapWordsAll n t
          let r := s.fld Reg.CSHEET_NEXT 0 6
          let base := s.fld Reg.CSHEET_RBASE 0 23 + 4096 * r
          let s := (List.range 4095).foldl (fun s i => s.setTpm (base + i + 1) (sget (dflt {}) words (i + 1))) s
          let s := s.setTpmData base (snapHeader n') 0
          let s := { s with cap := { s.cap with snaps := s.cap.snaps.filter fun m => m.slot != slot.val } }
          let s := (s.showSnaps).countSat Reg.CSHEET_NEXT 16 16 1
          let s := s.setFld Reg.CSHEET_NEXT 0 6 ((r + 1) % max 1 (s.fld Reg.CSHEET_RCNT 0 7))
          ((s.setEvt Reg.CSHEET_CS_EVT 0).snapEvent 0x02 n.id r).fireTriggers 2 (BitVec.ofNat 32 n.id) n.t

/-- SNAPSHOT_LATCH_TIMEOUT: a latch record has not arrived 200 µs after T (R414). -/
def execSnapshotLatchTimeout (slot : Fin 8) (s : State) : Res :=
  .next <|
    match s.cap.snaps.find? fun n => n.slot == slot.val with
    | none => s
    | some n =>
      if n.ltbT.isNone || n.partially || (s.countingChannels.all fun c => n.latched.contains c) then s
      else
        let s := { s with cap := { s.cap with snaps := s.cap.snaps.map fun (m : Snapshot) =>
          if m.slot = slot.val then { m with partially := true } else m } }
        (s.setEvt Reg.CSHEET_CS_EVT 2).snapEvent 0x05 n.id

end Sys2Proof.Machine
end

