-- ==== Sys2Proof/Machine/Lanes.lean ====
section
/-! DEFINITION. The Stop Bath: the safety lanes SAFX and SAFY, their table, lock-out, the reset pair, SAFETY-CONFIG, start and take-up, and
their mirror pages (spec/16). -/

namespace Sys2Proof.Machine

/-- What lane 0 SAFX or 1 SAFY holds. -/
def State.lane (s : State) (n : Nat) : LaneState := if n = 0 then s.laneX else s.laneY

/-- Store what a lane holds. -/
def State.setLane (s : State) (n : Nat) (x : LaneState) : State := if n = 0 then { s with laneX := x } else { s with laneY := x }

/-- A lane's event, for its mirror page; nothing is kept while the logic side is in reset (R449). -/
def State.laneEvent (s : State) (n : Nat) (e : LaneEvent) : State :=
  if s.rst.phase = .asserted ∨ s.rst.phase = .waitPll then s
  else let x := s.lane n; s.setLane n { x with events := x.events ++ [e] }

/-! ## The table (R426, R429, R440) -/

/-- Cause record c of an image. -/
def causeRec (t : List Byte) (c : Nat) : W32 := BitVec.ofNat 32 (leAt t (0x10 + 4 * c) 4)

/-- The cause mask and the record of effect k. -/
def effectMask (t : List Byte) (k : Nat) : Nat := leAt t (0x190 + 16 * k) 12
def effectRec (t : List Byte) (k : Nat) : W32 := BitVec.ofNat 32 (leAt t (0x19C + 16 * k) 4)

/-- MATRIX_ID and CHECK of an image; 0 with none. -/
def matrixId (t : List Byte) : Nat := leAt t 4 4
def matrixCheck (t : List Byte) : Nat := leAt t 0x390 4

/-- CHECK matches (R440). -/
def checkMatches (t : List Byte) : Bool := matrixCheck t == (crc32c (t.take 0x390)).toNat

/-- Cause c is USED, and the first of a pair. -/
def causeUsed (t : List Byte) (c : Nat) : Bool := (causeRec t c).getLsbD 31
def causePaired (t : List Byte) (c : Nat) : Bool := (causeRec t (c / 2 * 2)).getLsbD 30

/-- The numbers of the bits set in a mask of 96. -/
def maskBits (m : Nat) : List Nat := (List.range 96).filter fun c => m.testBit c

/-- A map of bits from a predicate. -/
def bitsOf (n : Nat) (f : Nat → Bool) : Nat := ((List.range n).filter f).foldl (fun m i => m + 2 ^ i) 0

/-! ## Causes and effects (R424 to R430) -/

/-- The cause vector: inputs, pairs with their discrepancies, SFS (R423, R424, R426). -/
def LaneState.causeVector (x : LaneState) : Nat :=
  bitsOf 96 fun c =>
    if c = 94 then x.sfs != 0
    else if c = 95 then false
    else if causePaired x.table c then
      !x.filt.testBit (c / 2 * 2) || !x.filt.testBit (c / 2 * 2 + 1) || x.disc.testBit (c / 2)
    else !x.filt.testBit c

/-- The function of effect k over a cause vector (R429). -/
def effectFunction (t : List Byte) (k causes : Nat) : Bool :=
  let m := effectMask t k
  let active := (maskBits m).filter fun c => causes.testBit c
  match fieldOf (effectRec t k) 29 2 with
  | 0 => !active.isEmpty
  | 1 => active.length == (maskBits m).length
  | 2 => decide (2 ≤ active.length)
  | _ => true

/-- The effects of a cycle: delays, latches and unused effects (R429). -/
def LaneState.computeEffects (x : LaneState) : LaneState :=
  let t := x.table
  let causes := x.causeVector
  let fn (k : Nat) : Bool := effectFunction t k causes
  let since := (List.range 32).foldl (fun m k => sset (dflt 0) m k (if fn k then sget (dflt 0) x.since k + 1 else 0)) x.since
  let due (k : Nat) : Bool := fn k && decide (100 * fieldOf (effectRec t k) 0 13 + 1 ≤ sget (dflt 0) since k)
  let latched := bitsOf 32 fun k => (effectRec t k).getLsbD 28 && (x.latched.testBit k || due k)
  { x with
    causes := causes, since := since, latched := latched
    effects := bitsOf 32 fun k => due k || latched.testBit k || !(effectRec t k).getLsbD 31 }

/-- The switches that the lane holds closed; TAKEUP after an SFS HIGH waits for SFS to be OK (R430, R444). -/
def LaneState.closedSwitches (x : LaneState) : Nat :=
  if x.sfs = 3 ∨ (x.st = 2 ∧ x.halted = true) then 0
  else if x.st = 3 then bitsOf 32 fun k => !x.effects.testBit k && !x.outFlt.testBit k
  else if x.st = 2 then bitsOf 32 fun k => x.rbIn.testBit k && !x.outFlt.testBit k
  else 0

/-- The effects whose state differs between two vectors become events (R448, R449). -/
def State.effectEvents (s : State) (n old new : Nat) : State :=
  (List.range 32).foldl (fun s k =>
    if old.testBit k = new.testBit k then s
    else s.laneEvent n { bit := some 2, cause := some (if new.testBit k then 0x03 else 0x04), chan := k }) s

/-! ## Lock-out (R435 to R437) -/

/-- The lane's half of the lock-out record, without the stamps and the check value (R437). -/
def LaneState.recordBody (x : LaneState) (entry : Bool) : List Byte :=
  natBytes x.cycle 8 ++ [BitVec.ofNat 8 (if entry then x.code else 0), BitVec.ofNat 8 (entry.toNat * 128 + x.st)]
    ++ natBytes x.detail 2 ++ natBytes x.lockCount 2

/-- A lane fault (R435, R436): LOCKOUT with its code, every switch open; in CONFIG it is recorded only (R442). -/
def State.laneFault (s : State) (n code detail : Nat) : State :=
  let x := s.lane n
  if x.st = 0 then s
  else if x.lockout || x.st == 5 then
    if x.code = 0 then s.setLane n { x with code := code, detail := detail } else s
  else
    let x := { x with
      lockout := true, st := 4, testing := false, code := code, detail := detail, lockCount := min (x.lockCount + 1) 0xFFFF, cmds := 0 }
    let s := s.setLane n { x with record := some (x.recordBody true) }
    s.laneEvent n { bit := some 0, cause := some 0x01, chan := detail % 4096, data := BitVec.ofNat 64 code }

/-- LOCKOUT clears, and the lane enters state `st` (R437, R439, R442). -/
def State.clearLockout (s : State) (n st : Nat) : State :=
  let x := s.lane n
  if x.lockout then
    let x := { x with lockout := false, code := 0, detail := 0xFFFF, st := st }
    (s.setLane n { x with record := some (x.recordBody false) }).laneEvent n { bit := some 1, cause := some 0x02 }
  else s

/-- What a lane's cross-link frame says now (R420). -/
def LaneState.frame (x : LaneState) : XFrame :=
  { st := x.st, causes := x.causes, effects := x.effects, cmds := x.cmds, id := matrixId x.table, check := matrixCheck x.table
    lock := x.lockout }

/-- A lane runs its cycle: not stopped and not starting. -/
def LaneState.cycles (x : LaneState) : Bool := decide (2 ≤ x.st)

/-- The lowest bit in which two vectors differ. -/
def lowestDiff (n a b : Nat) : Nat := ((List.range n).find? fun i => a.testBit i != b.testBit i).getD 0xFFFF

/-- The comparison of the lanes in a cycle: three cycles in a row with a difference are a lane fault (R435). -/
def State.compareLanes (s : State) (n : Nat) : State :=
  let x := s.lane n
  match x.rx with
  | none => s
  | some f =>
    let both := (x.st == 3 || x.st == 2) && (f.st == 3 || f.st == 2)
    let step (old : Nat) (differs : Bool) : Nat := if differs then old + 1 else 0
    let cd := step x.causeDiff (both && x.causes != f.causes)
    let ed := step x.effectDiff (both && (x.effects != f.effects || x.cmds != f.cmds))
    let idd := step x.idDiff (f.st != 0 && (matrixId x.table != f.id || matrixCheck x.table != f.check))
    let s := s.setLane n { x with causeDiff := cd, effectDiff := ed, idDiff := idd }
    let s := if 3 ≤ cd then s.laneFault n 0x01 (lowestDiff 96 x.causes f.causes) else s
    let s := if 3 ≤ ed then
        s.laneFault n 0x02 (if x.effects ≠ f.effects then lowestDiff 32 x.effects f.effects else lowestDiff 32 x.cmds f.cmds)
      else s
    if 3 ≤ idd then s.laneFault n 0x0A 0xFFFF else s

/-- LANE_CYCLE: causes latched, effects computed, switch commands updated at the cycle's end. `raw` and the readbacks are what the lane has
sampled (R421, R423, R429, R430, R432, R435). -/
def execLaneCycle (lane : Fin 2) (raw : BitVec 96) (rbIn rbMid rbOut : W32) (s : State) : Res :=
  .next <|
    let n := lane.val
    let x := s.lane n
    if !x.cycles then s
    else
      let old := x.effects
      let x := { x with
        cycle := x.cycle + 1, raw := if x.sfs = 2 then 0 else raw.toNat, rbIn := rbIn.toNat, rbMid := rbMid.toNat
        rbOut := rbOut.toNat }
      let x := x.computeEffects
      let x := { x with cmds := x.closedSwitches }
      ((s.setLane n x).effectEvents n old x.effects).compareLanes n

/-! ## The cross-link (R420, R436) -/

/-- A frame period, in units of 10 ns, from 98 µs to 102 µs (R420). -/
def periodOk (period : BitVec 16) : Bool := decide (9800 ≤ period.toNat ∧ period.toNat ≤ 10200)

/-- CROSSLINK_FRAME: the lane receives the other lane's frame; `good` is its check, `period` its period in units of 10 ns (R420). -/
def execCrosslinkFrame (lane : Fin 2) (good : Bool) (period : BitVec 16) (s : State) : Res :=
  .next <|
    let n := lane.val
    let x := s.lane n
    let o := s.lane (1 - n)
    if x.st = 0 ∨ o.st = 0 then s
    else if !good then
      let s := s.setLane n { x with missed := x.missed + 1, xok := false }
      if 3 ≤ x.missed + 1 then s.laneFault n 0x0D 0xFFFF else s
    else
      let off := if periodOk period then 0 else x.offPeriod + 1
      let s := s.setLane n { x with rx := some o.frame, missed := 0, xok := true, offPeriod := off }
      let s := if 3 ≤ off then s.laneFault n 0x08 0xFFFF else s
      if o.lockout && x.cycles then s.laneFault n 0x0C 0xFFFF else s

/-- CROSSLINK_TIMEOUT: no valid frame for three consecutive cycles (R420). -/
def execCrosslinkTimeout (lane : Fin 2) (s : State) : Res :=
  .next <|
    let n := lane.val
    let x := s.lane n
    if x.st = 0 then s
    else (s.setLane n { x with xok := false, missed := max x.missed 3, rx := none }).laneFault n 0x0D 0xFFFF

/-! ## Inputs (R425 to R428) -/

/-- The pair of an input takes note: both de-energised, then both energised, clears a discrepancy (R426). -/
def LaneState.pairStep (x : LaneState) (m : Nat) : LaneState :=
  let a := x.filt.testBit (2 * m)
  let b := x.filt.testBit (2 * m + 1)
  if !x.disc.testBit m then x
  else if !a && !b then { x with discLow := withBit x.discLow m true }
  else if a && b && x.discLow.testBit m then { x with disc := withBit x.disc m false, discLow := withBit x.discLow m false }
  else x

/-- The filter time of an input in samples, one every 10 µs: FILT × 0.25 ms, of the even cause for both inputs of a pair, and 10 ms for the
reset pair (R425, R426, R438). -/
def LaneState.filterSamples (x : LaneState) (i : Nat) : Nat :=
  if 94 ≤ i then 1000 else 25 * fieldOf (causeRec x.table (if causePaired x.table i then i / 2 * 2 else i)) 8 8

/-- The raw state of an input: energised at or above 15.0 V, and de-energised while SFS is LOST (R423, R428). -/
def LaneState.rawInput (x : LaneState) (d : SafetySamples) : Bool := decide (15000 ≤ d.millivolts.toNat) && x.sfs != 2

/-- The filtered state of an input changes: its pair takes note, or the reset pair's press (R425, R426, R438). -/
def LaneState.acceptInput (x : LaneState) (i : Nat) (on : Bool) : LaneState :=
  let x := { x with filt := withBit x.filt i on, run := sset (dflt 0) x.run i 0 }
  let x := if i < 94 then x.pairStep (i / 2) else x
  let both := x.filt.testBit 94 && x.filt.testBit 95
  { x with pressed := both, pressFresh := if both && !x.pressed then true else x.pressFresh }

/-- Equal samples of an input: the raw state that has differed in every sample for the filter time becomes the filtered one; samples taken during
a coupler test neither confirm nor break the run (R425). -/
def LaneState.sampleInput (x : LaneState) (i : Nat) (d : SafetySamples) : LaneState :=
  let n := sget (dflt 0) x.run i + d.count
  if d.test || d.count == 0 then x
  else if x.rawInput d == x.filt.testBit i then { x with run := sset (dflt 0) x.run i 0 }
  else if x.filterSamples i < n then x.acceptInput i (x.rawInput d)
  else { x with run := sset (dflt 0) x.run i n }

/-- SAFETY_INPUT_FILTER: samples of an input (R421, R423, R425, R438). -/
def execSafetyInputFilter (lane : Fin 2) (input : Fin 96) (samples : List SafetySamples) (s : State) : Res :=
  .next <|
    let n := lane.val
    let x := s.lane n
    if x.st = 0 then s else s.setLane n (samples.foldl (fun x d => x.sampleInput input.val d) x)

/-- PAIR_DISCREPANCY: the filtered inputs of a pair have differed for longer than DISC × 10 ms (R426). -/
def execPairDiscrepancy (lane : Fin 2) (pair : Fin 47) (s : State) : Res :=
  .next <|
    let n := lane.val
    let x := s.lane n
    let m := pair.val
    let differ := x.filt.testBit (2 * m) != x.filt.testBit (2 * m + 1)
    if x.st = 0 || !causePaired x.table (2 * m) || !differ || x.disc.testBit m then s
    else (s.setLane n { x with disc := withBit x.disc m true }).laneEvent n { bit := some 3, cause := some 0x06, chan := 2 * m }

/-- COUPLER_TEST: a second failure in a row is a coupler fault (R427). -/
def execCouplerTest (lane : Fin 2) (input : Fin 96) (passed : Bool) (s : State) : Res :=
  .next <|
    let n := lane.val
    let x := s.lane n
    let i := input.val
    if !x.cycles then s
    else if passed then
      s.setLane n { x with couplerTests := (x.couplerTests + 1) % 65536, failing := x.failing.filter (· != i) }
    else if x.failing.contains i then s.laneFault n 0x05 i
    else s.setLane n { x with failing := x.failing ++ [i] }

/-- The lane finds SFS in a state (R72, R428). -/
def State.laneSfs (s : State) (n code : Nat) : State :=
  let x := s.lane n
  let new := supplyNext x.sfs code
  if x.st = 0 ∨ x.sfs = new then s
  else
    let x := { x with sfs := new, halted := (x.st == 2 && new == 3) || (x.halted && new != 0), cmds := if new = 3 then 0 else x.cmds, raw := if new = 2 then 0 else x.raw }
    (s.setLane n x).laneEvent n { cause := some 0x08, data := BitVec.ofNat 64 new }

/-- SFS_STATE_CHANGE (R428). -/
def execSfsStateChange (lane : Fin 2) (new : SupplyState) (s : State) : Res := .next (s.laneSfs lane.val (supplyCode new))

/-- FIELD_SUPPLY_STATE_CHANGE: at the controller or lane that measures the supply (R72, R74). -/
def execFieldSupplyStateChange (at_ : SupplyPoint) (new : SupplyState) (s : State) : Res :=
  .next <| match at_ with
    | .dg n => s.groupSupply n.val 0 (supplyCode new)
    | .afs1 g => s.groupSupply (32 + g % 24) 1 (supplyCode new)
    | .afs2 g => s.groupSupply (32 + g % 24) 2 (supplyCode new)
    | .afsOr g => s.groupSupply (32 + g % 24) 0 (supplyCode new)
    | .ans => s.groupSupply 56 0 (supplyCode new)
    | .sfs l => s.laneSfs l.val (supplyCode new)

/-! ## Outputs (R431 to R433, R435) -/

/-- OUTPUT_HEARTBEAT_MISSING (R431). -/
def execOutputHeartbeatMissing (lane : Fin 2) (output : Fin 32) (s : State) : Res :=
  .next (if (s.lane lane.val).cycles then s.laneFault lane.val 0x06 output.val else s)

/-- READBACK_FAILURE (R432). -/
def execReadbackFailure (lane : Fin 2) (output : Fin 32) (s : State) : Res :=
  .next (if (s.lane lane.val).cycles then s.laneFault lane.val 0x03 output.val else s)

/-- OUTPUT_FAULT: it opens the output in both lanes and latches (R432). -/
def execOutputFault (lane : Fin 2) (output : Fin 32) (s : State) : Res :=
  .next <|
    let k := output.val
    let open_ (s : State) (n : Nat) : State :=
      let x := s.lane n
      if x.st = 0 ∨ x.outFlt.testBit k = true then s
      else
        (s.setLane n { x with outFlt := withBit x.outFlt k true, cmds := withBit x.cmds k false }).laneEvent n
          { bit := some 4, cause := some 0x07, chan := k }
    if (s.lane lane.val).cycles then open_ (open_ s 0) 1 else s

/-- A switch is tested: on an output that is energised, where its record has TEST_EN, or else when the matrix opens the output (R433). -/
def LaneState.mayTest (x : LaneState) (k : Nat) : Bool :=
  if (effectRec x.table k).getLsbD 27 then x.cmds.testBit k else x.effects.testBit k

/-- SWITCH_TEST: a missing expected state is a lane fault (R433). -/
def execSwitchTest (lane : Fin 2) (output : Fin 32) (passed : Bool) (s : State) : Res :=
  .next <|
    let n := lane.val
    let x := s.lane n
    let k := output.val
    if x.st ≠ 3 || !x.mayTest k then s
    else if passed then s.setLane n { x with switchTests := (x.switchTests + 1) % 65536 }
    else s.laneFault n 0x04 k

/-- TABLE_CRC_CHECK: the lane reads its table back every 100 ms; none is a store that cannot be read (R435). -/
def execTableCrcCheck (lane : Fin 2) (readBack : Option (List Byte)) (s : State) : Res :=
  .next <|
    let n := lane.val
    if !(s.lane n).cycles then s
    else match readBack with
      | none => s.laneFault n 0x0E 0xFFFF
      | some t => if checkMatches t then s else s.laneFault n 0x09 0xFFFF

/-- LANE_WATCHDOG (R435). -/
def execLaneWatchdog (lane : Fin 2) (s : State) : Res := .next (s.laneFault lane.val 0x07 0xFFFF)

/-- LOCKOUT_RECORD_WRITE: the half of the record goes to MRAM with its stamps, if MRAM is available (R437). -/
def execLockoutRecordWrite (lane : Fin 2) (s : State) : Res :=
  .next <|
    let n := lane.val
    let x := s.lane n
    match x.record with
    | none => s
    | some body =>
      if s.rst.phase ≠ .running then s
      else
        let b := natBytes s.otsNs.toNat 8 ++ natBytes s.time.ltb.toNat 8 ++ body
        let b := b ++ natBytes (crc16 b).toNat 2
        (s.setMramBytes (0x1000 + 0x20 * n) b).setLane n { x with record := none }

/-! ## The reset pair (R438, R439) -/

/-- Both lanes show a press (R438, R448, R449). -/
def State.showPress (s : State) (n dur res : Nat) : State :=
  let x := s.lane n
  let s := s.setLane n { x with pressDur := dur, pressRes := res }
  let s := s.laneEvent n { bit := some 6 }
  if res = 1 ∨ res = 4 then s else s.laneEvent n { cause := some 0x0D, data := BitVec.ofNat 64 res }

/-- The class of a press by its length in 10 ms (R438). -/
def pressClass (dur : Nat) (split : Bool) : Nat :=
  if split then 5 else if dur < 50 then 2 else if dur ≤ 500 then 1 else 3

/-- A valid press in RUN: latched effects whose function is false and output faults are reset (R439). -/
def State.pressInRun (s : State) (n : Nat) : State :=
  let x := s.lane n
  let reset := bitsOf 32 fun k => x.latched.testBit k && !effectFunction x.table k x.causes
  let latched := bitsOf 32 fun k => x.latched.testBit k && !reset.testBit k
  let s := s.setLane n { x with latched := latched, outFlt := 0 }
  s.laneEvent n { cause := some 0x05, data := BitVec.ofNat 64 reset }

/-- A press that ends: each lane classifies it; alike and valid it acts on both (R438, R439, R442). In LOCKOUT it starts the self-test that
LANE_SELF_TEST ends. -/
def execResetPress (durX durY : BitVec 16) (split : Bool) (s : State) : Res :=
  .next <|
    let x := s.laneX
    let y := s.laneY
    let a := pressClass durX.toNat split
    let b := pressClass durY.toNat split
    let show_ (s : State) (r : Nat) : State := (s.showPress 0 durX.toNat r).showPress 1 durY.toNat r
    if x.st = 0 ∨ y.st = 0 then s
    else if a ≠ b then show_ s 6
    else if a ≠ 1 then show_ s a
    else if x.st = 3 ∧ y.st = 3 then ((show_ s 1).pressInRun 0).pressInRun 1
    else if x.st = 4 ∧ y.st = 4 then
      let s := show_ s 1
      { s with laneX := { s.laneX with testing := true }, laneY := { s.laneY with testing := true } }
    else if x.st = 5 ∧ y.st = 5 then
      if x.result = 6 ∧ y.result = 6 ∧ x.pressFresh = true ∧ y.pressFresh = true then
        let s := show_ s 1
        { s with laneX := { s.laneX with confirmed := true }, laneY := { s.laneY with confirmed := true } }
      else show_ s 6
    else show_ s 6

/-- A lane that leaves LOCKOUT runs with every latched effect latched (R439, R443). -/
def LaneState.allLatched (x : LaneState) : LaneState :=
  let latched := bitsOf 32 fun k => (effectRec x.table k).getLsbD 28
  { x with
    latched := latched, since := []
    effects := bitsOf 32 fun k => latched.testBit k || !(effectRec x.table k).getLsbD 31 || x.effects.testBit k }

/-- LANE_SELF_TEST: after a valid press in LOCKOUT; a failing lane gives its failing channel (R439). -/
def execLaneSelfTest (failX failY : Option (BitVec 16)) (s : State) : Res :=
  .next <|
    if s.laneX.testing = false ∨ s.laneY.testing = false then s
    else
      let bad (s : State) (n : Nat) (f : Option (BitVec 16)) : State :=
        match f with
        | some d => let x := s.lane n; s.setLane n { x with testing := false, code := 0x0B, detail := d.toNat }
        | none => s.setLane n { s.lane n with testing := false }
      let pass (s : State) (n : Nat) : State :=
        let s := s.clearLockout n 3
        let x := s.lane n
        s.setLane n { x.allLatched with st := 3, testing := false, rx := none, causeDiff := 0, effectDiff := 0, idDiff := 0 }
      if failX.isSome || failY.isSome then
        let s := bad (bad s 0 failX) 1 failY
        (s.showPress 0 s.laneX.pressDur 6).showPress 1 s.laneY.pressDur 6
      else pass (pass s 0) 1

/-! ## SAFETY-CONFIG (R440 to R442) -/

/-- CONFIG_ENTRY: a press reaches 10 s: with every output off in both lanes both enter CONFIG, otherwise it is ignored (R438, R442). -/
def execConfigEntry (s : State) : Res :=
  .next <|
    let x := s.laneX
    let y := s.laneY
    let enter (s : State) (n : Nat) : State :=
      let x := s.lane n
      let s := s.setLane n { x with st := 5, cmds := 0, confirmed := false, pressFresh := false, staged := none, result := 0, offset := 0xFFFF }
      (s.showPress n 1000 4).laneEvent n { bit := some 5, cause := some 0x09 }
    if !x.cycles || !y.cycles || x.st == 5 || y.st == 5 then s
    else if x.cmds = 0 ∧ y.cmds = 0 ∧ x.rbOut = 0 ∧ y.rbOut = 0 then enter (enter s 0) 1
    else (s.showPress 0 1000 3).showPress 1 1000 3

/-- Every bit outside the mask of the fields is zero. -/
def zeroOutside (v : W32) (mask : Nat) : Bool := (v &&& ~~~ BitVec.ofNat 32 mask) == 0

/-- A cause record breaks a rule (R441). -/
def badCause (t : List Byte) (c : Nat) : Bool :=
  let r := causeRec t c
  let filt := fieldOf r 8 8
  let disc := fieldOf r 16 7
  let odd := c % 2 == 1
  !zeroOutside r 0xC07FFF00
    || (r.getLsbD 31 && c != 94 && decide (filt < 1 ∨ 200 < filt))
    || (r.getLsbD 30 && (decide (94 ≤ c) || odd))
    || (r.getLsbD 30 && (!r.getLsbD 31 || !causeUsed t (c + 1) || decide (disc < 1 ∨ 100 < disc)))

/-- The mask of an effect breaks a rule (R441). -/
def badMask (t : List Byte) (k : Nat) : Bool :=
  let r := effectRec t k
  let m := effectMask t k
  let l := maskBits m
  if !r.getLsbD 31 then m != 0
  else m == 0 || (l.any fun c => !causeUsed t c || c == 95)
    || (fieldOf r 29 2 == 2 && (l.length != 3 || (l.any fun c => c % 2 == 0 && causePaired t c && m.testBit (c + 1))))

/-- The record of an effect breaks a rule (R441). -/
def badEffect (t : List Byte) (k : Nat) : Bool :=
  let r := effectRec t k
  !zeroOutside r 0xF8001FFF || fieldOf r 29 2 == 3 || decide (6000 < fieldOf r 0 13)

/-- The byte offset of the first bad field; none where every field obeys the rules (R441). -/
def firstBadField (t : List Byte) : Option Nat :=
  let l := (if leAt t 8 8 = 0 then [] else [8])
    ++ ((List.range 96).filter (badCause t)).map (fun c => 0x10 + 4 * c)
    ++ ((List.range 32).flatMap fun k =>
      (if badMask t k then [0x190 + 16 * k] else []) ++ (if badEffect t k then [0x19C + 16 * k] else []))
    ++ (if leAt t 0x394 12 = 0 then [] else [0x394])
  l.head?

/-- RESULT of a staged image and the offset of a bad field, the comparison with the other lane apart (R441). -/
def checkImage (t : List Byte) : Nat × Nat :=
  if leAt t 0 2 ≠ 1 then (1, 0xFFFF)
  else if leAt t 2 2 ≠ 0x3A0 then (2, 0xFFFF)
  else if checkMatches t = false then (3, 0xFFFF)
  else match firstBadField t with
    | some o => (4, o)
    | none => (6, 0xFFFF)

/-- STAGING_READ: in CONFIG the lane reads the staging region and checks a changed image; the runtime shows SAFY.STG_CHECK (R441, R442, R593). -/
def execStagingRead (lane : Fin 2) (s : State) : Res :=
  .next <|
    let n := lane.val
    let x := s.lane n
    if x.st ≠ 5 ∨ s.rst.phase ≠ .running then s
    else
      let t := (List.range 928).map fun i => s.mramByte (0x2000 + i)
      let changed := x.staged != some t
      let r := checkImage t
      let o := (s.lane (1 - n)).staged
      let differs := match o with
        | some u => matrixId u != matrixId t || matrixCheck u != matrixCheck t
        | none => false
      let res := if r.1 = 6 ∧ differs = true then 5 else r.1
      let news := x.result != res || x.offset != r.2
      let s := if changed ∧ n = 1 then s.showCheck (matrixCheck t) else s
      let s := s.setLane n { x with
        staged := some t, result := res, offset := r.2, pressFresh := if changed then false else x.pressFresh }
      let s := if news then s.laneEvent n { bit := some 5 } else s
      if news && decide (2 ≤ res ∧ res ≤ 5) then
        s.laneEvent n { cause := some 0x0B, data := BitVec.ofNat 64 (r.2 * 65536 + res) }
      else s

/-- The generation of a bank; 0 with none valid. -/
def bankGen (b : Option (Nat × List Byte)) : Nat := (b.map (·.1)).getD 0

/-- The lane writes its copy into its inactive bank with a generation one higher than the active bank's (R442). -/
def LaneState.storeMatrix (x : LaneState) : LaneState :=
  match x.staged with
  | none => x
  | some t =>
    let active := if x.bank = 0 then x.bank0 else x.bank1
    let b := some (bankGen active + 1, t)
    if x.bank = 0 then { x with bank1 := b } else { x with bank0 := b }

/-- MATRIX_STORE: after confirmation both lanes have stored and read back their copies; if either fails, both stay in CONFIG with the old
bank (R442). -/
def execMatrixStore (okX okY : Bool) (s : State) : Res :=
  .next <|
    if !s.laneX.confirmed || !s.laneY.confirmed then s
    else
      let finish (s : State) (n : Nat) : State :=
        let x := s.lane n
        let t := x.staged.getD []
        let s := s.setLane n { x.storeMatrix with result := 7, confirmed := false, st := 1 }
        (s.laneEvent n { bit := some 5 }).laneEvent n
          { cause := some 0x0A, data := BitVec.ofNat 64 (matrixId t * 2 ^ 32 + matrixCheck t) }
      let fail (s : State) (n : Nat) : State :=
        let x := s.lane n
        let s := s.setLane n { x with result := 9, confirmed := false }
        (s.laneEvent n { bit := some 5 }).laneEvent n { cause := some 0x0B, data := BitVec.ofNat 64 (x.offset * 65536 + 9) }
      if okX && okY then finish (finish s 0) 1 else fail (fail s 0) 1

/-- CONFIG_ABANDON: the lanes start with the old table (R442). -/
def execConfigAbandon (s : State) : Res :=
  .next <|
    let leave (s : State) (n : Nat) : State :=
      let x := s.lane n
      if x.st ≠ 5 then s
      else (s.setLane n { x with result := 8, confirmed := false, st := 1 }).laneEvent n { bit := some 5, cause := some 0x0C }
    leave (leave s 0) 1

/-! ## Start and take-up (R422, R442 to R444) -/

/-- The bank that a start selects: the valid one with the higher generation (R442). -/
def LaneState.selectBank (x : LaneState) : Option (Nat × List Byte) :=
  let ok (b : Option (Nat × List Byte)) : Bool := match b with
    | some (_, t) => checkMatches t
    | none => false
  if ok x.bank0 && ok x.bank1 then
    (if bankGen x.bank0 < bankGen x.bank1 then x.bank1.map fun b => (1, b.2) else x.bank0.map fun b => (0, b.2))
  else if ok x.bank0 then x.bank0.map fun b => (0, b.2)
  else if ok x.bank1 then x.bank1.map fun b => (1, b.2) else none

/-- A lane enters LOCKOUT at its start, with a new fault or the one it holds (R443). -/
def State.startLocked (s : State) (n : Nat) (fault : Option (Nat × Nat)) : State :=
  let x := s.lane n
  match fault with
  | some (code, detail) =>
    if x.lockout then s.setLane n { x with st := 4, code := if x.code = 0 then code else x.code }
    else s.laneFault n code detail
  | none => s.setLane n { x with st := 4 }

/-- The state of a lane as its start begins (R422, R425, R443). -/
def LaneState.fresh (x : LaneState) (bank : Nat) (table : List Byte) : LaneState :=
  { st := 1, sfs := x.sfs, lockout := x.lockout, code := x.code, detail := x.detail, lockCount := x.lockCount, bank0 := x.bank0
    bank1 := x.bank1, bank := bank, table := table, record := x.record, staged := x.staged, result := x.result, offset := x.offset
    events := x.events, pressRes := x.pressRes, pressDur := x.pressDur }

/-- LANE_START: at the return of its supply or the end of SAFETY-CONFIG the lane selects its bank, compares it with the other lane's, tests
itself and enters LOCKOUT, TAKEUP or RUN. After an accepted matrix a passed self-test clears LOCKOUT (R442, R443).
DESIGN CHOICE: log entry 131. -/
def execLaneStart (lane : Fin 2) (fail : Option (BitVec 16)) (bridgeClosed : Bool) (s : State) : Res :=
  .next <|
    let n := lane.val
    let x := s.lane n
    if 2 ≤ x.st then s
    else
      let accepted := x.st == 1 && x.result == 7
      let pick := x.selectBank
      let s := (s.setDomState (20 + n) 2).chargeUpdate
      let s := s.setLane n (x.fresh ((pick.map (·.1)).getD 0) ((pick.map (·.2)).getD []))
      let o := s.lane (1 - n)
      let oTable := (o.selectBank.map (·.2)).getD []
      let table := (s.lane n).table
      let differs := o.st != 0 && (matrixId oTable != matrixId table || matrixCheck oTable != matrixCheck table)
      let s :=
        if pick.isNone then s.startLocked n (some (0x0F, 0xFFFF))
        else if differs then s.startLocked n (some (0x0A, 0xFFFF))
        else match fail with
          | some d => s.startLocked n (some (0x0B, d.toNat))
          | none =>
            let st := if bridgeClosed then 2 else 3
            let s := if accepted then s.clearLockout n st else s
            if (s.lane n).lockout then s.startLocked n none
            else
              let y := (s.lane n).allLatched
              s.setLane n { y with st := st }
      s.laneEvent n { cause := some 0x10, data := BitVec.ofNat 64 (s.lane n).st }

/-- A lane in TAKEUP has closed its switch on every output whose IN is energised and opened it on every other one, and MID reads energised
wherever IN does (R63, R444). -/
def LaneState.takenUp (x : LaneState) : Bool :=
  x.st == 2 && !x.lockout && x.sfs != 3 && decide (0 < x.cycle) && x.cmds == x.rbIn % 2 ^ 32 && (x.rbIn &&& x.rbMid) == x.rbIn

/-- TAKEUP_BYPASS_ASSERT: SAFX asserts BHX and SAFY BHY (R63, R444). -/
def execTakeupBypassAssert (s : State) : Res :=
  .next <|
    let ready (x : LaneState) : Bool := x.takenUp
    if ready s.laneX && ready s.laneY then
      { s with
        laneX := { s.laneX with bh := true }, laneY := { s.laneY with bh := true }
        carrier := { s.carrier with bhx := true, bhy := true } }
    else s

/-- TAKEUP_COMPLETE: every used cause has been filtered since the start; the matrix governs (R444). -/
def execTakeupComplete (s : State) : Res :=
  .next <|
    let run (s : State) (n : Nat) : State :=
      let x := s.lane n
      let x := { x with st := 3 }.computeEffects
      (s.setLane n { x with cmds := x.closedSwitches }).laneEvent n { cause := some 0x0E }
    if s.laneX.st = 2 ∧ s.laneY.st = 2 ∧ s.laneX.bh = true ∧ s.laneY.bh = true then run (run s 0) 1 else s

/-- LANE_STOP: the lane's regulator leaves regulation: every switch opens, its bypass-hold signal falls, its domain goes off (R419, R422,
R444). -/
def execLaneStop (lane : Fin 2) (s : State) : Res :=
  .next <|
    let n := lane.val
    let x := s.lane n
    let s := ((s.setLane n { x.fresh x.bank x.table with st := 0 }).setDomState (20 + n) 0).chargeUpdate
    { s with carrier := if n = 0 then { s.carrier with bhx := false } else { s.carrier with bhy := false } }

/-! ## Mirror pages (R74, R447 to R449) -/

/-- The page of a lane's mirror. -/
def mirrorPage (n : Nat) : Nat := 0x0C0 + n

/-- LSTAT of a lane (R448). -/
def LaneState.lstat (x : LaneState) : W32 :=
  BitVec.ofNat 32 (x.st * 2 ^ 28 + x.sfs * 2 ^ 25 + x.bh.toNat * 2 ^ 24 + x.xok.toNat * 2 ^ 23
    + ((x.rx.map (·.lock)).getD false).toNat * 2 ^ 22 + x.bank * 2 ^ 21 + x.pressed.toNat * 2 ^ 20)

/-- The words of a lane's mirror page by offset (R448). -/
def LaneState.mirror (x : LaneState) : List (Nat × Nat) :=
  let stg := x.staged.getD []
  [(0x100, x.lstat.toNat), (0x104, x.code * 2 ^ 24 + x.detail), (0x108, matrixId x.table), (0x10C, matrixCheck x.table),
    (0x110, matrixId stg), (0x114, matrixCheck stg), (0x118, x.result * 2 ^ 28 + x.offset), (0x11C, x.pressDur * 65536 + x.pressRes),
    (0x120, x.causes), (0x124, x.causes / 2 ^ 32), (0x128, x.causes / 2 ^ 64), (0x130, x.raw), (0x134, x.raw / 2 ^ 32),
    (0x138, x.raw / 2 ^ 64), (0x140, x.disc), (0x144, x.disc / 2 ^ 32), (0x150, x.effects), (0x154, x.latched), (0x158, x.cmds),
    (0x15C, x.rbIn), (0x160, x.rbMid), (0x164, x.rbOut), (0x168, x.outFlt), (0x170, x.cycle), (0x174, x.cycle / 2 ^ 32),
    (0x178, x.couplerTests * 65536 + x.switchTests), (0x17C, x.lockCount)]

/-- One event of a lane at its mirror page. -/
def State.mirrorEvent (s : State) (n : Nat) (e : LaneEvent) : State :=
  let s := match e.bit with
    | some b => s.setEvt (rk (mirrorPage n) 0x184) b
    | none => s
  match e.cause with
  | some c => s.logEvt (mirrorPage n) e.chan c e.data
  | none => s

/-- FSUP_STAT.SFS_ST and the state of SF follow the two mirrors: the worse state, MONFAULT while both are stale (R72, R74, R428). The lanes' and
SF's changes of STATE log no 0x20 or 0x21 (R93). DESIGN CHOICE: log entry 131. -/
def State.showSfs (s : State) : State :=
  let st (n : Nat) : Option Nat :=
    if s.flag (rk (mirrorPage n) 0x100) 31 then none else some (s.fld (rk (mirrorPage n) 0x100) 25 3)
  let code := match st 0, st 1 with
    | some a, some b => max a b
    | some a, none => a
    | none, some b => b
    | none, none => 4
  let s := s.showSupply 3 code
  if code = 4 then s else (s.setDomState 79 (if code = 2 then 0 else 2)).chargeUpdate

/-- MIRROR_UPDATE (R447). -/
def execMirrorUpdate (lane : Fin 2) (s : State) : Res :=
  .next <|
    let n := lane.val
    let x := s.lane n
    if (s.rst.phase ≠ .running ∧ s.rst.phase ≠ .sysReleased) ∨ x.st = 0 then s
    else
      let s := x.mirror.foldl (fun s e => s.setReg (rk (mirrorPage n) e.1) (BitVec.ofNat 32 e.2)) s
      let s := x.events.foldl (fun s e => s.mirrorEvent n e) s
      (s.setLane n { s.lane n with events := [] }).showSfs

/-- MIRROR_STALE: no valid update for 1 ms (R447). -/
def execMirrorStale (lane : Fin 2) (s : State) : Res :=
  .next <|
    let p := mirrorPage lane.val
    if s.flag (rk p 0x100) 31 then s
    else (((s.setFlag (rk p 0x100) 31 true).setEvt (rk p 0x184) 7).logEvt p 0xFFF 0x0F).showSfs

end Sys2Proof.Machine
end

