-- ==== Sys2Proof/Machine/Can.lean ====
section
/-! DEFINITION. The CAN FD controllers (spec/19, R499 to R523): enabling, reception and staging, posting and transmission, errors and twin
mode. Error counters count as ISO 11898-1 has them (log entry 58). -/

namespace Sys2Proof.Machine

/-! ## Registers -/

/-- A register of controller `n`. -/
def canKey (n off : Nat) : Nat := rk (canPage n) off

/-- A controller's state in ESTAT: 0 error active, 1 error passive, 2 bus-off, 3 integrating. -/
def State.canState (s : State) (n : Nat) : Nat := s.fld (canKey n Reg.CAN_ESTAT) 30 2

/-- A controller takes part on the bus: its port is open, it is enabled, and it is error active or passive (R82, R116). -/
def State.canLive (s : State) (n : Nat) : Bool :=
  !s.isolated (canPage n) && s.flag (canKey n Reg.CTRL) 0 && decide (s.canState n < 2)

/-- Bus monitoring (R517, R522): on request, or because the module is silent. -/
def State.canMonitor (s : State) (n : Nat) : Bool := s.flag (canKey n Reg.CAN_CFG) 27 || s.silent

/-- A nominal bit's length in CLK_CAN cycles (R500). -/
def State.canNominal (s : State) (n : Nat) : Nat :=
  let k := canKey n Reg.CAN_NBT
  (s.fld k 24 8 + 1) * (3 + s.fld k 16 8 + s.fld k 8 7)

/-- A data bit's length in CLK_CAN cycles (R500). -/
def State.canData (s : State) (n : Nat) : Nat :=
  let k := canKey n Reg.CAN_DBT
  (s.fld k 24 5 + 1) * (3 + s.fld k 16 5 + s.fld k 8 4)

/-- FD frames, and the bit-rate switch, are enabled. -/
def State.canFd (s : State) (n : Nat) : Bool := s.flag (canKey n Reg.CAN_CFG) 31
def State.canBrs (s : State) (n : Nat) : Bool := s.canFd n && s.flag (canKey n Reg.CAN_CFG) 30

/-- The bit timing allows an enable: 10 kbit/s to 1 Mbit/s, and data at the nominal rate or more, at most 8 Mbit/s (R500). -/
def State.timingOk (s : State) (n : Nat) : Bool :=
  let nb := s.canNominal n
  let db := s.canData n
  decide (80 ≤ nb ∧ nb ≤ 8000) && (!s.canBrs n || decide (10 ≤ db ∧ db ≤ nb))

/-- Tmax in ns (R503); a CLK_CAN cycle is 12.5 ns. -/
def State.canTmax (s : State) (n : Nat) : Nat :=
  let nb := s.canNominal n
  let cycles := if !s.canFd n then 160 * nb else if !s.canBrs n then 740 * nb else 60 * nb + 680 * s.canData n
  cycles * 25 / 2

/-- Triple sampling is in use (R501). -/
def State.canTriple (s : State) (n : Nat) : Bool :=
  s.flag (canKey n Reg.CTRL) 0 && decide (640 ≤ s.canNominal n) && !s.flag (canKey n Reg.CAN_CFG) 29

/-- What NBT, DBT and CFG store of a written value (R522). -/
def canStored (off : Nat) (v : W32) : W32 :=
  let sjw (v : W32) (w lo : Nat) : W32 := if fieldOf v lo w < fieldOf v 0 w then withField v 0 w (fieldOf v lo w) else v
  match off with
  | 0x100 => if fieldOf v 8 8 = 0 then withField v 8 8 1 else v
  | 0x104 => sjw (if fieldOf v 16 8 = 0 then withField v 16 8 1 else v) 7 8
  | 0x108 => sjw v 4 8
  | _ => v

/-- A write to the timing registers has no effect while the controller is enabled (R500). -/
def State.timingClosed (s : State) (p off : Nat) : Bool := (off == 0x104 || off == 0x108) && s.flag (rk p Reg.CTRL) 0

/-- CTRL.EN of a controller rises or falls (R499, R500, R503). -/
def State.canEnable (p : Nat) (on : Bool) (s : State) : State :=
  let n := p - 0x0E0
  let s := s.setFld (canKey n Reg.CAN_ESTAT) 30 2 3
  if !on then s.setReg (canKey n 0x12C) 0
  else if s.timingOk n then s.setReg (canKey n 0x12C) (BitVec.ofNat 32 (s.canTmax n))
  else
    let s := (s.setFlag (rk p Reg.CTRL) 0 false).setFlag (rk p Reg.STAT) 0 false
    (s.setEvt (canKey n 0x130) 6).logCan n 0xFFF 0x0E

/-- A write of CTRL of a CAN page: with EN already 1 it starts a bus-off recovery that is not automatic (R516). -/
def State.writeCanCtrl (s : State) (w : Writer) (p : Nat) (v : W32) : State :=
  let n := p - 0x0E0
  let restart := v.getLsbD 0 && s.flag (rk p Reg.CTRL) 0 && s.canState n == 2 && !s.flag (canKey n Reg.CAN_CFG) 28
  let s := if restart then s.setCanCtl n { s.canCtl n with recovering := true } else s
  s.writeCtrl w p v (State.canEnable p)

/-- CAN_ENABLE: a write of CTRL of a CAN page (R500, R516). -/
def execCanEnable (w : Writer) (ctrl : Fin 8) (value : W32) (s : State) : Res :=
  .next (s.access w (canPage ctrl.val) Reg.CTRL value fun s => s.writeCanCtrl w (canPage ctrl.val) value)

/-- CAN_BUS_INTEGRATED: 11 consecutive recessive bits (R499). -/
def execCanBusIntegrated (ctrl : Fin 8) (s : State) : Res :=
  .next <|
    let n := ctrl.val
    let k := canKey n Reg.CAN_ESTAT
    if s.domState (10 + n) = 2 ∧ s.flag (canKey n Reg.CTRL) 0 = true ∧ s.canState n = 3 then
      let passive := decide (128 ≤ s.fld k 8 8 ∨ 128 ≤ s.fld k 16 8)
      (s.setFld k 30 2 passive.toNat).setCanCtl n { s.canCtl n with released := false }
    else s

/-! ## Error counters (R498, R516, R522) -/

/-- Error counters take values: TEC and REC saturate at 0xFF, and passing 128 either way is an event (R522, R523).
PRESUMED: log entry 58. -/
def State.setCounters (s : State) (n tec rec_ : Nat) : State :=
  let k := canKey n Reg.CAN_ESTAT
  let was := decide (128 ≤ s.fld k 8 8 ∨ 128 ≤ s.fld k 16 8)
  let now := decide (128 ≤ tec ∨ 128 ≤ rec_)
  let s := (s.setFld k 8 8 (min tec 255)).setFld k 16 8 (min rec_ 255)
  let s := if s.canState n < 2 then s.setFld k 30 2 now.toNat else s
  if now && !was then
    (s.setEvt (canKey n 0x130) 2).logCan n 0xFFF 0x01 (BitVec.ofNat 64 (min tec 255 * 256 + min rec_ 255))
  else if was && !now then s.logCan n 0xFFF 0x02
  else s

/-- TEC of a controller. -/
def State.tec (s : State) (n : Nat) : Nat := s.fld (canKey n Reg.CAN_ESTAT) 8 8
/-- REC of a controller. -/
def State.recCnt (s : State) (n : Nat) : Nat := s.fld (canKey n Reg.CAN_ESTAT) 16 8

/-- The number of LEC (R522). -/
def canErrorNum : CanError → Nat
  | .stuff => 1
  | .form => 2
  | .ack => 3
  | .bit1 => 4
  | .bit0 => 5
  | .crc => 6

/-! ## Objects and chains (R505, R506) -/

/-- A field of OCFG. -/
def State.ocfg (s : State) (n k lo w : Nat) : Nat := s.objField n k Obj.OCFG lo w

/-- EN and DIR of an object. -/
def State.objEn (s : State) (n k : Nat) : Bool := s.ocfg n k 63 1 == 1
def State.objTx (s : State) (n k : Nat) : Bool := s.ocfg n k 62 1 == 1

/-- An enabled object heads a chain (R505). -/
def State.headsChain (s : State) (n k : Nat) : Bool := s.objEn n k && s.ocfg n k 55 1 == 1 && decide (k < s.ocfg n k 48 7)

/-- The head of the enabled chain that an object belongs to; itself where it belongs to none. -/
def State.headOf (s : State) (n k : Nat) : Nat :=
  ((List.range k).find? fun h => s.headsChain n h && decide (k ≤ s.ocfg n h 48 7)).getD k

/-- The data bytes of a frame, by its format and code (R508). -/
def dlcBytes (fdf : Bool) (dlc : Nat) : Nat :=
  if dlc ≤ 8 then dlc
  else if !fdf then 8
  else match dlc with
    | 9 => 12 | 10 => 16 | 11 => 20 | 12 => 24 | 13 => 32 | 14 => 48 | _ => 64

/-- Identifier and mask of an object; of a base identifier only the upper 11 bits (R506). -/
def State.objId (s : State) (n h : Nat) : Nat :=
  let v := s.objField n h Obj.OID 0 29
  if s.ocfg n h 58 1 = 1 then v else v / 2 ^ 18 * 2 ^ 18
def State.objMask (s : State) (n h : Nat) : Nat :=
  let v := s.objField n h Obj.OID 32 29
  if s.ocfg n h 58 1 = 1 then v else v / 2 ^ 18 * 2 ^ 18

/-- The filter of a receive object accepts a frame (R505, R506). -/
def State.accepts (s : State) (n h : Nat) (f : CanFrame) : Bool :=
  s.objEn n h && !s.objTx n h && (s.ocfg n h 58 1 == 1) == f.ide && (s.ocfg n h 57 1 == 1) == f.rtr
    && (f.id.toNat ^^^ s.objId n h) &&& s.objMask n h == 0

/-- The lowest-numbered receive object or chain head whose filter accepts a frame (R509). -/
def State.acceptor (s : State) (n : Nat) (f : CanFrame) : Option Nat :=
  (List.range 128).find? fun h => s.headOf n h == h && s.accepts n h f

/-- A refused write or post (R513, R515, R518, R522, R523). -/
def State.refuseObj (s : State) (n k off : Nat) : State :=
  (s.countSat (canKey n 0x128) 16 16 1).logCan n k 0x09 (BitVec.ofNat 64 off)

/-! ## Delivery (R509, R511, R512) -/

/-- ORXID of a frame (R504). -/
def orxid (f : CanFrame) : W64 := BitVec.ofNat 64 (f.ide.toNat * 2 ^ 31 + f.rtr.toNat * 2 ^ 30 + f.id.toNat)

/-- A frame is written into object `k` whose configuration is that of `h` (R505, R509). -/
def State.fillObj (s : State) (n h k : Nat) (f : CanFrame) (t : Stamps) : State :=
  let room := min (s.ocfg n h 32 8) 64
  let cut := decide (room < f.data.length)
  let was := s.objField n k Obj.OSTAT 35 1 == 1
  let s := (f.data.take room).zipIdx.foldl (fun s e => s.setCan (objAt n k + Obj.DATA + e.2) 1 e.1.toNat) s
  let s := s.setObjWord n k Obj.ORXID (orxid f)
  let s := (s.setObjField n k Obj.OSTAT 35 5 (f.dlc.toNat * 2 + cut.toNat)).setObjField n k Obj.OSTAT 30 3
    (f.fdf.toNat * 4 + f.brs.toNat * 2 + f.esi.toNat)
  let s := (s.setObjWord n k Obj.TSL t.tsl).setObjWord n k Obj.TSO t.tso
  let s := s.setObjState n k Obj.posted
  let s := (s.countMod (canKey n Reg.CAN_RXCNT) 0 32 1).setEvt (canKey n 0x130) 0
  let s := if cut && !was then s.logCan n k 0x0D (BitVec.ofNat 64 f.dlc.toNat) else s
  let s :=
    if s.objField n h Obj.OSTAT 33 1 = 1 then
      ((s.setObjField n h Obj.OSTAT 33 1 0).setMapBit (canKey n 0x160) h false).logCan n h 0x08
    else s
  s.fireTriggers 3 (BitVec.ofNat 32 (n * 128 + h)) t.tso

/-- A frame meets an object that is still POSTED (R509). -/
def State.overrunObj (s : State) (n h : Nat) : State :=
  let x := s.canCtl n
  let first := !x.overrun.contains h
  let s := s.setCanCtl n { x with overrun := insertNew x.overrun h }
  let s := (s.setObjField n h Obj.OSTAT 34 1 1).countSat (canKey n 0x128) 0 16 1
  let s := s.setEvt (canKey n 0x130) 4
  if first then s.logCan n h 0x06 else s

/-- A frame is delivered to object or chain `h` (R509); one whose object has been disabled is discarded (R514, R521). -/
def State.deliverCan (s : State) (n h : Nat) (f : CanFrame) (t : Stamps) : State :=
  if !s.objEn n h then s else
  let x := s.canCtl n
  let chain := s.headsChain n h
  let k := if chain then max h (sget (dflt 0) x.fill h) else h
  let busy := s.objState n k == Obj.posted
  let s := if busy then s.overrunObj n h else s
  if busy && s.ocfg n h 56 1 == 0 then s
  else
    let s := s.fillObj n h k f t
    if chain then
      let next := if k < s.ocfg n h 48 7 then k + 1 else h
      s.setCanCtl n { s.canCtl n with fill := sset (dflt 0) (s.canCtl n).fill h next }
    else s

/-! ## Twin mode (R519) -/

/-- LTB ticks of TWRES. -/
def State.twresTicks (s : State) (n : Nat) : Nat := s.fld (canKey n Reg.CAN_CFG) 8 8 * 1250000

/-- Object `h` takes L and W. -/
def State.setWindow (s : State) (n h l w : Nat) : State :=
  (s.setObjField n h Obj.OSTAT 48 8 l).setObjWord n h Obj.WIN (BitVec.ofNat 64 w)

/-- The decision on a frame with sequence `q` at object `h`: whether it is delivered, and the state after it (R519). -/
def State.twinDecide (s : State) (n h q : Nat) (at_ : W64) : Bool × State :=
  let x := s.canCtl n
  let l := s.objField n h Obj.OSTAT 48 8
  let w := (s.objWord n h Obj.WIN).toNat
  let d := (q + 256 - l) % 256
  let stale := match sget (dflt none) x.accepted h with
    | none => true
    | some u => decide (s.twresTicks n ≤ (at_ - u).toNat)
  let took (s : State) : State :=
    let x := s.canCtl n
    s.setCanCtl n { x with accepted := sset (dflt none) x.accepted h (some at_), staleRun := x.staleRun.filter (· != h) }
  if stale then (true, took (s.setWindow n h q 1))
  else if 1 ≤ d ∧ d ≤ 127 then (true, took (s.setWindow n h q (if 64 ≤ d then 1 else (w * 2 ^ d) % 2 ^ 64 ||| 1)))
  else if d = 0 ∨ (193 ≤ d ∧ w.testBit (256 - d) = true) then
    (false, (s.countSat (canKey n Reg.CAN_DROPCNT) 16 16 1))
  else if 193 ≤ d then (true, took (s.setWindow n h l (w ||| 2 ^ (256 - d))))
  else
    let first := !x.staleRun.contains h
    let s := (s.setCanCtl n { x with staleRun := insertNew x.staleRun h }).countSat (canKey n Reg.CAN_DROPCNT) 0 16 1
    (false, if first then s.logCan n h 0x10 (BitVec.ofNat 64 (l * 256 + q)) else s)

/-- The frame passes twin mode where the object has it (R519). -/
def State.twinPass (s : State) (n h : Nat) (f : CanFrame) (t : Stamps) : Bool × State :=
  if s.ocfg n h 61 1 = 1 then s.twinDecide n h ((f.data.getLastD 0).toNat) t.tsl else (true, s)

/-! ## An attempt to send ends without success (R513, R514) -/

/-- The controller's frame is no longer on the wire. -/
def State.wireFree (s : State) (n : Nat) : State := s.wireEnds (10 + n)

/-- An object is disabled (R514). -/
def State.disableObj (s : State) (n k : Nat) : State :=
  let s := (s.setObjState n k Obj.disabled).nextGen n k
  let x := s.canCtl n
  let s := s.setCanCtl n { x with posts := x.posts.filter (· != k), replay := x.replay.filter (· != k), disabling := x.disabling.filter (· != k), aborting := x.aborting.filter (· != k) }
  s.logCan n k 0x0A (BitVec.ofNat 64 (s.objField n k Obj.OSTAT 56 8))

/-- An object leaves PENDING or ON_WIRE with a STATE. -/
def State.endPost (s : State) (n k st : Nat) : State :=
  let x := s.canCtl n
  let s := s.setCanCtl n { x with posts := x.posts.filter (· != k), replay := x.replay.filter (· != k), aborting := x.aborting.filter (· != k) }
  s.setObjState n k st

/-- The object whose frame is on the wire. -/
def State.onWireObj (s : State) (n : Nat) : Option Nat := (s.canCtl n).posts.find? fun k => s.objState n k == Obj.onWire

/-- The frame on the wire lost arbitration or met an error (R513, R514). -/
def State.attemptFailed (s : State) (n : Nat) : State :=
  match s.onWireObj n with
  | none => s
  | some k =>
    let x := s.canCtl n
    let s := s.wireFree n
    if x.disabling.contains k then s.disableObj n k
    else if x.aborting.contains k then s.endPost n k Obj.aborted
    else s.setObjState n k Obj.pending

/-! ## Reception (R499, R509, R510) -/

/-- The bytes by which a received or posted frame is told from others in receipts and in the hash (log entry 59). -/
def canBytes (f : CanFrame) : List Byte :=
  natBytes (orxid f).toNat 4 ++ [BitVec.ofNat 8 (f.dlc.toNat + f.fdf.toNat * 16 + f.brs.toNat * 32)] ++ f.data

/-- CAN_FRAME_RECEIVE: a frame has passed the protocol's checks (R509, R510). The holder decides on twin mode before staging; the
non-holder at the posting. -/
def execCanFrameReceive (ctrl : Fin 8) (frame : CanFrame) (stamps : Stamps) (s : State) : Res :=
  .next <|
    let n := ctrl.val
    if !s.canLive n then s
    else
      let s := s.attemptFailed n
      let r := s.recCnt n
      let s := s.setCounters n (s.tec n) (if 127 < r then 127 else r - 1)
      match s.acceptor n frame with
      | none => s
      | some h =>
        if s.mirroring then
          let p := if s.holder then s.twinPass n h frame stamps else (true, s)
          if !p.1 then p.2
          else
            let s := p.2
            let x := s.canCtl n
            if 64 ≤ x.staging.length then s.logCan n 0xFFF 0x11 (BitVec.ofNat 64 frame.id.toNat)
            else
              let e : StagedCan := { obj := h, frame := frame, stamps := stamps, release := if s.holder then some (s.boundaryAfter 1250) else none }
              s.setCanCtl n { x with staging := x.staging ++ [e] }
        else
          let p := s.twinPass n h frame stamps
          if p.1 then p.2.deliverCan n h frame stamps else p.2

/-- A staged frame whose release boundary has come. -/
def State.canDue (s : State) (e : StagedCan) : Bool :=
  match e.release with
  | some g => notAfter g s.lfi
  | none => false

/-- CAN_FRAME_POST: a staged frame is posted at its release boundary (R510). -/
def execCanFramePost (ctrl : Fin 8) (s : State) : Res :=
  .next <|
    let n := ctrl.val
    let x := s.canCtl n
    match x.staging.find? s.canDue with
    | none => s
    | some e =>
      let s := s.setCanCtl n { x with staging := x.staging.erase e }
      let s := if s.holder then s else (s.twinPass n e.obj e.frame e.stamps).2
      s.deliverCan n e.obj e.frame e.stamps

/-- CAN_STAGING_DISCARD: a frame that was staged on the non-holder and that no receipt has claimed within 1 ms (R510). -/
def execCanStagingDiscard (ctrl : Fin 8) (s : State) : Res :=
  .next <|
    let n := ctrl.val
    let x := s.canCtl n
    match x.staging.find? fun e => e.release.isNone with
      | none => s
      | some e => s.setCanCtl n { x with staging := x.staging.erase e }

/-- A receipt names a staged frame of this controller: release, object and stamps are the holder's (R460, R510). -/
def State.claimCan (s : State) (n : Nat) (r : Receipt) : Option State :=
  let x := s.canCtl n
  (x.staging.find? fun e => e.release.isNone && crc64 (canBytes e.frame) == r.crc).map fun e =>
    s.setCanCtl n { x with staging := x.staging.map fun y =>
      if y = e then { y with release := some r.release, obj := r.dest, stamps := r.stamps } else y }

/-- CAN_RECEIVE_TIMEOUT: more than RXTMO ms since the last delivery or the enable (R512). -/
def execCanReceiveTimeout (ctrl : Fin 8) (obj : Fin 128) (s : State) : Res :=
  .next <|
    let n := ctrl.val
    let k := obj.val
    let ms := s.ocfg n k 16 16
    if s.domState (10 + n) = 2 ∧ s.objEn n k = true ∧ s.objTx n k = false ∧ s.headOf n k = k ∧ ms ≠ 0 ∧ s.objField n k Obj.OSTAT 33 1 = 0 then
      let s := (s.setObjField n k Obj.OSTAT 33 1 1).setMapBit (canKey n 0x160) k true
      (s.setEvt (canKey n 0x130) 5).logCan n k 0x07 (BitVec.ofNat 64 ms)
    else s

/-! ## Posting (R513, R517, R518) -/

/-- The frame that a transmit object sends (R505, R508). -/
def State.objFrame (s : State) (n k : Nat) : CanFrame :=
  let h := s.headOf n k
  let fdf := s.ocfg n h 60 1 == 1 && s.canFd n
  let rtr := s.ocfg n h 57 1 == 1 && !fdf
  let dlc := s.ocfg n h 44 4
  { id := BitVec.ofNat 29 (s.objId n h), ide := s.ocfg n h 58 1 == 1, rtr := rtr, fdf := fdf
    brs := fdf && s.ocfg n h 59 1 == 1 && s.canBrs n, esi := false, dlc := BitVec.ofNat 4 dlc
    data := if rtr then [] else (List.range (dlcBytes fdf dlc)).map fun i => s.canByte (objAt n k + Obj.DATA + i) }

/-- Bytes of frames held for the verdict: CAN frames by their data, Ethernet frames by their length (R467, R517, R541).
DEDUCED: log entry 66. -/
def State.heldBytes (s : State) : Nat :=
  let can := (List.range 8).map fun n => ((s.canCtl n).posts.map fun k => (s.objFrame n k).data.length).sum
  can.sum + (s.net.ethA.taken.map (·.len)).sum + (s.net.ethB.taken.map (·.len)).sum

/-- NETHOLD.PEAK follows the hold (R479). DEDUCED: log entry 66. -/
def State.holdPeak (s : State) : State :=
  if s.pair.verdict then
    s.setFld Reg.CLAIM_NETHOLD 0 16 (max (s.fld Reg.CLAIM_NETHOLD 0 16) (min 0xFFFF ((s.heldBytes + 1023) / 1024)))
  else s

/-- The CRC-64 of a frame queued for transmission goes into the hash of the frame (R464). -/
def State.hashFrame (s : State) (l : List Byte) : State :=
  if s.mirroring then
    { s with pair := { s.pair with hashAcc := (natBytes (crc64 l).toNat 8).foldl crc64Byte s.pair.hashAcc } }
  else s

/-- The sequence of a post in twin mode (R518). -/
def State.assignSeq (s : State) (n k : Nat) : State :=
  let h := s.headOf n k
  if s.ocfg n h 61 1 = 0 then s
  else
    let q := (s.objField n k Obj.OSTAT 48 8 + 1) % 256
    let s := s.setObjField n k Obj.OSTAT 48 8 q
    let last := dlcBytes (s.ocfg n h 60 1 == 1 && s.canFd n) (s.ocfg n h 44 4) - 1
    let s := s.setCan (objAt n k + Obj.DATA + last) 1 q
    let x := s.canCtl n
    if x.unposted.contains k then
      (s.setCanCtl n { x with unposted := x.unposted.filter (· != k) }).setObjField n k Obj.OSTAT 40 8 q
    else s

/-- A post that twin mode refuses (R518). -/
def State.twinRefused (s : State) (n k : Nat) : Bool :=
  let h := s.headOf n k
  s.ocfg n h 61 1 == 1 && (s.ocfg n h 44 4 == 0 || s.ocfg n h 57 1 == 1)

/-- POST on an object (R513, R517, R518). -/
def State.postObj (s : State) (n k : Nat) : State :=
  let st := s.objState n k
  if !s.objEn n k || !s.objTx n (s.headOf n k) then s
  else if st = Obj.pending ∨ st = Obj.onWire ∨ s.twinRefused n k = true then s.refuseObj n k Obj.OCMD
  else
    let s := (s.assignSeq n k).setObjField n k Obj.OSTAT 16 8 0
    let x := s.canCtl n
    if s.silent then s.setObjState n k Obj.dropped
    else if s.pair.verdict && decide (64 ≤ x.posts.length) then
      (s.setObjState n k Obj.dropped).countSat Reg.CLAIM_NETHOLD 16 16 1
    else
      let s := (s.setCanCtl n { x with posts := x.posts ++ [k] }).setObjState n k Obj.pending
      (s.hashFrame (canBytes (s.objFrame n k))).holdPeak

/-- ABORT on an object (R514). -/
def State.abortObj (s : State) (n k : Nat) : State :=
  let st := s.objState n k
  if !s.objTx n (s.headOf n k) then s
  else if st = Obj.pending then s.endPost n k Obj.aborted
  else if st = Obj.onWire then s.setCanCtl n { s.canCtl n with aborting := insertNew (s.canCtl n).aborting k }
  else s

/-- RELEASE on an object (R509). -/
def State.releaseObj (s : State) (n k : Nat) : State :=
  if s.objTx n (s.headOf n k) || s.objState n k != Obj.posted then s
  else
    let x := s.canCtl n
    (s.setCanCtl n { x with overrun := x.overrun.filter (· != s.headOf n k) }).setObjState n k Obj.idle

/-- A write to OCMD (R504). -/
def State.writeOcmd (s : State) (n k v : Nat) : State :=
  let s := if v.testBit 1 then s.abortObj n k else if v.testBit 0 then s.postObj n k else s
  if v.testBit 2 then s.releaseObj n k else s

/-! ## Writes to the window (R504, R505, R514, R515) -/

/-- EN of an object rises (R507, R512, R518, R519). -/
def State.enableObj (s : State) (n k : Nat) : State :=
  let s := s.setObjState n k Obj.idle
  let x := s.canCtl n
  let s := s.setCanCtl n { x with unposted := insertNew x.unposted k, accepted := sset (dflt none) x.accepted k none, fill := sset (dflt 0) x.fill k 0, staleRun := x.staleRun.filter (· != k), overrun := x.overrun.filter (· != k) }
  if s.objField n k Obj.OSTAT 33 1 = 1 then (s.setObjField n k Obj.OSTAT 33 1 0).setMapBit (canKey n 0x160) k false else s

/-- EN of an object falls (R514). -/
def State.writeDisable (s : State) (n k : Nat) : State :=
  if s.objState n k = Obj.onWire then
    s.setCanCtl n { s.canCtl n with disabling := insertNew (s.canCtl n).disabling k }
  else s.disableObj n k

/-- What OCFG stores of a value (R505). -/
def ocfgStored (v : W64) : W64 :=
  let v := v &&& 0xFFFFF0FFFFFF0000
  if 64 < bits64 v 32 8 then withField64 v 32 8 64 else v

/-- A write of OCFG (R505, R514, R515). -/
def State.writeOcfg (s : State) (n k : Nat) (v : W64) : State :=
  let old := s.objWord n k Obj.OCFG
  let new := ocfgStored v
  let busy := s.objState n k == Obj.pending || s.objState n k == Obj.onWire
  let refused := busy && ((old ^^^ new) &&& 0x7FFFFFFFFFFFFFFF) != 0
  let keep := if busy then (old &&& 0x7FFFFFFFFFFFFFFF) ||| (new &&& 0x8000000000000000) else new
  let s := if refused then s.refuseObj n k Obj.OCFG else s
  let s := s.setObjWord n k Obj.OCFG keep
  let was := old.getLsbD 63
  let now := keep.getLsbD 63
  if now && !was then s.enableObj n k else if was && !now then s.writeDisable n k else s

/-- A write to the window of controller `n`: `off` the offset of a 64-bit word in it, `v` the whole word as it would be, `m` the bits
written (R504, R515). -/
def State.writeObj (s : State) (n off : Nat) (v m : W64) : State :=
  let k := off / 0x80 % 128
  let o := off % 0x80
  let busy := s.objState n k == Obj.pending || s.objState n k == Obj.onWire
  if o = Obj.OCFG then s.writeOcfg n k v
  else if o = Obj.OCMD then s.writeOcmd n k (v &&& m).toNat
  else if o = Obj.OSTAT then if (v &&& m).getLsbD 34 then s.setObjField n k Obj.OSTAT 34 1 0 else s
  else if o = Obj.OID then
    if busy then s.refuseObj n k o else s.setObjWord n k o (v &&& 0x1FFFFFFF1FFFFFFF)
  else if Obj.DATA ≤ o then if busy then s.refuseObj n k o else s.setObjWord n k o v
  else s

/-- A 64-bit write to a word of an object as a command brings it: the window of a controller whose domain is not ON is isolated (R504). -/
def State.objCommand (s : State) (n k o : Nat) (v : W64) : State :=
  if s.domState (10 + n) = 2 then (s.respond .okay).writeObj n (k * 0x80 + o) v 0xFFFFFFFFFFFFFFFF
  else s.respond .errIsolated

/-- CAN_POST (R513). -/
def execCanPost (ctrl : Fin 8) (obj : Fin 128) (s : State) : Res := .next (s.objCommand ctrl.val obj.val Obj.OCMD 1)

/-- CAN_ABORT (R514). -/
def execCanAbort (ctrl : Fin 8) (obj : Fin 128) (s : State) : Res := .next (s.objCommand ctrl.val obj.val Obj.OCMD 2)

/-- CAN_RELEASE (R509). -/
def execCanRelease (ctrl : Fin 8) (obj : Fin 128) (s : State) : Res := .next (s.objCommand ctrl.val obj.val Obj.OCMD 4)

/-- CAN_OBJECT_DISABLE: OCFG is written back with EN 0 (R514). -/
def execCanObjectDisable (ctrl : Fin 8) (obj : Fin 128) (s : State) : Res :=
  .next (s.objCommand ctrl.val obj.val Obj.OCFG (s.objWord ctrl.val obj.val Obj.OCFG &&& 0x7FFFFFFFFFFFFFFF))

/-! ## Transmission (R513, R514) -/

/-- An object may be offered: PENDING, and of a chain only its oldest (R513). -/
def State.offerable (s : State) (n k : Nat) : Bool :=
  s.objState n k == Obj.pending &&
    ((s.canCtl n).posts.find? fun j => s.headOf n j == s.headOf n k) == some k

/-- Object `a` goes before object `b`: by identifier, a base identifier before an extended one with the same leading bits, then by number
(R513). -/
def State.goesFirst (s : State) (n a b : Nat) : Bool :=
  let key (k : Nat) : Nat := s.objId n (s.headOf n k) * 2 + s.ocfg n (s.headOf n k) 58 1
  decide (key a < key b ∨ (key a = key b ∧ a < b))

/-- The object offered at a chance to start a frame (R513, R517). DEDUCED: log entry 60. -/
def State.offered (s : State) (n : Nat) : Option Nat :=
  match (s.canCtl n).replay with
  | k :: _ => some k
  | [] => ((s.canCtl n).posts.filter (s.offerable n)).foldl (fun best k =>
      match best with
      | none => some k
      | some b => if s.goesFirst n k b then some k else some b) none

/-- The posts of a silent module end DROPPED (R517). -/
def State.dropPosts (s : State) (n : Nat) : State :=
  ((s.canCtl n).posts.filter fun k => s.objState n k == Obj.pending).foldl (fun s k => s.endPost n k Obj.dropped) s

/-- CAN_TRANSMIT_START: a chance to start a frame (R513, R517). DEDUCED: log entry 60. -/
def execCanTransmitStart (ctrl : Fin 8) (s : State) : Res :=
  .next <|
    let n := ctrl.val
    if s.canLive n && s.silent then s.dropPosts n
    else if !s.canLive n || s.canMonitor n || s.pair.verdict || (s.onWireObj n).isSome then s
    else match s.offered n with
      | none => s
      | some k =>
        let s := s.setObjState n k Obj.onWire
        let s := s.setObjField n k Obj.OSTAT 16 8 (min 255 (s.objField n k Obj.OSTAT 16 8 + 1))
        { s with pwr := { s.pwr with onWire := insertNew s.pwr.onWire (10 + n) } }

/-- CAN_TRANSMIT_COMPLETE: the frame on the wire has been sent; `delay` is TDCV of a frame with bit-rate switch (R502, R511, R513, R514). -/
def execCanTransmitComplete (ctrl : Fin 8) (stamps : Stamps) (delay : BitVec 7) (s : State) : Res :=
  .next <|
    let n := ctrl.val
    match s.onWireObj n with
    | none => s
    | some k =>
      let f := s.objFrame n k
      let s := (s.setObjWord n k Obj.TSL stamps.tsl).setObjWord n k Obj.TSO stamps.tso
      let s := s.setObjField n k Obj.OSTAT 36 4 f.dlc.toNat
      let s := if f.fdf then s.setFld (canKey n Reg.CAN_TDC) 0 7 delay.toNat else s
      let s := (s.countMod (canKey n Reg.CAN_TXCNT) 0 32 1).setEvt (canKey n 0x130) 1
      let s := (s.wireFree n).setCounters n (s.tec n - 1) (s.recCnt n)
      if (s.canCtl n).disabling.contains k then s.disableObj n k else s.endPost n k Obj.done

/-- CAN_ERROR_FRAME: a protocol error; `sending` says that this controller sent the frame, `worse` that as a receiver it counts 8 (R499).
PRESUMED: log entry 58. -/
def execCanErrorFrame (ctrl : Fin 8) (error : CanError) (sending worse : Bool) (s : State) : Res :=
  .next <|
    let n := ctrl.val
    if s.domState (10 + n) ≠ 2 ∨ s.flag (canKey n Reg.CTRL) 0 = false ∨ s.canState n = 2 then s
    else
      let s := s.countSat (canKey n Reg.CAN_ERRCNT) 16 16 1
      let s := s.setFld (canKey n Reg.CAN_ESTAT) 24 3 (canErrorNum error)
      let s :=
        if sending then s.setCounters n (s.tec n + 8) (s.recCnt n)
        else s.setCounters n (s.tec n) (s.recCnt n + (if worse then 8 else 1))
      (if sending then s.attemptFailed n else s).setFld (canKey n Reg.CAN_ESTAT) 30 2 3

/-- CAN_BUS_OFF: the transmit error counter exceeds 255 (R516, R521). -/
def execCanBusOff (ctrl : Fin 8) (s : State) : Res :=
  .next <|
    let n := ctrl.val
    if s.domState (10 + n) ≠ 2 ∨ s.flag (canKey n Reg.CTRL) 0 = false ∨ s.canState n = 2 then s
    else
      let l := (s.canCtl n).posts
      let s := (s.setFld (canKey n Reg.CAN_ESTAT) 30 2 2).setFld (canKey n Reg.CAN_ESTAT) 8 8 0xFF
      let s := (s.countSat (canKey n Reg.CAN_ERRCNT) 0 16 1).setEvt (canKey n 0x130) 3
      let s := s.wireFree n
      let s := l.foldl (fun s k => if (s.canCtl n).disabling.contains k then s.disableObj n k else s.endPost n k Obj.dropped) s
      let s := s.setCanCtl n { s.canCtl n with recovering := s.flag (canKey n Reg.CAN_CFG) 28 }
      (s.logCan n 0xFFF 0x03 (BitVec.ofNat 64 (0xFF * 256))).logCan n 0xFFF 0x05 (BitVec.ofNat 64 l.length)

/-- CAN_BUS_OFF_RECOVERY: 128 occurrences of 11 consecutive recessive bits (R516). -/
def execCanBusOffRecovery (ctrl : Fin 8) (s : State) : Res :=
  .next <|
    let n := ctrl.val
    if s.canState n = 2 ∧ (s.canCtl n).recovering = true then
      let s := s.setFld (canKey n Reg.CAN_ESTAT) 8 16 0
      ((s.setFld (canKey n Reg.CAN_ESTAT) 30 2 0).setCanCtl n { s.canCtl n with recovering := false }).logCan n 0xFFF 0x04
    else s

/-- CAN_BUS_STUCK: the bus has been dominant for more than 32 nominal bit times (R499). -/
def execCanBusStuck (ctrl : Fin 8) (s : State) : Res :=
  .next <|
    let n := ctrl.val
    if s.domState (10 + n) = 2 ∧ s.flag (canKey n Reg.CTRL) 0 = true then
      (s.setEvt (canKey n 0x130) 7).logCan n 0xFFF 0x0F
    else s

/-- CAN_TRANSMIT_DOMINANT_TIMEOUT: the transceiver releases the bus (R499). -/
def execCanTransmitDominantTimeout (ctrl : Fin 8) (s : State) : Res :=
  .next (s.setCanCtl ctrl.val { s.canCtl ctrl.val with released := true })

/-! ## The hold of R467 ends (R517) -/

/-- Held frames are offered in order of posting. -/
def State.replayCan (s : State) : State :=
  (List.range 8).foldl (fun s n => s.setCanCtl n { s.canCtl n with replay := (s.canCtl n).posts }) s

/-- Held frames are dropped. -/
def State.dropHeldCan (s : State) : State :=
  (List.range 8).foldl (fun s n => (s.canCtl n).posts.foldl (fun s k => s.endPost n k Obj.dropped) s) s

end Sys2Proof.Machine
end

