-- ==== Sys2Proof/Machine/Ptp.lean ====
section
/-! DEFINITION. PTP messages in the switches (R555 to R561): their recognition, the time-stamp FIFOs and the link delay. -/

namespace Sys2Proof.Machine

/-- An event of the TIME page. -/
def State.logTime (s : State) (chan cause : Nat) (data : W64 := 0) : State := s.logEvt 0x0F2 chan cause data

/-- Bytes of a frame, most significant first. -/
def frameNat (b : List Byte) (i : Nat) : Nat → Nat
  | 0 => 0
  | n + 1 => bAt b i * 256 ^ n + frameNat b (i + 1) n

/-! ## Recognition (R557) -/

/-- Where a UDP header's payload is PTP: destination port 319 or 320. -/
def udpPtp (b : List Byte) (u : Nat) : Option Nat :=
  if frameNat b (u + 2) 2 = 319 ∨ frameNat b (u + 2) 2 = 320 then some (u + 8) else none

/-- Where the PTP message of a frame begins; `t` is where its EtherType stands. -/
def ptpAt (b : List Byte) (t : Nat) : Option Nat :=
  match frameNat b t 2 with
  | 0x88F7 => some (t + 2)
  | 0x0800 => if bAt b (t + 11) = 17 then udpPtp b (t + 2 + bAt b (t + 2) % 16 * 4) else none
  | 0x86DD => if bAt b (t + 8) = 17 then udpPtp b (t + 42) else none
  | _ => none

/-- The message is valid: versionPTP 2, and it does not exceed the frame (R557). -/
def ptpValid (b : List Byte) (m : Nat) : Bool := bAt b (m + 1) % 16 == 2 && decide (m + frameNat b (m + 2) 2 ≤ b.length)

/-- The message is an event message: Sync, Delay_Req, Pdelay_Req or Pdelay_Resp (R555). -/
def ptpEvent (b : List Byte) (m : Nat) : Bool := decide (bAt b m % 16 ≤ 3)

/-! ## correctionField (R558, R559) -/

/-- A correctionField with an amount added, saturated at its greatest value (R559). DEDUCED: log entry 79. -/
def addedCorrection (old amount : Nat) : Nat :=
  let v : Int := (BitVec.ofNat 64 old).toInt + (amount : Nat)
  if 0x7FFFFFFFFFFFFFFF < v then 0x7FFFFFFFFFFFFFFF else (BitVec.ofInt 64 v).toNat

/-- Ones' complement sum of two 16-bit numbers (RFC 1624). -/
def onesAdd (a b : Nat) : Nat := let s := a + b; s % 65536 + s / 65536

/-- A UDP checksum after four 16-bit words have changed (RFC 1624). -/
def patchedSum (sum : Nat) (old new : List Nat) : Nat :=
  let c := (old.map fun m => 65535 - m).foldl onesAdd (65535 - sum)
  65535 - new.foldl onesAdd c

/-- The four 16-bit words of a 64-bit number. -/
def words16 (v : Nat) : List Nat := [v / 2 ^ 48 % 65536, v / 2 ^ 32 % 65536, v / 65536 % 65536, v % 65536]

/-- A frame whose PTP message, at `m`, has an amount added to its correctionField, and its UDP checksum updated (R558, R559). -/
def addCorrection (b : List Byte) (m t amount : Nat) : List Byte :=
  let old := frameNat b (m + 8) 8
  let new := addedCorrection old amount
  let b' := patch b (m + 8) (natBytes new 8).reverse
  let sum := frameNat b (m - 2) 2
  if frameNat b t 2 = 0x88F7 ∨ (frameNat b t 2 = 0x0800 ∧ sum = 0) then b'
  else patch b' (m - 2) (natBytes (patchedSum sum (words16 old) (words16 new)) 2).reverse

/-! ## Time stamps (R556) -/

/-- DCn in ns. -/
def State.dcNs (s : State) (n : Nat) : W64 := ((if n = 0 then s.time.dc0 else s.time.dc1) >>> 32).setWidth 64

/-- The time-stamp FIFO of a domain, and its run of drops. -/
def State.tsf (s : State) (n : Nat) : List TsfRec := if n = 0 then s.time.tsf0 else s.time.tsf1
def State.tsfDrop (s : State) (n : Nat) : Bool := if n = 0 then s.time.tsfDrop0 else s.time.tsfDrop1

/-- The registers of a time-stamp FIFO show its level and its oldest record (R556, R567). -/
def State.showTsf (s : State) (n : Nat) : State :=
  let l := s.tsf n
  let s := s.setFld (Reg.TIME_TSFn_LVL + 0x20 * n) 0 7 l.length
  let put := fun (s : State) (k : Nat) (v : W32) => s.setReg (Reg.TIME_TSFn_RECk + 0x20 * n + 4 * k) v
  match l with
  | [] => (List.range 6).foldl (fun s k => put s k 0) s
  | r :: _ =>
    let s := put (put s 0 (r.ltb.setWidth 32)) 1 ((r.ltb >>> 32).setWidth 32)
    let s := put (put s 2 (r.dc.setWidth 32)) 3 ((r.dc >>> 32).setWidth 32)
    put (put s 4 r.word) 5 r.crc

/-- A FIFO holds a list, with its run of drops. -/
def State.setTsf (s : State) (n : Nat) (l : List TsfRec) (drop : Bool) : State :=
  let s := { s with time := if n = 0 then { s.time with tsf0 := l, tsfDrop0 := drop } else { s.time with tsf1 := l, tsfDrop1 := drop } }
  s.showTsf n

/-- A record enters the FIFO of a domain, or is dropped (R556). -/
def State.pushTsf (s : State) (n : Nat) (r : TsfRec) : State :=
  if (s.tsf n).length < 64 then s.setTsf n (s.tsf n ++ [r]) false
  else
    let first := !s.tsfDrop n
    let s := ((s.setTsf n (s.tsf n) true).countSat (Reg.TIME_TSFn_LVL + 0x20 * n) 16 16 1).setEvt Reg.TIME_TIME_EVT 5
    if first then s.logTime n 0x08 else s

/-- A PTP event message of the host is stamped for every enabled domain it belongs to (R556). DEDUCED: log entry 79. -/
def State.stampPtp (s : State) (sent : Bool) (port : Nat) (b : List Byte) (m : Nat) (ltb : W64) : State :=
  [0, 1].foldl (fun s n =>
    let k := Reg.TIME_DOM_CFGn + 4 * n
    if s.flag k 31 && s.fld k 0 8 == bAt b (m + 4) && s.fld k 24 4 == bAt b m / 16 then
      let w := sent.toNat * 2 ^ 31 + port * 2 ^ 28 + bAt b m % 16 * 2 ^ 24 + frameNat b (m + 30) 2
      let crc := crc16 ((b.drop (m + 20)).take 10)
      s.pushTsf n { ltb := ltb, dc := s.dcNs n, word := BitVec.ofNat 32 w, crc := crc.setWidth 32 }
    else s) s

/-! ## The link-delay engine (R560) -/

/-- The link-delay engine of a port. -/
def State.portDelay (s : State) (k : Nat) : PortDelay := sget (dflt {}) s.time.ports k

/-- Store a link-delay engine. -/
def State.setPortDelay (s : State) (k : Nat) (x : PortDelay) : State :=
  { s with time := { s.time with ports := sset (dflt {}) s.time.ports k x } }

/-- A Pdelay_Resp arrives at port `k` at `t4`: ((t4 − t1) − correctionField) / 2, in range and to the last request, is a link delay, and the
mean of the last eight is shown (R560). -/
def State.pdelayResponse (s : State) (k : Nat) (b : List Byte) (m : Nat) (t4 : W64) : State :=
  let x := s.portDelay k
  let turn : Int := (BitVec.ofNat 64 (frameNat b (m + 8) 8)).toInt / 65536
  let d : Int := (((t4 - x.t1).toNat * 8 : Nat) - turn) / 2
  if !x.open_ || frameNat b (m + 30) 2 != x.seq || decide (d < 0 ∨ 10000 < d) then s
  else
    let l := x.vals ++ [d.toNat]
    let l := l.drop (l.length - 8)
    let s := s.setPortDelay k { x with open_ := false, missed := 0, vals := l }
    s.setReg (Reg.TIME_PORT_LDLYk + 4 * k) (BitVec.ofNat 32 (2 ^ 31 + l.sum / l.length))

end Sys2Proof.Machine
end

