-- ==== Sys2Proof/Machine/Eth.lean ====
section
/-! DEFINITION. The Ethernet switches (spec/20, R525 to R546): forwarding, the twin header, duplicate discard and the host's rings. A frame
stands as its bytes from the destination address to the end of the payload, without FCS, in network order. -/

namespace Sys2Proof.Machine

/-! ## Frames (R529, R530) -/

/-- `n` bytes of a number, most significant first. -/
def beBytes (v n : Nat) : List Byte := (natBytes v n).reverse

/-- A frame carries an IEEE 802.1Q tag. -/
def tagged (b : List Byte) : Bool := frameNat b 12 2 == 0x8100

/-- The tag's VID and PCP, or the port's where there is none; a priority tag takes the port's VID. -/
def frameVid (b : List Byte) (pvid : Nat) : Nat := if tagged b && frameNat b 14 2 % 4096 != 0 then frameNat b 14 2 % 4096 else pvid
def framePcp (b : List Byte) (pcp : Nat) : Nat := if tagged b then frameNat b 14 2 / 8192 else pcp

/-- Where the frame's EtherType stands. -/
def typeAt (b : List Byte) : Nat := if tagged b then 16 else 12

/-- The frame is a twin frame. -/
def isTwin (b : List Byte) : Bool := frameNat b (typeAt b) 2 == 0x88B5

/-- The ten bytes of the twin header. -/
def twinHeader (b : List Byte) : List Byte := (b.drop (typeAt b + 2)).take 10

/-- The frame without the ten bytes of its twin header, where it has one (R540). -/
def withoutHeader (b : List Byte) : List Byte := if isTwin b then b.take (typeAt b + 2) ++ b.drop (typeAt b + 12) else b

/-- EtherType of a frame, INNER of a twin frame (R539). -/
def frameType (b : List Byte) : Nat := if isTwin b then frameNat (twinHeader b) 7 2 else frameNat b (typeAt b) 2

/-- One bit of CRC-8 with polynomial 0x07. -/
def crc8Bit (c : Byte) (b : Bool) : Byte := if c.getLsbD 7 != b then (c <<< 1) ^^^ 0x07#8 else c <<< 1

/-- CRC-8 of the twin header (R530). -/
def crc8 (l : List Byte) : Byte := l.foldl (fun c x => [7, 6, 5, 4, 3, 2, 1, 0].foldl (fun c i => crc8Bit c (x.getLsbD i)) c) 0#8

/-- Fields of a twin header. -/
def hdrPair (h : List Byte) : Nat := frameNat h 0 2 % 4096
def hdrEpoch (h : List Byte) : Nat := bAt h 2
def hdrSeq (h : List Byte) : Nat := frameNat h 3 3
def hdrNodup (h : List Byte) : Bool := (bAt h 6).testBit 5

/-- A twin header passes R531 but for its pair identifier. -/
def headerOk (h : List Byte) : Bool :=
  h.length == 10 && (crc8 (h.take 9)).toNat == bAt h 9 && bAt h 0 / 16 == 1 && bAt h 6 / 64 != 0 && bAt h 6 % 16 == 0

/-! ## VLANs, addresses and forwarding (R526 to R529) -/

/-- The entry of `VLANv` that is valid for a VID. DEDUCED: log entry 62. -/
def State.vlanOf (s : State) (sw vid : Nat) : Option Nat :=
  (List.range 64).find? fun v =>
    let k := netKey sw (0x180 + 4 * v)
    s.flag k 31 && s.fld k 16 12 == vid

/-- A port is a member of a VLAN, or leaves its frames untagged. -/
def State.isMember (s : State) (sw v port : Nat) : Bool := s.flag (netKey sw (0x180 + 4 * v)) port
def State.untags (s : State) (sw v port : Nat) : Bool := s.flag (netKey sw (0x180 + 4 * v)) (8 + port)

/-- The module address of a switch (R529, R544). -/
def State.moduleMac (s : State) (sw : Nat) : Nat :=
  s.fld (netKey sw 0x110) 0 16 * 2 ^ 32 + (s.reg (netKey sw 0x10C)).toNat

/-- The own pair identifier (R545). -/
def State.ownPair (s : State) : Nat := s.fld (rk 0x0F0 Reg.NET_DD_CFG) 16 12

/-- No copy of the pair epoch record was valid, and 1 s since the decision of the role has not passed: no twin frame is sent (R581). -/
def State.epochWait (s : State) : Bool :=
  s.flag Reg.MRAM_MSTAT 1 && (match s.boot.roleAt with
    | some t => decide ((s.time.ltb - t).toNat < 125000000)
    | none => true)

/-- The host port accepts a destination address (R529). -/
def State.hostAccepts (s : State) (sw dst : Nat) : Bool :=
  (dst / 2 ^ 40).testBit 0 || dst == s.moduleMac sw || (s.ownPair != 0 && dst == 0x024348000000 + s.ownPair)

/-- A source address is learnt at a port (R526). -/
def State.learn (s : State) (sw port src : Nat) : State :=
  let x := s.eth sw
  if (src / 2 ^ 40).testBit 0 then s
  else if (sget (dflt none) x.table src).isNone && decide (2048 ≤ x.table.length) then s
  else s.setEth sw { x with table := sset (dflt none) x.table src (some port) }

/-- The egress ports of a frame from a port (R526). DESIGN CHOICE: log entry 61. -/
def State.egress (s : State) (sw v ingress dst : Nat) : List Nat :=
  let all := [0, 1, 2].filter fun p => p != ingress && s.isMember sw v p
  match if (dst / 2 ^ 40).testBit 0 then none else sget (dflt none) (s.eth sw).table dst with
  | some p => all.filter (· == p)
  | none => all

/-- The frame as it leaves for a port: with or without its tag (R526). -/
def egressBytes (b : List Byte) (vid pcp : Nat) (untag : Bool) : List Byte :=
  let plain := if tagged b then b.take 12 ++ b.drop 16 else b
  if untag then plain else plain.take 12 ++ [0x81, 0x00] ++ beBytes (pcp * 8192 + vid) 2 ++ plain.drop 12

/-! ## Duplicate discard (R534 to R536) -/

/-- DD_USED counts the entries. -/
def State.setDd (s : State) (p : Nat) (e : Option DdEntry) : State :=
  let s := { s with net := { s.net with dd := sset (dflt none) s.net.dd p e } }
  s.setFld (rk 0x0F0 Reg.NET_DD_USED) 0 11 s.net.dd.length

/-- The discard unit's decision on a frame, and the state after it; `sw` is the switch that received it (R535). -/
def State.ddDecide (s : State) (sw p ep q : Nat) : Bool × State :=
  let c0 := rk 0x0F0 Reg.NET_DD_CNT0
  let c1 := rk 0x0F0 Reg.NET_DD_CNT1
  match sget (dflt none) s.net.dd p with
  | none =>
    if 1024 ≤ s.net.dd.length then
      (false, ((s.countSat c1 0 8 1).setEvt (netKey sw 0x128) 5).logNet sw 0xFFF 0x0A (BitVec.ofNat 64 p))
    else (true, s.setDd p (some { epoch := ep, l := q, w := 1 }))
  | some e =>
    if ep ≠ e.epoch then
      let a := (ep + 256 - e.epoch) % 256
      if 128 ≤ a then (false, s.countSat c0 0 16 1)
      else if e.cand = some ep then
        let s := s.setDd p (some { epoch := ep, l := q, w := 1 })
        (true, (s.setEvt (netKey sw 0x128) 4).logNet sw p 0x08 (BitVec.ofNat 64 (e.epoch * 256 + ep)))
      else (false, (s.setDd p (some { e with cand := some ep })).countSat c1 8 8 1)
    else
      let d := (q + 2 ^ 24 - e.l) % 2 ^ 24
      if 1 ≤ d ∧ d < 0x800000 then
        (true, s.setDd p (some { e with l := q, w := if 1024 ≤ d then 1 else (e.w * 2 ^ d) % 2 ^ 1025 ||| 1, staleRun := false }))
      else if d = 0 ∨ (0xFFFFFF - 1024 < d ∧ e.w.testBit (0x1000000 - d) = true) then (false, s.countSat c0 16 16 1)
      else if 0xFFFFFF - 1024 < d then
        (true, s.setDd p (some { e with w := e.w ||| 2 ^ (0x1000000 - d), staleRun := false }))
      else
        let s := (s.setDd p (some { e with staleRun := true })).countSat c0 0 16 1
        (false, if e.staleRun then s else s.logNet sw p 0x09 (BitVec.ofNat 64 q))

/-- The discard unit is passed: without EN, or outside duplicate discard, every frame is delivered (R534, R545). -/
def State.ddPass (s : State) (sw : Nat) (h : List Byte) : Bool × State :=
  if hdrNodup h || !s.flag (rk 0x0F0 Reg.NET_DD_CFG) 31 then (true, s) else s.ddDecide sw (hdrPair h) (hdrEpoch h) (hdrSeq h)

/-- DD_ENTRY_AGE: an entry has received no frame for AGE ms (R536). -/
def execDdEntryAge (pair : Fin 4096) (s : State) : Res :=
  .next (if (sget (dflt none) s.net.dd pair.val).isSome then s.setDd pair.val none else s)

/-! ## Receive rings (R537, R539) -/

/-- Ring `i` of a switch runs. -/
def State.ringOn (s : State) (sw i : Nat) : Bool :=
  s.flag (netKey sw Reg.CTRL) 0 && s.flag (netKey sw (0x304 + 0x10 * i)) 31

/-- The next descriptor the DMA takes, and the one after the last handed over. -/
def State.ringHead (s : State) (sw i : Nat) : Nat := s.fld (netKey sw (0x308 + 0x10 * i)) 0 12
def State.ringTail (s : State) (sw i : Nat) : Nat := s.fld (netKey sw (0x30C + 0x10 * i)) 0 12 % s.ringSize sw i

/-- RHEAD goes on by one descriptor. -/
def State.ringNext (s : State) (sw i : Nat) : State :=
  s.setFld (netKey sw (0x308 + 0x10 * i)) 0 12 ((s.ringHead sw i + 1) % s.ringSize sw i)

/-- A ring stops at a descriptor whose OWN is 0 (R537). -/
def State.ringStops (s : State) (sw i : Nat) : State :=
  let x := s.eth sw
  if x.stopRun.contains i then s
  else
    let s := (s.setEth sw { x with stopRun := insertNew x.stopRun i }).setEvt (netKey sw 0x128) 7
    s.logNet sw (i % 8) 0x0D (BitVec.ofNat 64 (i / 8 * 4096 + s.ringHead sw i))

/-- A ring goes on: its run of stops is over. -/
def State.ringGoes (s : State) (sw i : Nat) : State :=
  s.setEth sw { s.eth sw with stopRun := (s.eth sw).stopRun.filter (· != i) }

/-- A receive ring drops a frame (R539). -/
def State.ringDrop (s : State) (sw r : Nat) : State :=
  let x := s.eth sw
  let s := (s.countSat (netKey sw (0x388 + 0x10 * r)) 16 16 1).setEvt (netKey sw 0x128) 2
  if x.dropRun.contains r then s
  else (s.setEth sw { s.eth sw with dropRun := insertNew x.dropRun r }).logNet sw r 0x04

/-- The ring of a frame (R539). -/
def State.ringOf (s : State) (sw : Nat) (b : List Byte) (vid : Nat) : Option Nat :=
  (List.range 8).find? fun r =>
    let k := netKey sw (0x280 + 4 * r)
    s.flag k 31 && (s.fld k 0 16 == 0 || s.fld k 0 16 == frameType b) && (s.fld k 16 12 == 0xFFF || s.fld k 16 12 == vid)

/-- Store bytes in program memory from an offset on; what lies outside program memory is not stored. -/
def State.setPmBytes (s : State) (a : Nat) (l : List Byte) : State :=
  l.zipIdx.foldl (fun s e => if a + e.2 < 0x40000000 then s.setPm (a + e.2) 1 e.1.toNat else s) s

/-- A frame is delivered to receive ring `r`; a stopped ring drops it (R537, R539). -/
def State.deliverEth (s : State) (sw r : Nat) (b : List Byte) (info : W32) (t : Stamps) : State :=
  let i := 8 + r
  if !s.ringOn sw i || s.ringHead sw i == s.ringTail sw i || (s.eth sw).stopRun.contains i then s.ringDrop sw r
  else
    let d := s.descAt sw i (s.ringHead sw i)
    if s.descField d 0x0A 1 < 128 then (s.ringStops sw i).ringDrop sw r
    else
      let room := s.descField d 0x08 2
      let s := s.setPmBytes (s.descField d 0 8 - pmBase) (b.take room)
      let s := (s.setPm (d + 0x08) 2 b.length).setPm (d + 0x0C) 4 info.toNat
      let s := (s.setPm (d + 0x10) 8 t.tsl.toNat).setPm (d + 0x18) 8 t.tso.toNat
      let s := s.completeDesc d (if room < b.length then 0x04 else 0x01)
      let s := ((s.ringNext sw i).ringGoes sw i)
      let s := s.setEth sw { s.eth sw with dropRun := (s.eth sw).dropRun.filter (· != r) }
      s.fireTriggers 4 (BitVec.ofNat 32 (sw * 8 + r)) t.tso

/-- A frame for the host after the checks: classified, and delivered or staged (R539, R540). -/
def State.toRing (s : State) (sw : Nat) (b : List Byte) (info : W32) (t : Stamps) : State :=
  match s.ringOf sw b (fieldOf info 0 12) with
  | none => s
  | some r =>
    if s.mirroring then
      let e : StagedEth := { bytes := b, info := info, stamps := t, ring := r, release := some (s.boundaryAfter 1250) }
      s.setEth sw { s.eth sw with staging := (s.eth sw).staging ++ [e] }
    else s.deliverEth sw r b info t

/-- The non-holder stages a frame without discard (R540). -/
def State.stageEth (s : State) (sw : Nat) (b : List Byte) (info : W32) (t : Stamps) : State :=
  let x := s.eth sw
  if 262144 < (x.staging.map fun e => e.bytes.length).sum + b.length then (s.setEvt (netKey sw 0x128) 6).logNet sw 0xFFF 0x0B
  else s.setEth sw { x with staging := x.staging ++ [{ bytes := b, info := info, stamps := t, ring := 0, release := none }] }

/-- A twin header refused by R531: counted, and logged at the first of a run. -/
def State.badHeader (s : State) (sw : Nat) (h : List Byte) : State :=
  let x := s.eth sw
  let s := (s.countSat (rk 0x0F0 Reg.NET_DD_CNT1) 24 8 1).setEvt (netKey sw 0x128) 3
  if x.headerRun then s
  else (s.setEth sw { s.eth sw with headerRun := true }).logNet sw 0xFFF 0x06 (BitVec.ofNat 64 (leNat (fun i => (h[i]?).getD 0) 0 8))

/-- A PTP frame for the host: stamped where it is an event message of a domain, and delivered to its own ring ahead of everything else (R556,
R561). -/
def State.hostPtp (s : State) (sw m : Nat) (b : List Byte) (info : W32) (t : Stamps) : State :=
  let s := if ptpEvent b m then s.stampPtp false (sw * 2 + fieldOf info 28 2) b m t.tsl else s
  s.deliverEth sw (s.fld Reg.TIME_PTP_RING 0 3) b info t

/-- A pattern frame of Test Strip: EtherType 0x88B6 to the module address, no twin header, message type 0x20 (R637). -/
def State.isPattern (s : State) (sw : Nat) (b : List Byte) : Bool :=
  !isTwin b && frameNat b (typeAt b) 2 == 0x88B6 && frameNat b 0 6 == s.moduleMac sw && bAt b (typeAt b + 2) == 0x20

/-- A frame at the host port (R531, R534, R540, R561); no pattern frame is delivered (R637). -/
def State.hostFrame (s : State) (sw : Nat) (b : List Byte) (info : W32) (t : Stamps) : State :=
  if s.isPattern sw b then s else
  let follower := s.mirroring && !s.holder
  let ptp := if isTwin b then none else ptpAt b (typeAt b)
  if (ptp.any fun m => ptpValid b m) && s.flag Reg.TIME_PTP_RING 31 then s.hostPtp sw (ptp.getD 0) b info t
  else if !isTwin b then
    if follower then s.stageEth sw b info t
    else if s.flag (netKey sw Reg.NET_CFG) 17 then s.toRing sw b info t else s
  else
    let h := twinHeader b
    if !headerOk h then s.badHeader sw h
    else
      let s := s.setEth sw { s.eth sw with headerRun := false }
      let p := hdrPair h
      if p = 0 ∨ p = 4095 then
        ((s.countSat (rk 0x0F0 Reg.NET_DD_CNT1) 16 8 1).setEvt (netKey sw 0x128) 3).logNet sw 0xFFF 0x07 (BitVec.ofNat 64 p)
      else if p = s.ownPair then s
      else if follower then s.stageEth sw b info t
      else
        let r := s.ddPass sw h
        if r.1 then r.2.toRing sw b info t else r.2

/-- A frame leaves an external port of a switch. -/
def State.sendOut (s : State) (sw p : Nat) (b : List Byte) : State :=
  s.setEth sw { s.eth sw with forwarded := (s.eth sw).forwarded ++ [(p, b)] }

/-- A PTP message, at `m` in the frame, forwarded between external ports by a transparent clock (R558, R559). -/
def State.correctPtp (s : State) (sw ingress p m residence : Nat) (b : List Byte) : State :=
  let kind := bAt b m % 16
  let p2p := s.flag Reg.TIME_TC_CFG 30
  if p2p && (kind == 2 || kind == 3 || kind == 10) then s
  else if !ptpEvent b m || (p2p && kind != 0) then s.sendOut sw p b
  else if 10000000 < residence then
    let s := (s.countSat Reg.TIME_TC_CNT1 16 16 1).setEvt Reg.TIME_TIME_EVT 9
    s.logTime (sw * 2 + ingress) 0x0D (BitVec.ofNat 64 residence)
  else
    let k := Reg.TIME_PORT_LDLYk + 4 * (sw * 2 + ingress)
    let link := if p2p && s.flag k 31 then s.fld k 0 31 else 0
    (s.countMod Reg.TIME_TC_CNT0 0 32 1).sendOut sw p (addCorrection b m (typeAt b) ((residence + link) * 65536))

/-- A frame for an external port: a PTP message is corrected where the switches are transparent clocks (R557, R558). -/
def State.sendExternal (s : State) (sw ingress p residence : Nat) (b : List Byte) : State :=
  match if isTwin b then none else ptpAt b (typeAt b) with
  | some m => if ptpValid b m && s.flag Reg.TIME_TC_CFG 31 && decide (ingress < 2) then s.correctPtp sw ingress p m residence b else s.sendOut sw p b
  | none => s.sendOut sw p b

/-- A frame for egress port `p`: one that does not fit its queue is dropped (R527); the host port takes it in. -/
def State.sendTo (s : State) (sw v ingress vid pcp : Nat) (b : List Byte) (t : Stamps) (qfull : BitVec 3) (residence p : Nat) : State :=
  let out := egressBytes b vid pcp (s.untags sw v p)
  if qfull.getLsbD p then s.countSat (netKey sw (0x11C + 4 * p)) 16 16 1
  else if p ≠ 2 then s.sendExternal sw ingress p residence out
  else if s.hostAccepts sw (frameNat b 0 6) then s.hostFrame sw out (BitVec.ofNat 32 (ingress * 2 ^ 28 + vid)) t
  else s

/-- A frame that passed the length and FCS checks is learnt and forwarded (R526). DEDUCED: log entry 62. -/
def State.forward (s : State) (sw ingress : Nat) (b : List Byte) (t : Stamps) (qfull : BitVec 3) (residence : Nat) : State :=
  let k := netKey sw (0x104 + 4 * ingress)
  let vid := frameVid b (s.fld k 0 12)
  let pcp := framePcp b (s.fld k 12 3)
  match s.vlanOf sw vid with
  | none => s.countSat (netKey sw (0x11C + 4 * ingress)) 0 16 1
  | some v =>
    if !s.isMember sw v ingress then s.countSat (netKey sw (0x11C + 4 * ingress)) 0 16 1
    else
      let s := s.learn sw ingress (frameNat b 6 6)
      (s.egress sw v ingress (frameNat b 0 6)).foldl (fun s p => s.sendTo sw v ingress vid pcp b t qfull residence p) s

/-- A switch runs: its port is open and it is enabled (R82, R116). -/
def State.ethOn (s : State) (sw : Nat) : Bool := !s.isolated (netPage sw) && s.flag (netKey sw Reg.CTRL) 0

/-- A peer-delay message of the link-delay engine: its header, and `body` after it (R560). PRESUMED: log entry 144. -/
def pdelayMessage (sdo kind dom correction id seq : Nat) (body : List Byte) : List Byte :=
  beBytes (sdo * 16 + kind) 1 ++ [2] ++ beBytes 54 2 ++ beBytes dom 1 ++ beBytes 0 3 ++ beBytes correction 8 ++ beBytes 0 4 ++ beBytes id 10
    ++ beBytes seq 2 ++ [5, 0x7F] ++ body

/-- The module's own portIdentity at port `p` of a switch (R560). -/
def State.portId (s : State) (sw p : Nat) : Nat := (Config.portIdentity (s.moduleMac sw) p).toNat

/-- The Ethernet header of a peer-delay message (R560). PRESUMED: log entry 144. -/
def State.pdelayHead (s : State) (sw : Nat) : List Byte := beBytes 0x0180C200000E 6 ++ beBytes (s.moduleMac sw) 6 ++ beBytes 0x88F7 2

/-- A Pdelay_Req is answered by a one-step Pdelay_Resp with the turnaround time, in ns, in its correctionField (R560). PRESUMED: log entry 144. -/
def State.answerPdelay (s : State) (sw p turnaround : Nat) (b : List Byte) (m : Nat) : State :=
  let head := if frameNat b (typeAt b) 2 = 0x88F7 then s.pdelayHead sw else Config.udpHead (s.moduleMac sw) (b.take m)
  let body := beBytes 0 10 ++ (b.drop (m + 20)).take 10
  s.sendOut sw p (head ++ pdelayMessage (bAt b m / 16) 3 (bAt b (m + 4)) (turnaround * 65536) (s.portId sw p) (frameNat b (m + 30) 2) body)

/-- The Pdelay_Req of a port (R560). PRESUMED: log entry 144. -/
def State.sendPdelay (s : State) (sw p seq : Nat) : State :=
  s.sendOut sw p (s.pdelayHead sw ++ pdelayMessage 0 2 0 0 (s.portId sw p) seq (beBytes 0 20))

/-- PTP at an external port: invalid messages are counted, and the link-delay engine answers a Pdelay_Req and takes a Pdelay_Resp; of a request
`residence` is the turnaround time (R557, R560). -/
def State.portPtp (s : State) (sw p residence : Nat) (b : List Byte) (t : Stamps) : State :=
  match if isTwin b then none else ptpAt b (typeAt b) with
  | none => s
  | some m =>
    if !ptpValid b m then s.countSat Reg.TIME_TC_CNT1 0 16 1
    else if !s.flag Reg.TIME_TC_CFG 30 then s
    else match bAt b m % 16 with
      | 2 => s.answerPdelay sw p residence b m
      | 3 => s.pdelayResponse (sw * 2 + p) b m t.tsl
      | _ => s

/-- ETH_FRAME_RECEIVE: a frame has been received at an external port; `qfull` names the egress ports whose queue has no room for it, and
`residence` is a PTP message's residence time in ns (R526 to R528, R557 to R560). DESIGN CHOICE: log entry 61. -/
def execEthFrameReceive (sw : Fin 2) (port : Fin 2) (bytes : List Byte) (fcsOk : Bool) (qfull : BitVec 3) (residence : W32) (stamps : Stamps)
    (s : State) : Res :=
  .next <|
    let n := sw.val
    let p := port.val
    let k := netKey n (0x104 + 4 * p)
    let len := bytes.length + 4
    let s := s.setEth n { s.eth n with forwarded := [] }
    if !s.ethOn n || !s.flag k 31 || !s.flag k 25 then s
    else if len < 64 ∨ 1532 < len then
      let x := s.eth n
      let s := (s.countSat (netKey n (0x114 + 4 * p)) 0 16 1).setEvt (netKey n 0x128) 1
      if len < 64 then s.setEth n { s.eth n with overRun := x.overRun.filter (· != p) }
      else if x.overRun.contains p then s
      else (s.setEth n { s.eth n with overRun := insertNew x.overRun p }).logNet n p 0x03 (BitVec.ofNat 64 len)
    else
      let s := s.setEth n { s.eth n with overRun := (s.eth n).overRun.filter (· != p) }
      if !fcsOk then s.countSat (netKey n (0x114 + 4 * p)) 16 16 1
      else if frameNat bytes (typeAt bytes) 2 = 0x8808 then s
      else (s.portPtp n p residence.toNat bytes stamps).forward n p bytes stamps qfull residence.toNat

/-- ETH_LINK_CHANGE: the link state of a port has held 10 ms; SPEED 0 is no link, which alone a port that is not enabled has (R525). -/
def execEthLinkChange (sw : Fin 2) (port : Fin 2) (speed : BitVec 2) (s : State) : Res :=
  .next <|
    let n := sw.val
    let k := netKey n (0x104 + 4 * port.val)
    let on := s.ethOn n && s.flag k 31
    if s.isolated (netPage n) || (!on && decide (speed ≠ 0)) then s
    else
      let up := decide (speed ≠ 0)
      let was := s.flag k 25
      let s := (s.setFld k 26 2 speed.toNat).setFlag k 25 up
      if up = was then s
      else
        let s := s.setEvt (netKey n 0x128) 0
        if up then s.logNet n port.val 0x01 (BitVec.ofNat 64 speed.toNat) else s.logNet n port.val 0x02

/-- MAC_AGE_OUT: a learnt address without frames for 300 s (R526). -/
def execMacAgeOut (sw : Fin 2) (address : BitVec 48) (s : State) : Res :=
  .next <|
    let x := s.eth sw.val
    s.setEth sw.val { x with table := sset (dflt none) x.table address.toNat none }

/-! ## The release of received frames in a pair (R540) -/

/-- A staged frame whose release boundary has come. -/
def State.ethDue (s : State) (e : StagedEth) : Bool :=
  match e.release with
  | some g => notAfter g s.lfi
  | none => false

/-- ETH_RECEIVE_RELEASE: a receive descriptor is completed at the release boundary (R540). -/
def execEthReceiveRelease (sw : Fin 2) (s : State) : Res :=
  .next <|
    let x := s.eth sw.val
    match x.staging.find? s.ethDue with
    | none => s
    | some e => (s.setEth sw.val { x with staging := x.staging.erase e }).deliverEth sw.val e.ring e.bytes e.info e.stamps

/-- ETH_STAGING_DISCARD: a frame that was staged on the non-holder and that no receipt has claimed within 1 ms (R540). -/
def execEthStagingDiscard (sw : Fin 2) (s : State) : Res :=
  .next <|
    let x := s.eth sw.val
    match x.staging.find? fun e => e.release.isNone with
      | none => s
      | some e => s.setEth sw.val { x with staging := x.staging.erase e }

/-- The frame with the holder's header bytes (R540). -/
def withHeader (b h : List Byte) : List Byte := if isTwin b && h.length == 10 then patch b (typeAt b + 2) h else b

/-- A receipt names a staged frame of this switch: its ring, release, header, INFO and stamps are the holder's; the discard table follows the
receipt (R540). -/
def State.claimEth (s : State) (sw : Nat) (r : Receipt) : Option State :=
  let x := s.eth sw
  (x.staging.find? fun e => e.release.isNone && crc64 (withoutHeader e.bytes) == r.crc).map fun e =>
    let s := s.setEth sw { x with staging := x.staging.map fun y =>
      if y = e then { bytes := withHeader y.bytes r.header, info := r.info, stamps := r.stamps, ring := r.dest, release := some r.release } else y }
    if r.header.length = 10 then (s.ddPass sw r.header).2 else s

/-! ## Transmit rings (R532, R537, R538, R541) -/

/-- Bytes of frames that one switch holds for the verdict. -/
def State.heldBy (s : State) (sw : Nat) : Nat := ((s.eth sw).taken.map (·.len)).sum

/-- The DMA takes one transmit descriptor (R532, R537, R538, R541). -/
def State.takeDesc (s : State) (sw r : Nat) : State :=
  let at_ := s.descAt sw r (s.ringHead sw r)
  let len := s.descField at_ 0x08 2
  let ctl := s.descField at_ 0x0A 1
  let s := (s.ringNext sw r).ringGoes sw r
  let frame := (List.range len).map fun i => s.pmByte (s.descField at_ 0 8 - pmBase + i)
  if 1522 < len then (s.completeDesc at_ 0x03).logNet sw r 0x05 (BitVec.ofNat 64 len)
  else if s.silent || (ctl.testBit 6 && (s.ownPair == 0 || s.epochWait)) then s.completeDesc at_ 0x02
  else
    let s := if ctl.testBit 4 then s else s.hashFrame frame
    if s.pair.verdict && decide (131072 < s.heldBy sw + len) then
      (s.completeDesc at_ 0x02).countSat Reg.CLAIM_NETHOLD 16 16 1
    else
      (s.setEth sw { s.eth sw with taken := (s.eth sw).taken ++ [{ ring := r, place := at_, len := len }] }).holdPeak

/-- The DMA takes the descriptors handed over, up to `n` of them (R537). -/
def State.takeDescs (s : State) (sw r : Nat) : Nat → State
  | 0 => s
  | n + 1 =>
    if !s.ethOn sw || !s.ringOn sw r || s.ringHead sw r == s.ringTail sw r then s
    else if s.descField (s.descAt sw r (s.ringHead sw r)) 0x0A 1 < 128 then s.ringStops sw r
    else (s.takeDesc sw r).takeDescs sw r n

/-- After a write to the registers of transmit ring `i` the DMA takes what has been handed over, unless the ring is stopped (R537). -/
def State.ringKick (s : State) (sw i : Nat) : State :=
  if i < 8 ∧ (s.eth sw).stopRun.contains i = false then s.takeDescs sw i (s.ringSize sw i) else s

/-- A stopped ring goes on where a write of RTAIL finds OWN at 1 (R537). -/
def State.ringResume (s : State) (sw i : Nat) : State :=
  if s.ringHead sw i ≠ s.ringTail sw i ∧ 128 ≤ s.descField (s.descAt sw i (s.ringHead sw i)) 0x0A 1 then s.ringGoes sw i else s

/-- What RCTL stores of a written value (R544). -/
def rctlStored (i : Nat) (v : W32) : W32 :=
  let l := fieldOf v 0 4
  let v := if l < 4 then withField v 0 4 4 else if 12 < l then withField v 0 4 12 else v
  if 8 ≤ i then withField v 16 3 0 else v

/-- The effect of a write of RTAIL of ring `i` (R537). -/
def State.writeRtail (s : State) (w : Writer) (sw i : Nat) (v : W32) : State :=
  ((s.fieldWrite w (netPage sw) (0x30C + 0x10 * i) v v).ringResume sw i).ringKick sw i

/-- RING_TAIL_WRITE: rings 0 to 7 are transmit rings, 8 to 15 receive rings (R537). -/
def execRingTailWrite (w : Writer) (sw : Fin 2) (ring : Fin 16) (value : W32) (s : State) : Res :=
  .next (s.access w (netPage sw.val) (0x30C + 0x10 * ring.val) value fun s => s.writeRtail w sw.val ring.val value)

/-- The host port's VLAN takes a transmitted frame (R526, R538): the frame is untagged or tagged as posted. -/
def State.hostVlanOk (s : State) (sw : Nat) (b : List Byte) : Bool :=
  match s.vlanOf sw (frameVid b 1) with
  | some v => s.isMember sw v 2
  | none => false

/-- A PTP event message that the runtime has sent is stamped; the port is the first through which it left (R556, R561). -/
def State.stampSent (s : State) (sw ctl : Nat) (d : TakenDesc) (ltb : W64) : State :=
  let b := (List.range d.len).map fun i => s.pmByte (s.descField d.place 0 8 - pmBase + i)
  match ptpAt b (typeAt b) with
  | some m =>
    if ptpValid b m && ptpEvent b m && !ctl.testBit 6 then
      let v := (s.vlanOf sw (frameVid b 1)).getD 64
      let p := ((s.egress sw v 2 (frameNat b 0 6)).head?).getD 0
      s.stampPtp true (sw * 2 + p) b m ltb
    else s
  | none => s

/-- The DMA writes the module address over the source address (R529). -/
def State.withSource (s : State) (sw : Nat) (b : List Byte) : List Byte := b.take 6 ++ beBytes (s.moduleMac sw) 6 ++ b.drop 12

/-- The twin header that switch `sw` inserts: SEQ and NODUP of the descriptor, INNER the frame's EtherType (R530, R532). -/
def State.newHeader (s : State) (sw seq : Nat) (nodup : Bool) (inner : List Byte) : List Byte :=
  let head := beBytes (0x1000 + s.ownPair) 2 ++ [BitVec.ofNat 8 (s.fld (rk 0x0F0 Reg.NET_TW_EPOCH) 0 8)] ++ beBytes seq 3
    ++ [BitVec.ofNat 8 (s.side * 64 + nodup.toNat * 32 + sw * 16)] ++ inner
  head ++ [crc8 head]

/-- The frame of a descriptor as switch `sw` sends it, padded to 60 bytes (R529, R532, R537). DEDUCED: log entry 140. -/
def State.sentFrame (s : State) (sw : Nat) (d : TakenDesc) : List Byte :=
  let ctl := s.descField d.place 0x0A 1
  let b := s.withSource sw ((List.range d.len).map fun i => s.pmByte (s.descField d.place 0 8 - pmBase + i))
  let a := typeAt b
  let b := if ctl.testBit 6 then
      b.take a ++ beBytes 0x88B5 2 ++ s.newHeader sw (s.descField d.place 0x0C 3) (ctl.testBit 4) ((b.drop a).take 2) ++ b.drop (a + 2)
    else b
  b ++ List.replicate (60 - b.length) 0

/-- The switch can send a frame: it is not stopping, or this is the frame that it still completes (R82, R116). -/
def State.mayFinish (s : State) (n : Nat) : Bool := !s.isolated (netPage n) || s.pwr.onWire.contains (8 + n)

/-- A frame of the host leaves a switch by the external ports of its VLAN, as if received at the host port (R526, R538, R542). -/
def State.hostSend (s : State) (sw vid : Nat) (b : List Byte) : State :=
  if !s.mayFinish sw || !s.flag (netKey sw Reg.CTRL) 0 then s
  else match s.vlanOf sw vid with
    | none => s.countSat (netKey sw 0x124) 0 16 1
    | some v =>
      if !s.isMember sw v 2 then s.countSat (netKey sw 0x124) 0 16 1
      else
        let s := s.learn sw 2 (s.moduleMac sw)
        ((s.egress sw v 2 (frameNat b 0 6)).filter (· != 2)).foldl (fun s p =>
          s.sendOut sw p (egressBytes b vid (framePcp b 0) (s.untags sw v p))) s

/-- No frame has left either switch since the command began. -/
def State.noneSent (s : State) : State := [0, 1].foldl (fun (s : State) sw => s.setEth sw { s.eth sw with forwarded := [] }) s

/-- The frame of a taken descriptor leaves: through the other switch too with BOTH, unless that switch is not ON (R538). -/
def State.sendDesc (s : State) (n ring : Nat) (d : TakenDesc) : State :=
  let both := (s.descField d.place 0x0A 1).testBit 5
  let b := s.sentFrame n d
  let s := s.noneSent.hostSend n (frameVid b 1) b
  if !both then s
  else if s.domState (8 + (1 - n)) ≠ 2 then s.logNet n ring 0x0C
  else s.hostSend (1 - n) (frameVid b 1) (s.sentFrame (1 - n) d)

/-- ETH_TRANSMIT_COMPLETE: the copies of the oldest taken descriptor of a transmit ring have left; a silent module sends none (R538, R541). -/
def execEthTransmitComplete (sw : Fin 2) (ring : Fin 8) (stamps : Stamps) (s : State) : Res :=
  .next <|
    let n := sw.val
    let x := s.eth n
    if s.pair.verdict || !s.mayFinish n then s
    else match x.taken.find? fun d => d.ring == ring.val with
      | none => s
      | some d =>
        let s := s.setEth n { x with taken := x.taken.erase d }
        let b := (List.range 18).map fun i => s.pmByte (s.descField d.place 0 8 - pmBase + i)
        if s.silent then (s.completeDesc d.place 0x02).wireEnds (8 + n)
        else if !s.hostVlanOk n b then ((s.countSat (netKey n 0x124) 0 16 1).completeDesc d.place 0x02).wireEnds (8 + n)
        else
          let s := s.sendDesc n ring.val d
          let s := (s.setPm (d.place + 0x10) 8 stamps.tsl.toNat).setPm (d.place + 0x18) 8 stamps.tso.toNat
          let s := s.stampSent n (s.descField d.place 0x0A 1) d stamps.tsl
          (s.completeDesc d.place 0x01).wireEnds (8 + n)

/-- Held descriptors are dropped (R541). -/
def State.dropHeldEth (s : State) : State :=
  [0, 1].foldl (fun s sw =>
    let l := (s.eth sw).taken
    (l.foldl (fun s d => s.completeDesc d.place 0x02) s).setEth sw { s.eth sw with taken := [] }) s

/-- NETn.CTRL.EN rises or falls: the rings take what waits (R537). -/
def State.netEnable (p : Nat) (on : Bool) (s : State) : State :=
  if on then (List.range 16).foldl (fun s i => s.ringKick (p - 0x0F0) i) s else s

end Sys2Proof.Machine
end

