-- ==== Sys2Proof/Machine/Twin.lean ====
section
/-! DEFINITION. The twin link's lanes and heartbeats, the loss of the peer, the verdict, switch-over, withdrawal and moved groups (spec/17,
R454 to R474, R477 to R480). What a module sends on the twin link is an output that only its peer sees. -/

namespace Sys2Proof.Machine

/-! ## Lanes (R455, R456) -/

/-- The twin link is enabled and its domain is ON. -/
def State.twinOn (s : State) : Bool := s.domState 18 == 2 && s.flag (rk 0x0D0 Reg.CTRL) 0

/-- A lane is up, in training or has block lock: bit 3, 2 or 1 of its part of LANE_STAT (R478). -/
def State.setLaneBit (s : State) (lane bit : Nat) (on : Bool) : State := s.setFlag Reg.TWIN_LANE_STAT (4 * lane + bit) on

/-- A lane goes down; with block lock it trains anew (R455, R480). DEDUCED: log entry 63. -/
def State.dropLane (s : State) (lane : Nat) : State :=
  if s.laneUp lane then
    let s := (s.setLaneBit lane 3 false).setLaneBit lane 2 (s.flag Reg.TWIN_LANE_STAT (4 * lane + 1))
    let s := s.countSat Reg.TWIN_HB_MISS (16 * lane) 16 3
    (s.setEvt Reg.TWIN_TWIN_EVT 1).logTwin 0x02 (BitVec.ofNat 64 lane)
  else s

/-- TWIN_LANE_DOWN: no valid heartbeat on a lane for 6 µs. With the other lane up it is a lane fault (R455, R456, R477). -/
def execTwinLaneDown (lane : Fin 2) (s : State) : Res :=
  .next <|
    if s.laneUp lane.val then
      let s := s.dropLane lane.val
      if !s.laneUp (1 - lane.val) then s else if s.twinSync then s.endTwinSync 1 else s.restartAlign
    else s

/-- TWIN_LANE_UP: training and 1 ms of valid heartbeats; `rtt` is the round-trip delay that training measured, in ns (R455, R478). -/
def execTwinLaneUp (lane : Fin 2) (rtt : BitVec 16) (s : State) : Res :=
  .next <|
    let n := lane.val
    if !s.twinOn || s.laneUp n then s
    else
      let s := (s.setLaneBit n 3 true).setLaneBit n 2 false
      let s := if n = 0 then s.setFld Reg.TWIN_LANE_STAT 16 16 rtt.toNat else s
      (s.setEvt Reg.TWIN_TWIN_EVT 0).logTwin 0x01 (BitVec.ofNat 64 n)

/-- BLOCK_LOCK_CHANGE: a lane that locks and is down starts to train (R455). -/
def execBlockLockChange (lane : Fin 2) (locked : Bool) (s : State) : Res :=
  .next <|
    if s.twinOn then (s.setLaneBit lane.val 1 locked).setLaneBit lane.val 2 (locked && !s.laneUp lane.val) else s

/-- TWIN_CELL_DISCARDED: a discarded cell is counted; a mirror or control cell is sent again on the other lane, or twin sync ends (R455). -/
def execTwinCellDiscarded (lane : Fin 2) (fault : CellFault) (mirrorOrControl : Bool) (s : State) : Res :=
  .next <|
    if !s.twinOn then s
    else
      let k := Reg.TWIN_LANE_CNTk + 4 * lane.val
      let s := match fault with
        | .partially | .oversize => s.countSat k 0 16 1
        | _ => s.countSat k 16 16 1
      if mirrorOrControl && !s.laneUp (1 - lane.val) then s.endTwinSync 1 else s

/-! ## Heartbeats (R126, R456, R458) -/

/-- HEARTBEAT_SEND: a heartbeat leaves on each lane (R456). DEDUCED: log entry 64. -/
def execHeartbeatSend (s : State) : Res :=
  .next (if s.twinOn then { s with pair := { s.pair with hbSend := s.pair.hbSend + 1 } } else s)

/-- The lane sequence last received on a lane. -/
def State.hbSeq (s : State) (lane : Nat) : Option Byte := if lane = 0 then s.pair.hbSeq0 else s.pair.hbSeq1

/-- A heartbeat's lane sequence has come. -/
def State.setHbSeq (s : State) (lane : Nat) (q : Byte) : State :=
  { s with pair := if lane = 0 then { s.pair with hbSeq0 := some q } else { s.pair with hbSeq1 := some q } }

/-- The peer's phase and half the round-trip delay, as CLK_FAB phase of this module, against the own one: the offset in ns, wrapped to half a
frame (R458). -/
def State.frameOffset (s : State) (phase : Nat) : Int :=
  let d : Int := s.lfiCyc * 4 - (phase * 4 + s.fld Reg.TWIN_LANE_STAT 16 16 / 2 : Nat)
  if 31250 < d then d - 62500 else if d < -31250 then d + 62500 else d

/-- The non-holder compares the holder's phase with its own (R458, R478). -/
def State.follow (s : State) (h : Heartbeat) : State :=
  if h.claim.toNat / 2 ^ 14 = 3 ∧ s.holder = false then
    let d := s.frameOffset h.phase.toNat
    let s := s.setFld Reg.TWIN_SYNC 0 16 (BitVec.ofInt 16 d).toNat
    { s with pair := { s.pair with stretch := if 8 < d then 1 else if d < -8 then 2 else 0 } }
  else s

/-- The ACTIVE module has twin sync while its peer is STANDBY-READY and both lanes are up; where twin sync has ended, once the peer has joined
anew (R248, R452). -/
def State.holderSync (s : State) : State :=
  if s.role = 2 ∧ s.holder = true then
    let r := s.fld Reg.CLAIM_PEER 14 2
    let s := if r < 2 then { s with pair := { s.pair with lockLost := false } } else s
    if r = 2 ∧ s.laneUp 0 = true ∧ s.laneUp 1 = true ∧ s.twinSync = false ∧ s.pair.lockLost = false then
      (s.setFlag Reg.TWIN_SYNC 27 true).setStep 8
    else if r < 2 ∧ s.twinSync = true then
      (({ s with pair := { s.pair with sched := none } }).setFlag Reg.TWIN_SYNC 27 false).setStep 0
    else s
  else s

/-- A peer of the other order code: the module in ROLE_WAIT stays OFF-LINE (R18, R126, R456). -/
def State.orderCheck (s : State) (same : Bool) : State :=
  if same || s.pair.otherOrder || s.fld Reg.SYS_BOOT_STAT 28 4 != 3 then s
  else (({ s with pair := { s.pair with otherOrder := true } }).setRole 5).logTwin 0x08

/-- A valid heartbeat shows the peer (R456, R479). -/
def State.showPeer (s : State) (h : Heartbeat) : State :=
  let s := (s.setFlag Reg.CLAIM_PEER 16 true).setFld Reg.CLAIM_PEER 0 16 h.claim.toNat
  let s := { s with pair := { s.pair with peerRole := h.role.toNat, peerFrame := h.frame, peerPhase := h.phase.toNat } }
  ((s.orderCheck h.sameOrder).follow h).holderSync

/-- TWIN_HEARTBEAT: a heartbeat is received on a lane; it is valid where its lane sequence rises by 1 (R455, R456). -/
def execTwinHeartbeat (lane : Fin 2) (hb : Heartbeat) (s : State) : Res :=
  .next <|
    let n := lane.val
    if !s.twinOn then s
    else
      let valid := match s.hbSeq n with
        | some q => hb.seq == q + 1
        | none => true
      let missed := match s.hbSeq n with
        | some q => (hb.seq - q - 1).toNat
        | none => 0
      let s := s.setHbSeq n hb.seq
      let s := if s.laneUp n then s.countSat Reg.TWIN_HB_MISS (16 * n) 16 missed else s
      if valid then s.showPeer hb else s

/-! ## The loss of the peer (R456, R465 to R467, R471, R477) -/

/-- A STANDBY-READY module takes over: ACTIVE at once, the claim from the next period (R466). -/
def State.takeOver (s : State) : State :=
  let s := s.beforeHold
  let s := (s.setRole 2).setStep 0
  { s with pair := { s.pair with
    ready := false, verdict := true, lostAt := s.time.ltb, verdictDue := s.fld Reg.CLAIM_PEER 18 2 == 0, nextRole := some 3 } }

/-- The phase is one from which a lost peer restarts start-up: not STOP and not SHUTDOWN, nor a boot phase (R129, R466). -/
def State.restartable (s : State) : Bool :=
  (s.role == 4 || s.role == 5 || s.role == 6) && (s.fld Reg.SYS_BOOT_STAT 28 4 == 4 || s.fld Reg.SYS_BOOT_STAT 28 4 == 5
    || s.fld Reg.SYS_BOOT_STAT 28 4 == 3) && !s.carrier.mismatch && !s.pair.withdrawn && !s.proof.offLine

/-- PEER_LOST: no valid heartbeat on either lane for 6 µs; lanes still up are down (R456, R466, R477, R480). DEDUCED: log entry 63. -/
def execPeerLost (s : State) : Res :=
  .next <|
    if !s.flag Reg.CLAIM_PEER 16 then s
    else
      let ready := s.role == 3 && s.pair.ready
      let s := (s.dropLane 0).dropLane 1
      let s := s.setFlag Reg.CLAIM_PEER 16 false
      let s := (s.setEvt Reg.TWIN_TWIN_EVT 2).logTwin 0x03 (BitVec.ofNat 64 (s.fld Reg.CLAIM_PEER 0 16))
      let s := s.setFlag Reg.TWIN_SYNC 27 false
      let s := { s with pair := { s.pair with sched := none, marking := false, hbSeq0 := none, hbSeq1 := none } }
      if ready then s.takeOver
      else if s.restartable then s.restartFromInit
      else s.setStep 0

/-- Held network frames are released (R467, R517, R541). -/
def State.releaseHeld (s : State) : State :=
  let n := s.heldBytes
  let s := { s with pair := { s.pair with verdict := false } }
  s.replayCan.logClaim 0x08 (BitVec.ofNat 64 n)

/-- Split brain: the module that took the claim goes to OFF-LINE-WAIT at once, its held frames discarded (R471, R472). -/
def State.splitBrain (s : State) : State :=
  let n := s.heldBytes
  let s := s.dropHeldCan.dropHeldEth
  let s := { s with pair := { s.pair with verdict := false, nextRole := none, sched := none } }
  let s := (s.setClaimRole 0).setRole 6
  let s := (s.stopRunning.setEvt Reg.CLAIM_CLAIM_EVT 2).unmoveAll
  let s := { s with pair := { s.pair with split := true } }
  (s.logClaim 0x05).logClaim 0x09 (BitVec.ofNat 64 n)

/-- CLAIM_LINE_VERDICT: after a takeover the claim line is dead, or a valid period that began after the loss has completed (R471). -/
def execClaimLineVerdict (s : State) : Res :=
  .next <|
    if !s.pair.verdict || !s.pair.verdictDue then s
    else if s.fld Reg.CLAIM_PEER 18 2 = 1 then s.splitBrain
    else s.releaseHeld

/-- OFF_LINE_WAIT_EXIT: the module re-integrates, in ADMIT with KIND re-integration, or starts up again (R121, R128, R472). -/
def execOffLineWaitExit (s : State) : Res :=
  .next <|
    if s.role ≠ 6 then s
    else if s.laneUp 0 || s.laneUp 1 then (s.setFld Reg.SYS_BOOT_STAT 26 6 0x13).startJoin
    else if s.fld Reg.CLAIM_PEER 18 2 = 0 then s.restartFromInit
    else s

/-! ## Switch-over and withdrawal (R468 to R470, R477, R479) -/

/-- The effect of a write of CLAIM.SWITCH (R469, R479). -/
def State.writeSwitch (s : State) (v : W32) : State :=
  if v.getLsbD 0 then (if keyed v 0x5357 then s.planSwitch else s.logClaim 0x0C) else s

/-- SWITCH_REQUEST (R469). -/
def execSwitchRequest (w : Writer) (value : W32) (s : State) : Res :=
  .next (s.command w Reg.CLAIM_SWITCH value fun s => s.writeSwitch value)

/-- AUTO_SWITCHOVER: the peer's score has exceeded the own one by MARGIN for 1 s (R469). -/
def execAutoSwitchover (s : State) : Res :=
  .next <|
    if s.outscored && s.since s.proof.margin (secTicks 1) then s.planSwitch else s

/-- A planned switch-over has been given or taken: counted (R479). -/
def State.countSwitch (s : State) : State :=
  (s.countSat Reg.CLAIM_COUNT 0 16 1).setEvt Reg.CLAIM_CLAIM_EVT 1

/-- A module that is no longer ACTIVE re-integrates from SYNCING: in its next burst it drops to claim role 1 (R247, R451, R452). -/
def State.rejoin (s : State) : State := (s.setFlag Reg.TWIN_SYNC 27 false).startJoin

/-- SWITCHOVER_EFFECT: the first field period at or after the chosen boundary. A module that has given the claim for STATION_FAULT re-integrates
(R133, R247, R468, R480). -/
def execSwitchoverEffect (s : State) : Res :=
  .next <|
    match s.pair.sched with
    | none => s
    | some (g, kind) =>
      if !notAfter g s.lfi then s
      else
        let s := { s with pair := { s.pair with sched := none } }
        match kind with
        | .given =>
          let s := ((s.setClaimRole 2).setRole 3).unmoveAll
          let s := { s with
            pair := { s.pair with ready := true }
            boot := { s.boot with shut := if s.boot.shut == ShutStep.switching then ShutStep.stopping else s.boot.shut } }
          s.countSwitch.logClaim 0x02 g
        | .faulted => ((((s.setClaimRole 2).setRole 3).unmoveAll).countSwitch.logClaim 0x02 g).rejoin
        | .taken =>
          let s := ((s.beforeHold.setClaimRole 3).setRole 2)
          ({ s with pair := { s.pair with ready := false } }).countSwitch.logClaim 0x03 g

/-- WITHDRAWAL: the next field period whose relay cell has not been composed (R40, R470). -/
def execWithdrawal (s : State) : Res :=
  .next <|
    if !s.pair.withdraw then s
    else
      let s := { s with pair := { s.pair with withdraw := false, withdrawn := true, sched := none, ready := false } }
      let s := ((s.setClaimRole 0).setRole 5).stopRunning
      ((s.setFlag Reg.TWIN_SYNC 27 false).setStep 0).unmoveAll.logClaim 0x04

/-- GROUP_RETURN: the holder's reports of a moved group have been admitted again for 1 s (R474). -/
def execGroupReturn (group : Fin 57) (s : State) : Res :=
  .next <|
    let p := grpPage group.val
    if s.pair.moved.contains p && s.holder && (s.grp group.val).link.rxOk then (s.unmoveGroup p).logEvt 0x0D1 p 0x0B 0 else s

end Sys2Proof.Machine
end

