-- ==== Sys2Proof/Machine/Join.lean ====
section
/-! DEFINITION. What the twin link's cells bring (R304, R460, R461, R475) and re-integration (R459, R475 to R478). -/

namespace Sys2Proof.Machine

/-! ## Relay cells (R461) -/

/-- RELAY_CELL_RECEIVE: bursts of the peer for slot 1 of the running period or of the next; each as its bytes 1 to 47 (R461). -/
def execRelayCellReceive (next : Bool) (bursts : List (Fin 57 × List Byte)) (s : State) : Res :=
  .next <|
    if !s.relays then s
    else bursts.foldl (fun s e =>
      let k := e.1.val
      let b := 0xBC#8 :: e.2.take 47
      if next then { s with pair := { s.pair with relayNext := sset (dflt none) s.pair.relayNext k (some b) } }
      else if s.linkOn k then s.onLink k fun l => { l with relay := some b } else s) s

/-! ## Mirror cells (R460, R474) -/

/-- The latest time stamp among words of a group's region (R351). -/
def latestStamp (words : List (Nat × TWord)) : Nat :=
  words.foldl (fun t e => if e.1 < 32 ∧ e.1 % 2 = 1 then max t e.2.data.toNat else t) 0

/-- A region of the input image from the peer: the non-holder takes the holder's, the holder a moved group's; snapshots take before what it
replaces (R411, R414, R460). -/
def State.mirrorRegion (s : State) (k : Nat) (words : List (Nat × TWord)) : State :=
  let takes := (s.follower && !s.pair.moved.contains (grpPage k)) || (s.holder && s.pair.fromPeer.contains (grpPage k))
  if s.domState 6 == 2 && takes then
    (s.snapBefore k (BitVec.ofNat 64 (latestStamp words))).putImage k (words.filter fun e => decide (e.1 < 64))
  else s

/-- An entry of an EVENT task's queue that the holder has queued (R233). -/
def State.mirrorTrigger (s : State) (t kind : Nat) (id : W32) (ots release : W64) : State :=
  let x := s.task t
  if x.stopped || decide ((s.desc t).qdepth ≤ x.queue.length) then s
  else s.setTask t { x with queue := x.queue ++ [{ kind := kind, id := id, ots := ots, frame := release.toNat }] }

/-- The holder has skipped a release without abort, for a late overrun: the peer counts it and skips the same release (R246, R248).
DEDUCED: log entry 23. -/
def State.mirrorSkip (s : State) (t : Nat) (release : W64) : State :=
  let x := s.task t
  let x := { x with skipped := true, ovrTotal := x.ovrTotal + 1, ovrConsec := min (x.ovrConsec + 1) 0xFF }
  if x.lateAt == some release then s.setTask t { x with lateAt := none }
  else if x.active && x.relFrame == release && !x.started then
    s.setTask t { x with active := false, queue := x.trig.toList ++ x.queue, trig := none }
  else s.setTask t x

/-- What a mirror cell brings takes effect on the non-holder (R460). -/
def State.takeMirror (s : State) (m : MirrorMsg) : State :=
  match m with
  | .region g words => s.mirrorRegion g.val words
  | .bufferWords frame ltb =>
    if s.follower && s.domState 6 == 2 then
      let b := s.frameBuffer frame
      (s.setTpmData b frame 0).setTpmData (b + 1) ltb 0
    else s
  | .taskStart t snap tt => if s.follower then s.setTask t.val { s.task t.val with holderStart := some (snap, tt) } else s
  | .commit t apply => if s.follower then s.setTask t.val { s.task t.val with holderApply := some apply } else s
  | .trigger t kind id ots release => if s.follower then s.mirrorTrigger t.val kind.toNat id ots release else s
  | .skip t release => if s.follower then s.mirrorSkip t.val release else s
  | .abort _ => if s.follower then s.endTwinSync 2 else s

/-- MIRROR_CELL_RECEIVE (R460). DEDUCED: log entry 64. -/
def execMirrorCellReceive (m : MirrorMsg) (s : State) : Res := .next (if s.twinOn then s.takeMirror m else s)

/-! ## Control cells (R304, R460, R464, R468 to R477) -/

/-- A switch-over that the holder has chosen: a STANDBY-READY module raises its claim at it (R468). -/
def State.takeSwitch (s : State) (g : W64) : State :=
  if s.role == 3 && s.pair.ready then { s with pair := { s.pair with sched := some (g, .taken) } } else s

/-- The group of a request of Proof that disturbs, and whether its kind does (R486). -/
def ProofReq.group (r : ProofReq) : Nat := r.target / 256 % 64
def ProofReq.disturbs (r : ProofReq) : Bool := r.kind == 4 || r.kind == 5 || r.kind == 6

/-- The peer asks for cover of a group: this module confirms it, and reserves the group, while it holds the group with its reports admitted,
drives it and neither runs nor queues a disturbing test on it; against a test that has not begun side A's request goes first. For a pulse test
its own stage of the channel is on with CHSTAT 0x0 (R488). -/
def State.coverAsked (s : State) (k : Nat) (pulse : Option (Fin 16)) : State :=
  let g := s.grp k
  let drives := grpKind k == 0x80 || s.drvSel k
  let own := s.proof.queue.filter fun r => r.disturbs && r.group == k
  let free := own.isEmpty || (s.side == 2 && !(s.proof.busy.isSome && (s.proof.queue.head?.map ProofReq.group) == some k))
  let stage := match pulse with
    | none => true
    | some c => (g.dgc c.val).on && s.fld (rk (grpPage k) (0x10C + 4 * (c.val / 8))) (4 * (c.val % 8)) 4 == 0
  if g.holder != 0 && g.link.rxOk && drives && free && stage then
    { s with proof := { s.proof with reserved := insertNew s.proof.reserved k } }
  else s

/-- The module is at a step of its join. -/
def State.atStep (s : State) (n : Nat) : Bool := s.role == 4 && s.joinStep == n

/-- 10 min in LTB ticks of 8 ns. -/
def tenMinutes : Nat := 75000000000

/-- A join fails: three failures within 10 min stop the joins (R476, R478). -/
def State.failJoin (s : State) : State :=
  let step := s.joinStep
  let l := (s.pair.joinFails.filter fun t => decide ((s.time.ltb - t).toNat < tenMinutes)) ++ [s.time.ltb]
  let s := (s.stopRunning.setEvt Reg.TWIN_TWIN_EVT 4).logTwin 0x0A (BitVec.ofNat 64 step)
  let s := s.setFld Reg.TWIN_SYNC 24 2 (min 3 l.length)
  let s := { s with pair := { s.pair with joinFails := l, proofRun := 0, inTol := 0, aligned := false, joinRing := [] } }
  if 3 ≤ l.length then s.setStep 0 else s.setStep 2

/-! ## Loop commands of tasks in lockstep (R305) -/

/-- Every task of this module runs in lockstep with the holder's. DEDUCED: log entry 25. -/
def State.lockstep (s : State) : Bool := (s.twinSync && s.role == 3) || s.atStep 7

/-- The two copies of a command agree in address, value, tag and option. -/
def MirrorCmd.agrees (a b : MirrorCmd) : Bool := decide ({ a with core := 0, at_ := 0 } = { b with core := 0, at_ := 0 })

/-- A copy does not match the holder's command, or has not come by its boundary (R305). DEDUCED: log entry 26. -/
def State.mirrorDiffers (s : State) (c : MirrorCmd) : State :=
  let off := match c.word with
    | some w => 8 * w
    | none => 0
  let s := (s.setEvt Reg.LOOP_SUP_EVT 4).logEvt 0x040 c.loop 0x30 (BitVec.ofNat 64 (c.core * 2 ^ 56 + off))
  let s := { s with loop := { s.loop with own := [], held := [] } }
  if s.atStep 7 then s.failJoin else s.endTwinSync 4

/-- The first write or Fix command of `l` that waits as this command's copy takes its boundary. -/
def giveBoundary (c : MirrorCmd) (g : W64) : List LoopWrite → List LoopWrite
  | [] => []
  | e :: l =>
    if e.waits && e.master == c.core && e.loop == c.loop && e.word == c.word.getD LW.FIXCMD then { e with waits := false, at_ := g } :: l
    else e :: giveBoundary c g l

/-- An own copy takes the boundary `g`. -/
def State.assignCopy (s : State) (c : MirrorCmd) (g : W64) : State :=
  { s with loop := { s.loop with pend := giveBoundary c g s.loop.pend } }

/-- The core of an own copy that came by no core's queue: it is a copy of whichever core's command agrees. -/
abbrev anyCore : Nat := 4

/-- The oldest own copy of a core and the holder's oldest command of it are matched, once both are there. DEDUCED: log entry 25. -/
def State.matchCore (s : State) (core : Nat) : State :=
  match s.loop.held.find? (·.core == core) with
  | none => s
  | some h =>
    match (s.loop.own.find? (·.core == core)).or (s.loop.own.find? fun o => o.core == anyCore && o.agrees h) with
    | none => s
    | some o =>
      let s := { s with loop := { s.loop with own := s.loop.own.erase o, held := s.loop.held.erase h } }
      if o.agrees h then s.assignCopy o h.at_ else s.mirrorDiffers h

/-- A command of the holder that the engines of both modules are to carry out at boundary `g`: of a task in lockstep, or of the holder alone
(R304 to R306). -/
def State.takeCommand (s : State) (c : MirrorCmd) : State :=
  if !s.follower then s
  else if s.lockstep && decide (c.core < 4) then
    ({ s with loop := { s.loop with held := s.loop.held ++ [c] } }).matchCore c.core
  else match c.word with
    | some w => (s.landWrite c.loop w c.value 0x1C c.at_ false).2
    | none => s.landFix c.loop c.opt c.at_ false 0x1C

/-- The newest command that has landed waits for the holder's boundary. -/
def State.lastWaits (s : State) : State :=
  { s with loop := { s.loop with
    pend := s.loop.pend.dropLast ++ (s.loop.pend.getLast?.map fun (e : LoopWrite) => { e with waits := true }).toList } }

/-- An own copy of a command is accepted, and a read shows it as landed (R305); LAST_ERR, 0 for a success. A module that joins lands the
holder's command alone until every task has joined. DEDUCED: log entry 27. -/
def State.ownCopy (s : State) (c : MirrorCmd) : Nat × State :=
  if !s.lockstep then (0, s)
  else
    let r := match c.word with
      | some w => s.landWrite c.loop w c.value c.core 0 true
      | none => (0, s.landFix c.loop c.opt 0 true c.core)
    if r.1 ≠ 0 then r
    else
      let s := r.2.lastWaits
      let s := { s with loop := { s.loop with own := s.loop.own ++ [c] } }
      (0, if c.core = anyCore then [0, 1, 2, 3].foldl State.matchCore s else s.matchCore c.core)

/-- Boundary `g` for the copies: a command of the holder whose copy has not come ends lockstep; copies that no holder assigns any more apply
by R259. DEDUCED: log entry 27. -/
def State.mirrorBoundary (s : State) (g : W64) : State :=
  if s.lockstep then
    match s.loop.held.find? fun c => notAfter c.at_ g with
    | some c => s.mirrorDiffers c
    | none => s
  else
    let l := s.loop.own
    let s := { s with loop := { s.loop with own := [], held := [] } }
    l.foldl (fun s c => s.assignCopy c g) s

/-- What a control cell brings. -/
def State.takeControl (s : State) (m : ControlMsg) : State :=
  match m with
  | .loopWrite loop word value master g =>
    s.takeCommand { core := master.toNat, loop := loop.val, word := some word.toNat, value := value, at_ := g }
  | .fix loop opt master g =>
    s.takeCommand { core := master.toNat, loop := loop.val, word := none, opt := opt.toNat, at_ := g }
  | .regWrite p off v src g =>
    if s.follower then { s with pair := { s.pair with mirrored := s.pair.mirrored ++ [(g, p, off, v, src)] } } else s
  | .tpmWrite w v g =>
    if s.follower then { s with pair := { s.pair with mirroredTpm := s.pair.mirroredTpm ++ [(g, w.toNat, v)] } } else s
  | .switchOver g => s.takeSwitch g
  | .cancelSwitch => { s with pair := { s.pair with sched := none } }
  | .withdraw g => s.takeSwitch g
  | .hash frame h => { s with pair := { s.pair with peerHash := sset (dflt none) s.pair.peerHash frame.toNat (some h) } }
  | .group g on adm => s.onLink g.val fun l => { l with peerDomOn := on, peerAdm := adm }
  | .moved g on =>
    if s.holder then s
    else if on then { s with pair := { s.pair with moved := insertNew s.pair.moved (grpPage g.val) } }
    else { s with pair := { s.pair with moved := s.pair.moved.filter (· != grpPage g.val) } }
  | .brownout on => { s with pair := { s.pair with peerBrownout := on } }
  | .bulkStart =>
    if s.holder then
      ({ s with pair := { s.pair with marking := true, marked := [], joinBuf := [] } }).setReg Reg.TWIN_BULK 0
    else s
  | .cover g on =>
    { s with proof := { s.proof with
      covered := if on then insertNew s.proof.covered g.val else s.proof.covered.filter (· != g.val) } }
  | .coverAsk g pulse => s.coverAsked g.val pulse
  | .coverEnd g => { s with proof := { s.proof with reserved := s.proof.reserved.filter (· != g.val) } }

/-- CONTROL_CELL_RECEIVE (R304). -/
def execControlCellReceive (m : ControlMsg) (s : State) : Res := .next (if s.twinOn then s.takeControl m else s)

/-! ## Receipts (R460, R510, R540) -/

/-- NETWORK_RECEIPT: the non-holder delivers its own copy of the frame at the release boundary, or is owed the payload (R460). -/
def execNetworkReceipt (r : Receipt) (s : State) : Res :=
  .next <|
    if !s.follower then s
    else
      let claimed := match r.iface with
        | .can n => s.claimCan n.val r
        | .eth sw => s.claimEth sw.val r
      match claimed with
      | some s => s
      | none => { s with pair := { s.pair with owed := s.pair.owed ++ [r] } }

/-- Receipts still owed whose release boundary has come: the module loses lockstep (R460). -/
def State.owedDue (s : State) : Bool := s.pair.owed.any fun r => notAfter r.release s.lfi

/-! ## Bulk cells (R460, R475) -/

/-- A receipt is owed no longer. -/
def State.paid (s : State) (i : NetIface) (crc : W64) : State :=
  { s with pair := { s.pair with owed := s.pair.owed.filter fun r => !(r.iface == i && r.crc == crc) } }

/-- What a bulk cell brings. -/
def State.takeBulk (s : State) (m : BulkMsg) : State :=
  match m with
  | .tpm w words => words.zipIdx.foldl (fun s e => if w.toNat + e.2 < tpmWords then s.setTpm (w.toNat + e.2) e.1 else s) s
  | .loopWord loop word v => if s.domState 6 == 2 then s.setLw loop.val word.toNat v else s
  | .engine loop ack session =>
    if s.domState 6 == 2 then
      let l := s.loop.ack.filter (· != loop.val)
      { s.setTune loop.val session with loop := { (s.setTune loop.val session).loop with ack := if ack then insertNew l loop.val else l } }
    else s
  | .ttBase v => { s with boot := { s.boot with ttBase := v } }
  | .epoch v => s.setFld (rk 0x0F0 Reg.NET_TW_EPOCH) 0 8 v.toNat
  | .canSeq n k q first =>
    if s.domState (10 + n.val) == 2 then
      (s.setObjField n.val k.val Obj.OSTAT 48 8 q.toNat).setObjField n.val k.val Obj.OSTAT 40 8 first.toNat
    else s
  | .canPayload n k f t g =>
    let s := s.paid (.can n) (crc64 (canBytes f))
    let x := s.canCtl n.val
    s.setCanCtl n.val { x with staging := x.staging ++ [{ obj := k.val, frame := f, stamps := t, release := some g }] }
  | .ethPayload sw ring b info t g =>
    let s := s.paid (.eth sw) (crc64 (withoutHeader b))
    let x := s.eth sw.val
    s.setEth sw.val { x with staging := x.staging ++ [{ bytes := b, info := info, stamps := t, ring := ring.val, release := some g }] }

/-- BULK_CELL_RECEIVE (R475). -/
def execBulkCellReceive (m : BulkMsg) (s : State) : Res :=
  .next (if s.twinOn && (s.role == 4 || s.follower) then s.takeBulk m else s)

/-! ## Re-integration (R459, R475 to R478) -/

/-- The module goes OFF-LINE for a mismatch with its peer (R18, R475). -/
def State.joinRefused (s : State) (cause : Nat) : State := ((s.setRole 5).setStep 0).logTwin cause

/-- REINTEGRATION_CHECK: order code, image hash and MATRIX_ID of the peer (R475, R480). -/
def execReintegrationCheck (sameOrder : Bool) (digest : BitVec 384) (peerMatrix : W32) (s : State) : Res :=
  .next <|
    if !s.atStep 1 then s
    else if !sameOrder then s.joinRefused 0x08
    else if digest ≠ s.boot.digest then s.joinRefused 0x09
    else
      let own := matrixId s.laneX.table
      let s :=
        if own = peerMatrix.toNat then s
        else s.logTwin 0x0D (BitVec.ofNat 64 (peerMatrix.toNat * 2 ^ 32 + own))
      s.setStep 2

/-- A burst under way is cut short: the module's own streams lose admission (R459). -/
def State.cutBursts (s : State) : State :=
  (List.range 57).foldl (fun s k => s.onLink k fun l => { l.cut with relay := l.relay, wireRep := l.wireRep, wireVal := l.wireVal }) s

/-- REINTEGRATION_ALIGN: the module takes the holder's loop frame index and phase once, both lanes up; then it is aligned once its offset has
stayed within 12 ns for 16 frames, which LOOP_FRAME_BOUNDARY counts (R459, R475, R477). -/
def execReintegrationAlign (s : State) : Res :=
  .next <|
    if !s.atStep 2 || !s.laneUp 0 || !s.laneUp 1 then s
    else if !s.pair.aligned then
      let cyc := (s.pair.peerPhase + s.fld Reg.TWIN_LANE_STAT 16 16 / 8) % 15625
      let s := ((s.setReg64 Reg.SYS_LFI_LO s.pair.peerFrame).setFld Reg.SYS_LFI_CYC 0 14 cyc).setFld Reg.TWIN_SYNC 0 16 0
      ({ s with pair := { s.pair with aligned := true, inTol := 0 } }).cutBursts
    else if 16 ≤ s.pair.inTol then (s.setStep 3).setReg Reg.TWIN_BULK 0
    else s

/-- BULK_PASS: a pass over the TPM pages ends; `dirty` is how many marked pages it found, as the holder says (R475, R478).
DEDUCED: log entry 67. -/
def execBulkPass (dirty : BitVec 16) (s : State) : Res :=
  .next <|
    if s.atStep 3 then
      let s := (s.countMod Reg.TWIN_BULK 0 16 1).setFld Reg.TWIN_BULK 16 16 dirty.toNat
      if dirty.toNat ≤ 64 then s.setStep 4 else s
    else if s.pair.marking then
      let n := s.pair.marked.length
      let s := (s.countMod Reg.TWIN_BULK 0 16 1).setFld Reg.TWIN_BULK 16 16 (min n 0xFFFF)
      if n ≤ 64 then s else { s with pair := { s.pair with marked := [] } }
    else s

/-- A word that the engine writes in a sample: STATE, status, supervision and tuning words; ACT and REQ, the banks of a Fix, and the words that a
mode's entry sets are among them (R278, R291, R302, R475). -/
def sampleWord (w : Nat) : Bool :=
  decide (w = LW.MODE ∨ w = LW.CASC ∨ w = LW.SP_LOCAL ∨ w = LW.MAN_OUT ∨ (LW.ACTIVE ≤ w ∧ w < LW.OUT_HI) ∨ (160 ≤ w ∧ w < 192) ∨ 224 ≤ w)

/-- DELTA: at g_j the holder's engine copies what it writes in a sample into the join buffer; the joining module holds all of it (R475). -/
def execDelta (g : W64) (s : State) : Res :=
  .next <|
    if s.atStep 4 then ({ s with pair := { s.pair with joinFrame := g, joinRing := [] } }).setStep 5
    else if s.pair.marking then
      { s with pair := { s.pair with
        joinFrame := g, marking := false, marked := [], joinBuf := s.loop.words.filter fun e => sampleWord (e.1 % 256) } }
    else s

/-- The words of a frame buffer of the join ring stand in their frame buffer again. -/
def State.replayBuffer (s : State) (g : W64) (m : Sparse TWord) : State :=
  m.foldl (fun s e => s.setTpm (s.frameBuffer (g - 1) + e.1) e.2) s

/-- The loops of a module that joins go on from the records it has been given: no sample is a first one (R268, R475). DEDUCED: log entry 138. -/
def State.goOnLoops (s : State) : State :=
  if s.isolated 0x040 then s else (s.setFlag (rk 0x040 Reg.CTRL) 0 true).setFlag (rk 0x040 Reg.STAT) 0 true

/-- The joining engine computes the frames that the join ring holds (R475). DEDUCED: log entry 67. -/
def State.catchUp (s : State) : State :=
  s.pair.joinRing.foldl (fun s e =>
    let g := s.pair.joinFrame + BitVec.ofNat 64 e.1
    (s.replayBuffer g e.2).loopFrame g) s.goOnLoops

/-- CATCH_UP: the joining engine reaches the holder's frame, within 32 frames of g_j; then every task waits to join (R475, R476). -/
def execCatchUp (s : State) : Res :=
  .next <|
    if !s.atStep 5 || decide (32 < (s.lfi - s.pair.joinFrame).toNat) then s
    else
      let s := s.catchUp
      let tasks := (List.range 32).foldl (fun m t =>
        if (s.desc t).cls = .unused then m else sset (dflt ({} : TaskState)) m t ({ joining := true } : TaskState)) []
      let s := { s with boot := { s.boot with running := true, tasks := tasks }, pair := { s.pair with joinRing := [] } }
      s.setStep 6

/-- TASK_JOIN: a task's data has been copied at its first release after catch-up; `cycle` and `prevTT` are the holder's (R251, R475). -/
def execTaskJoin (task : Fin 32) (cycle prevTT : W64) (s : State) : Res :=
  .next <|
    let t := task.val
    if !s.atStep 6 || !(s.task t).joining then s
    else
      let s := (s.setTask t { s.task t with joining := false, cycle := cycle, prevTT := prevTT }).latchSelects s.lfi
      let waiting := (List.range 32).any fun t => (s.task t).joining
      let s := s.dispatchAll
      if waiting then s else ({ s with pair := { s.pair with proofRun := 0, hashFrom := s.lfi + 1 } }).setStep 7

/-- JOIN_PROOF: sixteen consecutive hashes have matched: STANDBY-READY (R452, R475, R480). A debug level of HALT or FULL bars it (R626).
DEDUCED: log entry 82. -/
def execJoinProof (s : State) : Res :=
  .next <|
    if !s.atStep 7 || decide (s.pair.proofRun < 16) || decide (2 ≤ s.debugLevel) then s
    else
      let s := ((s.setRole 3).setStep 8).setFlag Reg.TWIN_SYNC 27 true
      let s := { s with pair := { s.pair with ready := true, nextRole := some 2 } }
      let s := if s.fld Reg.SYS_BOOT_STAT 28 4 = 4 then s.setFld Reg.SYS_BOOT_STAT 28 4 5 else s
      (s.setEvt Reg.TWIN_TWIN_EVT 5).logTwin 0x07 s.pair.joinFrame

/-- JOIN_FAIL: the catch-up has not ended within 32 frames of g_j, or a hash differed in Proof (R476). -/
def execJoinFail (s : State) : Res :=
  .next <|
    if (s.atStep 5 && decide (32 < (s.lfi - s.pair.joinFrame).toNat)) || (s.atStep 7 && s.flag Reg.TWIN_SYNC 26) then s.failJoin
    else s

/-- The effect of a write of TWIN.REJOIN (R476, R478). -/
def State.writeRejoin (s : State) (v : W32) : State :=
  if v.getLsbD 0 && keyed v 0x524A then
    let s := ({ s with pair := { s.pair with joinFails := [] } }).setFld Reg.TWIN_SYNC 24 2 0
    if s.role = 4 then s.startJoin else s
  else s

/-- REJOIN (R478). -/
def execRejoin (w : Writer) (value : W32) (s : State) : Res :=
  .next (s.command w Reg.TWIN_REJOIN value fun s => s.writeRejoin value)

/-! ## The hash (R464) -/

/-- The hash of the frame that ends is complete: HASH shows it (R464, R478). -/
def State.closeHash (s : State) (g : W64) : State :=
  let h := ~~~ s.pair.hashAcc
  let s := (s.setReg Reg.TWIN_HASH_LO (h.setWidth 32)).setReg Reg.TWIN_HASH_HI ((h >>> 32).setWidth 32)
  let old := fun (e : Nat × Option W64) => decide (g.toNat ≤ e.1 + 4)
  { s with pair := { s.pair with
    hashAcc := 0xFFFFFFFFFFFFFFFF
    ownHash := (sset (dflt none) s.pair.ownHash (g - 1).toNat (some h)).filter old
    peerHash := s.pair.peerHash.filter old } }

/-- A hash comparison fails: MISMATCH, and lockstep ends for the non-holder (R464, R477). -/
def State.hashDiffers (s : State) (g : W64) : State :=
  let s := s.setFlag Reg.TWIN_SYNC 26 true
  let s := (s.setEvt Reg.TWIN_TWIN_EVT 3).logTwin 0x05 g
  let s := { s with pair := { s.pair with proofRun := 0 } }
  if s.atStep 7 then s.failJoin else s.endTwinSync 2

/-- At boundary `g` the non-holder compares the hashes of frame g − 2 (R464, R475). -/
def State.compareHash (s : State) (g : W64) : State :=
  if !((s.twinSync && s.role == 3) || s.atStep 7) then s
  else
    let f := g - 2
    if !notAfter s.pair.hashFrom f then s else
    match sget (dflt none) s.pair.ownHash f.toNat with
    | none => s
    | some own =>
      if sget (dflt none) s.pair.peerHash f.toNat = some own then
        let s := s.setFlag Reg.TWIN_SYNC 26 false
        if s.atStep 7 then { s with pair := { s.pair with proofRun := s.pair.proofRun + 1 } } else s
      else s.hashDiffers f

/-- A boundary for the join: the frames within tolerance while it aligns, and the frame buffers that the join ring keeps (R459, R475). -/
def State.joinBoundary (s : State) (g : W64) : State :=
  if s.atStep 2 && s.pair.aligned then
    let d := (BitVec.ofNat 16 (s.fld Reg.TWIN_SYNC 0 16)).toInt
    { s with pair := { s.pair with inTol := if -12 ≤ d ∧ d ≤ 12 then s.pair.inTol + 1 else 0 } }
  else if s.atStep 5 && decide (s.pair.joinRing.length < 32) then
    let base := s.frameBuffer (g - 1)
    let words := (s.mem.tpm.filter fun e => decide (base ≤ e.1) && decide (e.1 < base + s.fld Reg.LOOP_IMG_STRIDE 0 23)).map fun e =>
      (e.1 - base, s.tpmAt e.1)
    { s with pair := { s.pair with joinRing := sset (dflt []) s.pair.joinRing (g - s.pair.joinFrame).toNat words } }
  else s

end Sys2Proof.Machine
end

