-- ==== Sys2Proof/Machine/Annun.lean ====
section
/-! DEFINITION. The annunciator channels at their controller (R597 to R600); their sounds, levels and partners stand in Machine/Fgc.lean. -/

namespace Sys2Proof.Machine

/-- The group slot of group AN. -/
def anSlot : Nat := 56

/-- A channel of group AN changes, unless its controller is held in reset. -/
def State.onAn (s : State) (c : Nat) (f : GroupState → AnChan → AnChan) : State :=
  let g := s.grp anSlot
  if g.held then s else s.setGrp anSlot (g.setAn c (f g (g.anc c)))

/-- A pattern goes on to the start of its next step; a step lasts STEP × 1 000 field periods (R597). DEDUCED: log entry 86. -/
def nextStep (step phase : Nat) : Nat := (phase / (1000 * max 1 step) + 1) * (1000 * max 1 step)

/-- PATTERN_STEP: the step of the sound that a channel is commanded to play ends (R597). DEDUCED: log entry 86. -/
def execPatternStep (an : Fin 16) (s : State) : Res :=
  .next <| s.onAn an.val fun g x =>
    if x.on then { x with phase := nextStep (fieldOf (g.soundA anSlot x.sound) 12 8) x.phase } else x

/-- The limit by a bridge temperature in 0.0625 °C: off above 145 °C, limited above 125 °C, ended below 110 °C (R598). -/
def thermNext (old : Nat) (t : Int) : Nat :=
  if 2320 < t then 2 else if 2000 < t then max old 1 else if t < 1760 then 0 else old

/-- BRIDGE_TEMPERATURE: the mean over 100 ms in 0.0625 °C; none where no reading has come for 1 s (R598, R605). -/
def execBridgeTemperature (an : Fin 16) (temp : Option (BitVec 16)) (s : State) : Res :=
  .next <| s.onAn an.val fun _ x =>
    match temp with
    | some t => { x with temp := some t.toInt, therm := thermNext x.therm t.toInt }
    | none => { x with temp := none }

/-- A probe's result: 0 within 2 Ω to 200 Ω, 1 open, 2 short (R599); resistances in mΩ. -/
def probeResult (mohm : Nat) : Nat := if mohm < 2000 then 2 else if 200000 < mohm then 1 else 0

/-- LINE_PROBE: a channel that drives, is commanded off, plays for no other and has SUPV at 1; two results in a row set or clear (R599). -/
def execLineProbe (an : Fin 16) (mohm : W32) (s : State) : Res :=
  .next <| s.onAn an.val fun g x =>
    if x.on || x.playsFor.isSome || !g.powered || !g.driving || g.released || !(g.chCfg anSlot an.val).getLsbD 25 then x
    else
      let r := probeResult mohm.toNat
      { x with probe := if x.probeNew = r then r else x.probe, probeNew := r }

/-- OVERCURRENT_TRIP: the fourth trip latches SHORT (R600). -/
def execOvercurrentTrip (an : Fin 16) (s : State) : Res :=
  .next <| s.onAn an.val fun g x =>
    if !g.powered || !g.driving || x.tripped || x.latched || (g.anPlays an.val).isNone then x
    else if 3 ≤ x.trips then { x with trips := x.trips + 1, latched := true }
    else { x with trips := x.trips + 1, tripped := true }

/-- ANNUNCIATOR_RESTART: 100 ms after a trip (R600). -/
def execAnnunciatorRestart (an : Fin 16) (s : State) : Res :=
  .next <| s.onAn an.val fun _ x => { x with tripped := false }

/-- TRIP_COUNT_CLEAR: 10 s of sounding without a trip (R600). -/
def execTripCountClear (an : Fin 16) (s : State) : Res :=
  .next <| s.onAn an.val fun g x => if g.sounding anSlot an.val && !x.latched then { x with trips := 0 } else x

end Sys2Proof.Machine
end

