-- ==== Sys2Proof/Machine/Panel.lean ====
section
/-! DEFINITION. The front panel and its page DISP (R587 to R593, R595, R606, R608). -/

namespace Sys2Proof.Machine

/-- PHASE of DSTAT: 0 OFF, 1 RAILS, 2 BLANK, 3 ON, 4 STOPPING (R606). -/
def State.panel (s : State) : Nat := s.fld Reg.DISP_DSTAT 29 3
def State.setPanel (s : State) (n : Nat) : State := s.setFld Reg.DISP_DSTAT 29 3 n

/-- An event of the DISP page (R608). -/
def State.logDisp (s : State) (cause : Nat) (data : W64 := 0) : State := s.logEvt 0x0F9 0xFFF cause data

/-- The panel is clamped: no segment carries a voltage (R591). -/
def State.clampPanel (s : State) : State :=
  { s.setPanel 0 with disp := { s.disp with rails := 0, blanks := 0 } }

/-- The start of R590: V1 rises. -/
def State.startPanel (s : State) : State :=
  { s.setPanel 1 with disp := { s.disp with rails := 0, blanks := 0 } }

/-- The panel's part in a write of CTRL.EN (R590 to R592): EN = 1 starts a panel that is OFF, unless CRACK is set, when two intact tests come
first; EN = 0 stops it in order. -/
def State.panelEnable (on : Bool) (s : State) : State :=
  if !s.panelOn then s
  else if on then
    if s.flag Reg.DISP_DSTAT 24 then { s with disp := { s.disp with retry := some 0 } }
    else if s.panel = 0 then s.startPanel else s
  else
    let s := { s with disp := { s.disp with retry := none } }
    if s.panel = 0 ∨ s.panel = 4 then s
    else { s.setPanel 4 with disp := { s.disp with blanks := 1 } }

/-- PANEL_RAIL_READY: the rail that rises is at 95 %; after V3 two blank display frames follow (R590). DEDUCED: log entry 87. -/
def execPanelRailReady (s : State) : Res :=
  .next <|
    if s.panel ≠ 1 then s
    else if s.disp.rails < 2 then { s with disp := { s.disp with rails := s.disp.rails + 1 } }
    else { s.setPanel 2 with disp := { s.disp with rails := 3, blanks := 2 } }

/-- PANEL_RAIL_FAULT: the rail that rises was not at 95 % within 5 ms (R590). DEDUCED: log entry 87. -/
def execPanelRailFault (s : State) : Res :=
  .next <|
    if s.panel ≠ 1 then s
    else
      let rail := s.disp.rails + 1
      let s := (s.setFlag Reg.DISP_DSTAT 23 true).setEvt Reg.DISP_DISP_EVT 0
      (s.clampPanel).logDisp 0x02 (BitVec.ofNat 64 rail)

/-- PANEL_ON: two blank display frames have been driven (R590). -/
def execPanelOn (s : State) : Res :=
  .next (if s.panel = 2 ∧ s.disp.blanks = 0 then (s.setPanel 3).logDisp 0x01 else s)

/-- PANEL_STOP_COMPLETE: the blank frame has been driven and the rails have fallen (R591). -/
def execPanelStopComplete (s : State) : Res :=
  .next (if s.panel = 4 ∧ s.disp.blanks = 0 then s.clampPanel else s)

/-- The effect of a write of FLIP (R589). -/
def State.writeFlip (s : State) (v : W32) : State := if v.getLsbD 0 then s.setFlag Reg.DISP_DSTAT 25 true else s

/-- PANEL_FLIP (R589). -/
def execPanelFlip (w : Writer) (value : W32) (s : State) : Res :=
  .next (s.command w Reg.DISP_FLIP value fun s => s.writeFlip value)

/-- A flip that waits takes effect (R589). -/
def State.flipPage (s : State) : State :=
  if s.flag Reg.DISP_DSTAT 25 then
    let s := s.setFlag Reg.DISP_DSTAT 25 false
    (s.setFlag Reg.DISP_DSTAT 26 (!s.flag Reg.DISP_DSTAT 26)).setEvt Reg.DISP_DISP_EVT 2
  else s

/-- FLIP_EFFECT: the next display frame boundary (R589). -/
def execFlipEffect (s : State) : Res := .next (if s.panelOn then s.flipPage else s)

/-- DISPLAY_FRAME_BOUNDARY: what waits takes effect, the waveforms invert, and the frame that ended is counted (R588 to R591). -/
def execDisplayFrameBoundary (s : State) : Res :=
  .next <|
    if !s.panelOn then s
    else
      let s := s.disp.pend.foldl (fun s e => s.setReg e.1 (e.2.getD 0)) s
      let s := if s.panel = 3 then s.countMod Reg.DISP_DSTAT 0 16 1 else s
      { s.flipPage with
        disp := { s.disp with
          pend := [], inForce := s.reg Reg.DISP_DCFG, inverted := !s.disp.inverted, blanks := s.disp.blanks - 1 } }

/-- CRACK_TEST: the loop's resistance in Ω (R592). -/
def execCrackTest (ohm : W32) (s : State) : Res :=
  .next <|
    if !s.panelOn then s
    else
      let o := if ohm.toNat < 1000 then false else if 10000 < ohm.toNat then true else s.disp.open_
      let s := s.setReg Reg.DISP_CRACK (BitVec.ofNat 32 ((if o then mkTag 2 2 else 0).toNat * 2 ^ 24 + min ohm.toNat 0xFFFFFF))
      let s := { s with disp := { s.disp with open_ := o, opens := if o then s.disp.opens + 1 else 0 } }
      if s.flag Reg.DISP_DSTAT 24 then
        match s.disp.retry with
        | none => s
        | some n =>
          if o then { s with disp := { s.disp with retry := none } }
          else if n + 1 < 2 then { s with disp := { s.disp with retry := some (n + 1) } }
          else
            let s := { s with disp := { s.disp with retry := none } }
            (s.setFlag Reg.DISP_DSTAT 24 false).startPanel.logDisp 0x04
      else if 2 ≤ s.disp.opens then
        let s := ((s.setFlag Reg.DISP_DSTAT 24 true).setEvt Reg.DISP_DISP_EVT 1).clampPanel
        s.logDisp 0x03 (ohm.setWidth 64)
      else s

/-- The effect of a write of LAMPTEST (R595). -/
def State.writeLamptest (s : State) (v : W32) : State :=
  if v.getLsbD 0 && keyed v 0x4C54 then
    (({ s with disp := { s.disp with lamp := true } }).setEvt Reg.DISP_DISP_EVT 3).logDisp 0x05
  else s

/-- LAMP_TEST (R595). -/
def execLampTest (w : Writer) (value : W32) (s : State) : Res :=
  .next (s.command w Reg.DISP_LAMPTEST value fun s => s.writeLamptest value)

/-- LAMP_TEST_END: 2 s have passed (R595). -/
def execLampTestEnd (s : State) : Res := .next { s with disp := { s.disp with lamp := false } }

end Sys2Proof.Machine
end

