-- ==== Sys2Proof/Machine/Sec.lean ====
section
/-! DEFINITION. Lifecycle, authorisations, debug (spec/24, R609 to R631), the NOR controller (R124, R125, R631) and the power states
(R623 to R625, R632). -/

namespace Sys2Proof.Machine

/-! ## Reads from outside the cores -/

/-- The debug level does not allow the read (R621). -/
def State.readRefused (s : State) (m : Master) (p : Nat) : Bool :=
  match m with
  | .dbg => decide (s.debugLevel < (if p = 0x006 then 3 else 1))
  | _ => false

/-- The response that the gate gives a read of offset `off` of page `p` (R80, R141, R621). -/
def State.readGate (s : State) (m : Master) (p off : Nat) : Resp :=
  if (pageInfo p).isNone then .errDecode
  else if off % 4 ≠ 0 ∨ 0x1000 ≤ off then .errSize
  else if !wrapperOffset off && s.isolated p then .errIsolated
  else if s.readRefused m p then .errPriv
  else .okay

/-- A register read as it arrives: the gate, then its effect `f`. -/
def State.readAccess (s : State) (m : Master) (p off : Nat) (f : State → State) : State :=
  match s.readGate m p off with
  | .okay => f s
  | r => s.respond r

/-- The last access read a value. -/
def State.respondData (s : State) (v : W64) (t : Tag := 0) : State := { s with bus := { resp := .okay, data := v, tag := t } }

/-! ## Lifecycle (R609 to R611) -/

/-- An event of the SEC page. -/
def State.logSec (s : State) (cause : Nat) (data : W64 := 0) : State := s.logEvt 0x004 0xFFF cause data

/-- Every session is closed (R618, R628). -/
def State.closeSessions (s : State) : State :=
  let n := (s.sec.sessions.filter fun e => e.2.isSome).length
  let s := ({ s with sec := { s.sec with sessions := [] } }).setFld Reg.SEC_SESS 0 3 0
  (List.range n).foldl (fun s _ => s.logSec 0x0A) s

/-- The module takes a lifecycle state: sessions close, the level drops, and SWREQ follows once the event is logged (R610, R622,
R628). -/
def State.advanceLife (s : State) (lc : Nat) : State :=
  let s := ((s.closeSessions.dropLevel 0 5).setFld Reg.SEC_LCSTATE 0 3 lc).logSec 0x04 (BitVec.ofNat 64 lc)
  s.drainLog.assertReset 4

/-- Steps 2 to 5 of the entry to RETURNED (R611). -/
def State.wipe (s : State) : State :=
  let s := { s with sec := { s.sec with caHash := none, opCert := none } }
  let s := (((s.zeroMram 0x40 16).zeroMram 0x2000 928).zeroMram 0x3000 0xFD000).zeroMram 0x200000 0x600000
  let s := { s with mem := { s.mem with nor := [] } }
  s.advanceLife 3

/-- RETURNED_WIPE: the sequence that WIPE has started runs to its end (R611). -/
def execReturnedWipe (s : State) : Res :=
  .next (if s.flag Reg.SEC_LCSTATE 3 && s.lifecycle != 3 && s.lifecycle != 4 then s.wipe else s)

/-- The effect of a write of LCREQ (R610, R630). -/
def State.writeLcreq (s : State) (v : W32) : State :=
  if keyed v 0x4C43 && fieldOf v 0 3 == 2 && s.lifecycle == 1 then s.advanceLife 2 else s

/-- LIFECYCLE_ADVANCE (R610). -/
def execLifecycleAdvance (w : Writer) (value : W32) (s : State) : Res :=
  .next (s.command w Reg.SEC_LCREQ value fun s => s.writeLcreq value)

/-! ## Key slots and the rollback counter (R612, R616, R630) -/

/-- Byte `i` of the response registers. -/
def State.respByte (s : State) (i : Nat) : Byte := ((s.reg (Reg.SEC_RESPk + 4 * (i / 4))) >>> (8 * (i % 4))).setWidth 8

/-- Slot `n` is programmed, and revoked (R612). -/
def State.slotProg (s : State) (n : Nat) : Bool := s.flag Reg.OTP_KSTAT n
def State.slotRevoked (s : State) (n : Nat) : Bool := s.flag Reg.OTP_KSTAT (8 + n)

/-- A key slot is valid: programmed and not revoked (R612). -/
def State.slotValid (s : State) (n : Nat) : Bool := decide (n ≤ 4) && s.slotProg n && !s.slotRevoked n

/-- A key slot is programmed from the staged hash; the first programming of slot 1 provisions a BLANK module (R610, R630).
DEDUCED: log entry 72. -/
def State.programSlot (s : State) (n : Nat) : State :=
  if decide (n < 1 ∨ 4 < n) || decide (1 < s.lifecycle) || s.slotProg n then s
  else
    let h := BitVec.ofNat 384 (leNat s.respByte 0 48)
    let s := { s with sec := { s.sec with keys := sset (dflt 0) s.sec.keys n h } }
    let s := (s.setFlag Reg.OTP_KSTAT n true).logSec 0x05 (BitVec.ofNat 64 (0x100 + n))
    if n == 1 && s.lifecycle == 0 then s.advanceLife 1 else s

/-- A key slot is revoked, unless no valid customer slot would be left (R612, R630). -/
def State.revokeSlot (s : State) (n : Nat) : State :=
  if n < 1 ∨ 4 < n ∨ ([1, 2, 3, 4].any fun k => k != n && s.slotValid k) = false then s
  else (s.setFlag Reg.OTP_KSTAT (8 + n) true).logSec 0x05 (BitVec.ofNat 64 (0x200 + n))

/-- The effect of a write of KEYPROG (R630). DEDUCED: log entry 72. -/
def State.writeKeyprog (s : State) (v : W32) : State :=
  if keyed v 0x4B50 then
    match fieldOf v 8 2 with
    | 1 => s.programSlot (fieldOf v 0 3)
    | 2 => s.revokeSlot (fieldOf v 0 3)
    | _ => s
  else s

/-- KEY_SLOT_PROGRAM (R630). -/
def execKeySlotProgram (w : Writer) (value : W32) (s : State) : Res :=
  .next (s.command w Reg.SEC_KEYPROG value fun s => s.writeKeyprog value)

/-- KEY_SLOT_REVOKE (R630). -/
def execKeySlotRevoke (w : Writer) (value : W32) (s : State) : Res :=
  .next (s.command w Reg.SEC_KEYPROG value fun s => s.writeKeyprog value)

/-- The effect of a write of RBCOMMIT (R616, R633). DEDUCED: log entry 146. -/
def State.writeRbcommit (s : State) (v : W32) : State :=
  if !v.getLsbD 0 then s
  else if !keyed v 0x5242 then s.logSec 0x02 9
  else if s.fld Reg.SYS_BOOT_STAT 20 4 ≠ 0 ∨ s.boot.ran60 = false ∨ s.boot.version ≤ s.fld Reg.SEC_RB 0 8 then s.logSec 0x02 5
  else (s.setFld Reg.SEC_RB 0 8 s.boot.version).logSec 0x06 (BitVec.ofNat 64 s.boot.version)

/-- ROLLBACK_COMMIT (R616). -/
def execRollbackCommit (w : Writer) (value : W32) (s : State) : Res :=
  .next (s.command w Reg.SEC_RBCOMMIT value fun s => s.writeRbcommit value)

/-! ## Authorisation (R620, R626) -/

/-- A read of CHAL0 draws a fresh challenge; its bytes come from the random source: free values (R620). -/
def State.drawChallenge (s : State) : State :=
  let s := (List.range 4).foldl (fun s k => (s.setReg (Reg.SEC_CHALk + 4 * k) (s.freeVal.setWidth 32)).drawn) s
  { s with sec := { s.sec with challenge := some s.time.ltb } }

/-- CHALLENGE_READ (R620). -/
def execChallengeRead (m : Master) (s : State) : Res :=
  .next (s.readAccess m 0x004 0x110 fun s => s.drawChallenge.respondData ((s.drawChallenge.reg Reg.SEC_CHALk).setWidth 64))

/-- 60 s in LTB ticks. -/
def sixtySeconds : Nat := 7500000000

/-- The effect of a write of SEC.AUTH (R620): verification starts, and the challenge is used. -/
def State.writeAuth (s : State) (v : W32) : State :=
  if keyed v 0x4155 && v.getLsbD 0 && s.sec.auth.isNone then
    let valid := match s.sec.challenge with
      | some t => decide ((s.time.ltb - t).toNat ≤ sixtySeconds)
      | none => false
    let chal := (List.range 16).map fun i => ((s.reg (Reg.SEC_CHALk + 4 * (i / 4))) >>> (8 * (i % 4))).setWidth 8
    let job : AuthJob := { resp := (List.range 128).map s.respByte, challenge := chal, valid := valid }
    let s := { s with sec := { s.sec with auth := some job, challenge := none } }
    (s.setFlag Reg.SEC_AUTH 12 true).setFld Reg.SEC_AUTH 8 4 0
  else s

/-- AUTH (R620). -/
def execAuth (w : Writer) (value : W32) (s : State) : Res :=
  .next (s.command w Reg.SEC_AUTH value fun s => s.writeAuth value)

/-- The highest debug level that an authorisation signed by a slot can grant; none where it can grant none (R626). -/
def grantLimit (lc slot : Nat) : Option Nat :=
  match lc with
  | 0 => some 3
  | 1 | 2 => if slot ≠ 0 then some 2 else none
  | 3 => if slot = 0 then some 3 else none
  | _ => none

/-- Bytes `a` to `a + n` of a response as a number. DESIGN CHOICE: log entry 69. -/
def AuthJob.num (j : AuthJob) (a n : Nat) : Nat := leNat (fun i => (j.resp[i]?).getD 0) a n

/-- The serial number in a response is this module's (R620, R631). -/
def State.serialOk (s : State) (j : AuthJob) : Bool :=
  j.num 16 4 == (s.reg Reg.OTP_SERIAL_LO).toNat && j.num 20 4 == (s.reg Reg.OTP_SERIAL_HI).toNat

/-- The lifecycle state that an authorisation with PURPOSE 1 asks for may be taken (R610). -/
def State.lifeAllowed (s : State) (slot new : Nat) : Bool :=
  (new == 3 && (s.lifecycle == 1 || s.lifecycle == 2) && slot != 0) || (new == 4 && s.lifecycle != 4)

/-- RESULT of an authorisation (R620, R626, R630), where several of its refusals hold the first of challenge, serial number, slot,
signature, lifecycle and role. DESIGN CHOICE: log entry 69. -/
def State.authCode (s : State) (j : AuthJob) (sigOk : Bool) : Nat :=
  let slot := j.num 28 1
  let arg := j.num 25 1
  if !j.valid || (j.resp.take 16) != j.challenge then 4
  else if !s.serialOk j then 8
  else if !s.slotValid slot then 7
  else if !sigOk then 3
  else match j.num 24 1 with
    | 0 => match grantLimit s.lifecycle slot with
      | none => 5
      | some m =>
        if 2 ≤ min arg m ∧ s.claimRole = 3 then 6
        else if m < arg then 2 else 1
    | 1 => if s.lifeAllowed slot arg then 1 else 5
    | _ => 5

/-- A debug level is granted for some minutes, 0 for no end, by a token of a slot (R620, R626): a STANDBY module leaves twin sync for HALT or
FULL, for a reason to which the spec gives no number. DEDUCED: log entry 71. -/
def State.grantLevel (s : State) (level minutes slot : Nat) : State :=
  let s := if level < s.debugLevel then s.dropLevel level 1 else s
  let s := (s.setFld Reg.DBG_DLEVEL 0 2 level).setFld Reg.DBG_DLEVEL 16 16 minutes
  let s := { s with sec := { s.sec with grantMin := minutes, grantAt := s.time.ltb } }
  let s := (s.setEvt Reg.SEC_SEC_EVT 1).logSec 0x01 (BitVec.ofNat 64 (slot * 2 ^ 24 + minutes * 256 + level))
  if decide (2 ≤ level) && s.role == 3 then s.drawn.endTwinSync (s.freeVal.toNat % 256) else s

/-- A lifecycle authorisation acts: RETURNED begins with the WIPE fuse (R610, R611). -/
def State.authLife (s : State) (new : Nat) : State :=
  if new = 3 then s.closeSessions.setFlag Reg.SEC_LCSTATE 3 true else s.advanceLife 4

/-- What a granted authorisation does. -/
def State.authAct (s : State) (j : AuthJob) : State :=
  let slot := j.num 28 1
  let arg := j.num 25 1
  if j.num 24 1 = 0 then
    let level := min arg ((grantLimit s.lifecycle slot).getD 0)
    s.grantLevel level (max 1 (min 1440 (j.num 26 2))) slot
  else s.authLife arg

/-- AUTH_RESULT: verification completes; `sigOk` says whether the signature verifies with the slot's key (R620). -/
def execAuthResult (sigOk : Bool) (s : State) : Res :=
  .next <| match s.sec.auth with
    | none => s
    | some j =>
      let code := s.authCode j sigOk
      let s := { s with sec := { s.sec with auth := none } }
      let s := ((s.setFlag Reg.SEC_AUTH 12 false).setFld Reg.SEC_AUTH 8 4 code).setEvt Reg.SEC_SEC_EVT 0
      if code = 1 ∨ code = 2 then s.authAct j else s.logSec 0x02 (BitVec.ofNat 64 code)

/-- The highest level that is granted without a token (R626). DEDUCED: log entry 70. -/
def freeLevel (lc : Nat) : Nat :=
  match lc with
  | 0 => 3
  | 1 => 1
  | _ => 0

/-- The effect of a write of DLEVEL.REQ (R620, R626, R631). DEDUCED: log entry 70. -/
def State.writeDlevel (s : State) (v : W32) : State :=
  let level := min (fieldOf v 8 2) (freeLevel s.lifecycle)
  if level = 0 then s
  else if 2 ≤ level ∧ s.claimRole = 3 then s.logSec 0x02 6
  else s.grantLevel level 0 0

/-- DEBUG_LEVEL_REQUEST (R620). -/
def execDebugLevelRequest (w : Writer) (value : W32) (s : State) : Res :=
  .next (s.command w Reg.DBG_DLEVEL value fun s => s.writeDlevel value)

/-- The duration of the grant has passed (R622). -/
def State.grantOver (s : State) : Bool :=
  s.sec.grantMin != 0 && decide (s.sec.grantMin * 7500000000 ≤ (s.time.ltb - s.sec.grantAt).toNat)

/-- DEBUG_LEVEL_EXPIRY: the duration of the grant ends (R622). -/
def execDebugLevelExpiry (s : State) : Res :=
  .next <|
    if s.grantOver = true ∧ 0 < s.debugLevel then ({ s with sec := { s.sec with grantMin := 0 } }).dropLevel 0 1 else s

/-- The effect of a write of DROP (R622). -/
def State.writeDrop (s : State) (v : W32) : State := if v.getLsbD 0 then s.dropLevel 0 2 else s

/-- DEBUG_DROP (R622). -/
def execDebugDrop (w : Writer) (value : W32) (s : State) : Res :=
  .next (s.command w Reg.DBG_DROP value fun s => s.writeDrop value)

/-- The effect of a write of DBGREQ (R102, R627). -/
def State.writeDbgreq (s : State) (v : W32) : State :=
  let t := fieldOf v 0 3
  if !keyed v 0x4452 || !([1, 2, 3, 4, 7].contains t) then s.logSec 0x02 9
  else if s.debugLevel < 2 then s.logSec 0x02 5
  else if t = 7 then s.assertReset 5
  else s.requestCoreReset .dbg (t - 1)

/-- DBGREQ (R627). -/
def execDbgreq (w : Writer) (value : W32) (s : State) : Res :=
  .next (s.command w Reg.DBG_DBGREQ value fun s => s.writeDbgreq value)

/-! ## Run control (R621, R631) -/

/-- Core `n` is halted. -/
def State.halted (s : State) (n : Nat) : Bool := s.flag Reg.DBG_RUNCTL n

/-- The effect of a write of RUNCTL: HALT as written, and a core in STEP retires one instruction and is halted then. Below HALT it has no
effect (R621, R631). DEDUCED: log entry 73. -/
def State.writeRunctl (s : State) (w : Writer) (v : W32) : State :=
  if s.debugLevel < 2 then s
  else
    let steps := (List.range 4).filter fun n => v.getLsbD (4 + n)
    let v' := steps.foldl (fun (x : W32) n => x ||| (1#32 <<< n)) (v &&& 0xF)
    let s := s.fieldWrite w 0x007 0x108 v' v'
    { s with sec := { s.sec with stepping := steps } }

/-- CORE_HALT (R631). -/
def execCoreHalt (w : Writer) (value : W32) (s : State) : Res :=
  .next (s.access w 0x007 0x108 value fun s => s.writeRunctl w value)

/-- CORE_STEP (R631). -/
def execCoreStep (w : Writer) (value : W32) (s : State) : Res :=
  .next (s.access w 0x007 0x108 value fun s => s.writeRunctl w value)

/-- The address of a breakpoint (R631). -/
def State.bpAddr (s : State) (k : Nat) : W64 :=
  (s.reg (Reg.DBG_BPk_HI + 8 * k)) ++ (s.reg (Reg.DBG_BPk_LO + 8 * k) &&& 0xFFFFFFFC)

/-- BREAKPOINT_HIT: the core of an enabled breakpoint is at its address and halts (R631). DEDUCED: log entry 73. -/
def execBreakpointHit (bp : Fin 16) (s : State) : Res :=
  .next <|
    let n := bp.val / 4
    if 2 ≤ s.debugLevel ∧ s.flag (Reg.DBG_BPk_LO + 8 * bp.val) 0 = true ∧ (s.core n).pc = s.bpAddr bp.val then
      s.setFlag Reg.DBG_RUNCTL n true
    else s

/-- DEBUG_COVER_OPEN (R629). -/
def execDebugCoverOpen (s : State) : Res := .next ((s.setEvt Reg.SEC_SEC_EVT 2).logSec 0x07)

/-! ## The NOR controller (R124, R125, R631) -/

/-- The sector of the page that NADDR names. -/
def State.norPage (s : State) : Nat := s.fld Reg.NOR_NADDR 8 20

/-- An image runs from a bank, and the sector lies in it. -/
def State.runningBank (s : State) (sec : Nat) : Bool :=
  let phase := s.fld Reg.SYS_BOOT_STAT 28 4
  decide (2 ≤ phase ∧ phase ≤ 7) && s.fld Reg.NOR_NSTAT 0 1 == sec / 0x200

/-- RESULT of a NOR command; a refusal is logged (R631, R633). -/
def State.norResult (s : State) (sec code : Nat) : State :=
  let s := s.setFld Reg.NOR_NSTAT 4 4 code
  if code ≤ 1 then s else s.logEvt 0x022 sec 0x01 (BitVec.ofNat 64 (code * 16))

/-- The erase in progress in the bank of a sector. -/
def State.erasing (s : State) (sec : Nat) : Option Nat := if sec < 0x200 then s.boot.eraseA else s.boot.eraseB

/-- Begin or end the erase of a bank. -/
def State.setErase (s : State) (bankB : Bool) (x : Option Nat) : State :=
  let s := if bankB then { s with boot := { s.boot with eraseB := x } } else { s with boot := { s.boot with eraseA := x } }
  s.setFlag Reg.NOR_NSTAT 1 (s.boot.eraseA.isSome || s.boot.eraseB.isSome)

/-- An erase starts: its marker is ERASING (R124). -/
def State.startErase (s : State) (sec : Nat) : State :=
  (((s.setNor (sec * 0x40000 + 0x3FFF8) 8 0).setErase (decide (0x200 ≤ sec)) (some sec))).setFld Reg.NOR_NSTAT 4 4 0

/-- Every data byte of a sector is blank. -/
def State.sectorBlank (s : State) (sec : Nat) : Bool :=
  (s.mem.nor.filter fun e => decide (sec * 0x40000 ≤ e.1 ∧ e.1 < sec * 0x40000 + 0x3FFF8)).isEmpty

/-- Before the first program into an ERASED sector after a reset, one that is not blank at erase margin is erased again (R125). -/
def State.verifyBlank (s : State) (sec : Nat) (marginOk : Bool) : State :=
  if s.norMarker sec ≠ norErased ∨ s.boot.blankOk.contains sec = true then s
  else
    let s := if marginOk && s.sectorBlank sec then s else (s.eraseSector sec).logEvt 0x000 sec 0x50
    { s with boot := { s.boot with blankOk := insertNew s.boot.blankOk sec } }

/-- Every data byte of a page is blank; the erase marker is none of them (R124). -/
def State.pageBlank (s : State) (page : Nat) : Bool :=
  (s.mem.nor.filter fun e => decide (page * 256 ≤ e.1 ∧ e.1 < page * 256 + 256) && decide (e.1 % 0x40000 < 0x3FFF8)).isEmpty

/-- The bytes of NBUF. -/
def State.nbufBytes (s : State) : List Byte :=
  (List.range 256).map fun i => ((s.reg (Reg.NOR_NBUFk + 4 * (i / 4))) >>> (8 * (i % 4))).setWidth 8

/-- A program of a page starts: the sector is in use (R124, R631). -/
def State.startProgram (s : State) (page : Nat) (marginOk : Bool) : State :=
  let sec := page / 1024
  let s := s.verifyBlank sec marginOk
  if !s.pageBlank page then s.norResult sec 3
  else
    let s := if s.norMarker sec = norErased then s.setNor (sec * 0x40000 + 0x3FFF8) 8 norInUse else s
    ({ s with boot := { s.boot with prog := some (page, s.nbufBytes) } }).setFld Reg.NOR_NSTAT 4 4 0

/-- The effect of a write of NCMD (R631). A command that meets another one under way in its bank has no effect.
DEDUCED: log entry 74. -/
def State.writeNcmd (s : State) (v : W32) (marginOk : Bool) : State :=
  let page := s.norPage
  let sec := page / 1024
  let op := fieldOf v 14 2
  if op = 0 then s
  else if !keyed v 0x4E46 then s.norResult sec 4
  else if op = 3 then s
  else if s.runningBank sec then s.norResult sec 2
  else if (s.erasing sec).isSome || s.boot.prog.isSome then s
  else if op = 1 then s.startErase sec
  else s.startProgram page marginOk

/-- NOR_ERASE (R631). -/
def execNorErase (w : Writer) (value : W32) (s : State) : Res :=
  .next (s.command w Reg.NOR_NCMD value fun s => s.writeNcmd value true)

/-- NOR_ERASE_COMPLETE: the sector is erased and its marker programmed ERASED (R124, R633). -/
def execNorEraseComplete (bankB : Bool) (s : State) : Res :=
  .next <| match s.erasing (if bankB then 0x200 else 0) with
    | none => s
    | some sec => (((s.eraseSector sec).setErase bankB none).norResult sec 1).logEvt 0x022 sec 0x02

/-- NOR_PROGRAM; `marginOk` is what the check of the sector at erase margin finds (R125, R631). -/
def execNorProgram (w : Writer) (value : W32) (marginOk : Bool) (s : State) : Res :=
  .next (s.command w Reg.NOR_NCMD value fun s => s.writeNcmd value marginOk)

/-- NOR_PROGRAM_COMPLETE: the page holds the bytes that NBUF held (R631). -/
def execNorProgramComplete (s : State) : Res :=
  .next <| match s.boot.prog with
    | none => s
    | some p =>
      let s := (List.range 256).foldl (fun s i =>
        if (p.1 * 256 + i) % 0x40000 < 0x3FFF8 then s.setNor (p.1 * 256 + i) 1 ((p.2[i]?).getD 0xFF).toNat else s) s
      ({ s with boot := { s.boot with prog := none } }).norResult (p.1 / 1024) 1

/-! ## Power states (R623 to R625, R632, R633) -/

/-- A power state is entered (R624, R633). -/
def State.enterPower (s : State) (p : PowerState) (code : Nat) : State :=
  ({ s with pwr := { s.pwr with power := p } }).logEvt 0x003 0xFFF 0x30 (BitVec.ofNat 64 code)

/-- A logic domain outside the list of HOLD (R623). -/
def holdSwitches (d : Nat) : Bool := decide (3 ≤ d ∧ d ≤ 23) && !([8, 9, 20, 21].contains d)

/-- RUN to HOLD (R624). DEDUCED: log entry 76. -/
def State.toHold (s : State) : State :=
  let l := (List.range 24).filter fun d => holdSwitches d && s.domState d == 2
  let s := { s with pwr := { s.pwr with holdOff := l } }
  ((l.foldl State.startDrain s).setFld Reg.PWR_PSTATE 0 1 1).enterPower .hold 1

/-- HOLD to RUN: the domains come on again (R624). -/
def State.toRun (s : State) : State :=
  let l := s.pwr.holdOff
  let s := (s.setFld Reg.PWR_PSTATE 0 1 0).enterPower .run 0
  let s := { s with pwr := { s.pwr with holdOff := [] } }
  l.foldl (fun s d => if s.domState d = 0 then s.startRise d else s.holdRequest d 1) s

/-- The logic side is without power, and no reset source is recorded (R624). -/
def State.railsFall (s : State) (p : PowerState) : State :=
  let pins := s.rst.causes.filter (· == 2)
  let s := s.cutProgram.logicReset true true
  { s with pwr := { s.pwr with power := p }, rst := { phase := .asserted, cold := true, causes := pins } }

/-- Entry to SAVE: AON keeps the icons as they are (R595, R622, R624). DEDUCED: log entry 68. -/
def State.enterSave (s : State) : State := (((s.dropLevel 0 6).latchIcons.enterPower .save 2).drainLog).railsFall .save

/-- The start from SAVE or OFF: a POR, with the pin that is low by then (R624, R625, R632). -/
def State.startUp (s : State) (from_ : Nat) : State :=
  let s := { s with pwr := { s.pwr with power := .run } }
  let s := (s.assertReset 0).setFld Reg.PWR_PSTATE 4 2 from_
  if s.rst.causes.contains 2 then s.setFlag Reg.RST_CAUSE 2 true else s

/-- WAKE_REQUEST: nWAKE has been low for its filter's time (R47, R624). -/
def execWakeRequest (s : State) : Res :=
  .next <| match s.pwr.power with
    | .hold => s.toRun
    | .save => s.startUp 1
    | _ => s

/-- The effect of a write of PSREQ (R624, R632). -/
def State.writePsreq (s : State) (v : W32) : State :=
  let t := fieldOf v 0 2
  let stop := s.fld Reg.SYS_BOOT_STAT 28 4 == 6
  let refused := s.logEvt 0x003 0xFFF 0x31 (BitVec.ofNat 64 t)
  if t = 0 then s
  else if !keyed v 0x5053 then refused
  else match s.pwr.power, t with
    | .hold, 1 => s.toRun
    | .run, 2 => if stop then s.toHold else refused
    | .run, 3 => if stop then s.enterSave else refused
    | .hold, 3 => s.enterSave
    | _, _ => refused

/-- A write of PSREQ with a key and a target. -/
def State.requestPower (s : State) (w : Writer) (key : BitVec 16) (t : Nat) : State :=
  let v : W32 := key ++ BitVec.ofNat 16 t
  s.command w Reg.PWR_PSREQ v fun s => s.writePsreq v

/-- PSREQ_RUN (R624). -/
def execPsreqRun (w : Writer) (key : BitVec 16) (s : State) : Res := .next (s.requestPower w key 1)

/-- PSREQ_HOLD (R624). -/
def execPsreqHold (w : Writer) (key : BitVec 16) (s : State) : Res := .next (s.requestPower w key 2)

/-- PSREQ_SAVE (R624). -/
def execPsreqSave (w : Writer) (key : BitVec 16) (s : State) : Res := .next (s.requestPower w key 3)

end Sys2Proof.Machine
end

