-- ==== Sys2Proof/Machine/Rtc.lean ====
section
/-! DEFINITION. The real-time clock, its backup and the changes of AON's supply (spec/22, R569 to R577, R584, R586; R624). -/

namespace Sys2Proof.Machine

/-- An event of the RTC page. -/
def State.logRtc (s : State) (cause : Nat) (data : W64 := 0) : State := s.logEvt 0x0F8 0xFFF cause data

/-- The logic side runs and records events (R571, R572). -/
def State.logicOn' (s : State) : Bool := s.rst.phase == .running && !s.unpowered

/-! ## The calendar (R569) -/

/-- A year of the Gregorian calendar has a 29 February. -/
def leapYear (y : Nat) : Bool := y % 4 == 0 && (y % 100 != 0 || y % 400 == 0)

/-- The days of a month, 1 to 12. -/
def monthDays (y m : Nat) : Nat :=
  match m with
  | 2 => if leapYear y then 29 else 28
  | 4 | 6 | 9 | 11 => 30
  | _ => 31

/-- A calendar date and time. -/
structure Calendar where
  year : Nat
  month : Nat
  day : Nat
  hour : Nat
  min : Nat
  sec : Nat
deriving DecidableEq, Repr

/-- The days from 2000-01-01 to a date. -/
def dayNumber (y m d : Nat) : Nat :=
  ((List.range (y - 2000)).map fun i => if leapYear (2000 + i) then 366 else 365).sum
    + ((List.range (m - 1)).map fun i => monthDays y (i + 1)).sum + (d - 1)

/-- WDAY of a date: 0 Monday to 6 Sunday; 2000-01-01 is a Saturday (R584). -/
def weekday (y m d : Nat) : Nat := (dayNumber y m d + 5) % 7

/-- Seconds from 2000-01-01 00:00:00 to a date and time. -/
def Calendar.seconds (c : Calendar) : Nat := dayNumber c.year c.month c.day * 86400 + c.hour * 3600 + c.min * 60 + c.sec

/-- Peel years off a number of days from the start of year `y`; at most `fuel` of them. -/
def takeYears : Nat → Nat → Nat → Nat × Nat
  | 0, y, n => (y, n)
  | fuel + 1, y, n =>
    let len := if leapYear y then 366 else 365
    if n < len then (y, n) else takeYears fuel (y + 1) (n - len)

/-- Peel months off a number of days from the start of month `m`. -/
def takeMonths : Nat → Nat → Nat → Nat → Nat × Nat
  | 0, _, m, n => (m, n)
  | fuel + 1, y, m, n => if n < monthDays y m then (m, n) else takeMonths fuel y (m + 1) (n - monthDays y m)

/-- The date and time that lie a number of seconds after 2000-01-01 00:00:00; none after 2199. -/
def calendarAt (sec : Nat) : Option Calendar :=
  let d := sec / 86400
  if dayNumber 2200 1 1 ≤ d then none
  else
    let y := takeYears 200 2000 d
    let m := takeMonths 12 y.1 1 y.2
    some { year := y.1, month := m.1, day := m.2 + 1, hour := sec % 86400 / 3600, min := sec % 3600 / 60, sec := sec % 60 }

/-- A date and time that exists and that the RTC holds (R569, R574). -/
def Calendar.ok (c : Calendar) : Bool :=
  decide (2000 ≤ c.year ∧ c.year ≤ 2199 ∧ 1 ≤ c.month ∧ c.month ≤ 12) && decide (1 ≤ c.day ∧ c.day ≤ monthDays c.year c.month)
    && decide (c.hour ≤ 23 ∧ c.min ≤ 59 ∧ c.sec ≤ 59)

/-! ## The live time -/

/-- The live date and time (R584). -/
def State.rtcNow (s : State) : Calendar :=
  { year := s.fld Reg.RTC_TIME6 0 16, month := s.fld Reg.RTC_TIME5 0 4, day := s.fld Reg.RTC_TIME4 0 5
    hour := s.fld Reg.RTC_TIME3 0 5, min := s.fld Reg.RTC_TIME2 0 6, sec := s.fld Reg.RTC_TIME1 0 6 }

/-- The live time in 1/32 768 s since 2000-01-01 00:00:00 (R582). -/
def State.rtcTicks (s : State) : Nat := s.rtcNow.seconds * 32768 + s.fld Reg.RTC_TIME0 0 15

/-- The live date and time take a value (R569, R584). -/
def State.setRtc (s : State) (c : Calendar) (frac : Nat) : State :=
  let s := (s.setFld Reg.RTC_TIME0 0 15 frac).setFld Reg.RTC_TIME1 0 6 c.sec
  let s := (s.setFld Reg.RTC_TIME2 0 6 c.min).setFld Reg.RTC_TIME3 0 5 c.hour
  let s := (s.setFld Reg.RTC_TIME4 0 5 c.day).setFld Reg.RTC_TIME5 0 4 c.month
  (s.setFld Reg.RTC_TIME6 0 16 c.year).setFld Reg.RTC_TIME7 0 3 (weekday c.year c.month c.day)

/-- One crystal cycle: the time counts, and wraps after 2199 (R569). -/
def State.rtcCount (s : State) : State :=
  let f := s.fld Reg.RTC_TIME0 0 15
  if f < 32767 then s.setFld Reg.RTC_TIME0 0 15 (f + 1)
  else
    let c := (calendarAt (s.rtcNow.seconds + 1)).getD { year := 2000, month := 1, day := 1, hour := 0, min := 0, sec := 0 }
    s.setRtc c 0

/-! ## The oscillator, the crystal and the cell (R571, R572) -/

/-- OSF takes a value, with the tag of TIME7 and its copy (R571, R584). -/
def State.setOsf (s : State) (on : Bool) : State :=
  let s := (s.setFlag Reg.RTC_TIME7 8 on).setFld Reg.RTC_TIME7 24 8 (if on then 0xB8 else 0)
  s.setFlag Reg.RTC_RTC_STAT 0 on

/-- OSCILLATOR_STOPPED (R571). -/
def execOscillatorStopped (s : State) : Res :=
  .next <|
    if s.flag Reg.RTC_TIME7 8 then s
    else
      let s := s.setOsf true
      if s.logicOn' then (s.setEvt Reg.RTC_RTC_EVT 0).logRtc 0x01 else s

/-- RTC_FREQ_WINDOW: `ppm` is the signed deviation of the crystal over the window (R572). DEDUCED: log entry 75. -/
def execRtcFreqWindow (ppm : BitVec 16) (s : State) : Res :=
  .next <|
    if !s.logicOn' then s
    else if 200 < ppm.toInt ∨ ppm.toInt < -200 then
      ((s.setFlag Reg.RTC_RTC_STAT 3 true).setEvt Reg.RTC_RTC_EVT 3).logRtc 0x08 (ppm.signExtend 64)
    else s.setFlag Reg.RTC_RTC_STAT 3 false

/-- ST of the cell by its filtered voltage in mV: 0 OK, 1 LOW, 2 EMPTY, 3 MISSING (R572). -/
def cellState (mv : Nat) : Nat := if 2600 ≤ mv then 0 else if 2300 ≤ mv then 1 else if 500 ≤ mv then 2 else 3

/-- The tag of a cell state (R584). -/
def cellTag (st : Nat) : Tag :=
  match st with
  | 0 => 0
  | 1 => mkTag 1 1
  | 4 => 0xD8
  | _ => mkTag 2 1

/-- The cell takes a state; a change is logged (R572, R586). -/
def State.setCell (s : State) (st mv : Nat) : State :=
  let was := s.fld Reg.RTC_CELL 16 3
  let s := (s.setFld Reg.RTC_CELL 16 3 st).setFld Reg.RTC_CELL 24 8 (cellTag st).toNat
  if was = st then s
  else
    let s := s.setEvt Reg.RTC_RTC_EVT 2
    match st with
    | 0 => s.logRtc 0x06 (BitVec.ofNat 64 mv)
    | 1 => s.logRtc 0x04 (BitVec.ofNat 64 mv)
    | n => s.logRtc 0x05 (BitVec.ofNat 64 n)

/-- CELL_MEASUREMENT: `mv` is a reading of the cell under load (R572). -/
def execCellMeasurement (mv : BitVec 16) (s : State) : Res :=
  .next <|
    if !s.logicOn' then s
    else
      let l := s.aon.cell ++ [mv.toNat]
      let l := l.drop (l.length - 8)
      let mean := l.sum / l.length
      let s := ({ s with aon := { s.aon with cell := l } }).setFld Reg.RTC_CELL 0 16 mean
      s.setCell (cellState mean) mean

/-- CELL_MONFAULT: no reading for 3 s (R572). -/
def execCellMonfault (s : State) : Res :=
  .next (if s.logicOn' then ({ s with aon := { s.aon with cell := [] } }).setCell 4 0 else s)

/-! ## Reading (R573) -/

/-- The shadow of a master. -/
def State.rtcShadow (s : State) (m : Master) : Option (List W32) := sget (dflt none) s.aon.shadows m.num

/-- A master holds a shadow, or none. DEDUCED: log entry 76. -/
def State.setShadow (s : State) (m : Master) (x : Option (List W32)) : State :=
  { s with aon := { s.aon with shadows := sset (dflt none) s.aon.shadows m.num x } }

/-- A read of RTC.TIME0: a new shadow (R573). -/
def State.readTime0 (s : State) (m : Master) : State :=
  (s.setShadow m (some ((List.range 8).map fun k => s.reg (Reg.RTC_TIME0 + 4 * k)))).respondData ((s.reg Reg.RTC_TIME0).setWidth 64)

/-- RTC_TIME0_READ (R573). -/
def execRtcTime0Read (m : Master) (s : State) : Res := .next (s.readAccess m 0x0F8 0x100 fun s => s.readTime0 m)

/-- RTC_SHADOW_EXPIRY: 164 crystal cycles have passed (R573). -/
def execRtcShadowExpiry (m : Master) (s : State) : Res := .next (s.setShadow m none)

/-! ## Setting (R574, R575) -/

/-- What a WTIME register stores of a written value (R584). -/
def wtimeMask (k : Nat) : W32 :=
  match k with
  | 1 | 2 => 0x3F
  | 3 | 4 => 0x1F
  | 5 => 0xF
  | _ => 0xFFFF

/-- The staged date and time (R574). -/
def State.staged (s : State) : Calendar :=
  let w := fun k => (s.reg (Reg.RTC_WTIMEk + 4 * (k - 1)) &&& wtimeMask k).toNat
  { year := w 6, month := w 5, day := w 4, hour := w 3, min := w 2, sec := w 1 }

/-- A commit of the staged time takes effect (R574, R586). -/
def State.commitTime (s : State) : State :=
  let c := s.staged
  if c.ok then
    let diff : Int := s.rtcTicks - (c.seconds * 32768 : Nat)
    ((((s.setRtc c 0).setOsf false).setFlag Reg.RTC_RTC_STAT 2 false).setEvt Reg.RTC_RTC_EVT 1).logRtc 0x02 (BitVec.ofInt 64 diff)
  else ((s.setFlag Reg.RTC_RTC_STAT 2 true).setEvt Reg.RTC_RTC_EVT 1).logRtc 0x03

/-- A commit waits for the next crystal cycle (R574). -/
def State.askCommit (s : State) : State := { s with aon := { s.aon with commit := true } }

/-- A crystal cycle ends: a commit that waits stands in place of the count (R569, R574). -/
def State.rtcCycle (s : State) : State :=
  if s.aon.commit then ({ s with aon := { s.aon with commit := false } }).commitTime else s.rtcCount

/-- The effect of a write of RTC.SET (R574). -/
def State.writeRtcSet (s : State) (v : W32) : State :=
  if !v.getLsbD 0 then s else if keyed v 0x5443 then s.askCommit else s.logRtc 0x03

/-- RTC_SET (R574). -/
def execRtcSet (w : Writer) (value : W32) (s : State) : Res :=
  .next (s.command w Reg.RTC_SET value fun s => s.writeRtcSet value)

/-- A date and time is staged. -/
def State.stage (s : State) (c : Calendar) : State :=
  let put := fun (s : State) (k n : Nat) => s.setReg (Reg.RTC_WTIMEk + 4 * (k - 1)) (BitVec.ofNat 32 n)
  put (put (put (put (put (put s 1 c.sec) 2 c.min) 3 c.hour) 4 c.day) 5 c.month) 6 c.year

/-- STATE of the source of OTS: LOCKED (R553, R566). -/
def State.otsLocked (s : State) : Bool :=
  s.fld (Reg.TIME_DC_CTRLn + 4 * s.fld Reg.TIME_OTS_CTRL 24 1) 30 2 == 2

/-- Seconds from 1970-01-01 to 2000-01-01. -/
def epochOffset : Nat := 946684800

/-- RTC_SET_FROM_OTS: the runtime finds OSF at 1 and OTS LOCKED and sets the time, with the domain's currentUtcOffset (R575). -/
def execRtcSetFromOts (utcOffset : BitVec 16) (s : State) : Res :=
  .next <|
    if s.logicOn' && s.flag Reg.RTC_TIME7 8 && s.otsLocked then
      let sec : Int := (s.otsNs.toNat / 1000000000 : Nat) - utcOffset.toInt - (epochOffset : Nat)
      match (if sec < 0 then none else calendarAt sec.toNat) with
      | some c => (s.stage c).askCommit
      | none => s
    else s

/-! ## Backup (R570, R576, R624) -/

/-- The effect of a write of BKSW3 (R576). -/
def State.writeBksw3 (s : State) (v : W32) : State :=
  if v.getLsbD 30 then (s.setFlag Reg.RTC_BKSW3 31 false).setFld Reg.RTC_BKSW3 0 16 0 else s

/-- BACKUP_RECORD_CLEAR (R576). -/
def execBackupRecordClear (w : Writer) (value : W32) (s : State) : Res :=
  .next (s.command w Reg.RTC_BKSW3 value fun s => s.writeBksw3 value)

/-- AON records a switch-over (R576, R584). -/
def State.recordSwitch (s : State) : State :=
  let c := s.rtcNow
  let s :=
    if s.flag Reg.RTC_BKSW3 31 then s
    else
      let s := s.setReg Reg.RTC_BKSW0 (BitVec.ofNat 32 (c.year * 65536 + c.month * 256 + c.day))
      let s := s.setReg Reg.RTC_BKSW1 (BitVec.ofNat 32 (c.hour * 65536 + c.min * 256 + c.sec))
      (s.setReg Reg.RTC_BKSW2 (BitVec.ofNat 32 (s.fld Reg.RTC_TIME0 0 15))).setFlag Reg.RTC_BKSW3 31 true
  s.countSat Reg.RTC_BKSW3 0 16 1

/-- AON_BACKUP_SWITCH: the logic supply is lost; BOR is asserted if it is not already, and the module is in OFF (R570, R576,
R624). -/
def execAonBackupSwitch (s : State) : Res :=
  .next <|
    if s.pwr.power == .off then s
    else
      let save := s.pwr.power == .save
      let s := if save || s.rst.causes.contains 1 then s else s.assertReset 1
      (((s.setFlag Reg.PWR_PSTATE 8 save).recordSwitch).railsFall .off).setFlag Reg.DISP_SL_STAT 15 false

/-- AON_BACKUP_EXHAUSTED: AON stops (R570). -/
def execAonBackupExhausted (s : State) : Res :=
  .next (if s.pwr.power == .off then { s with aon := { s.aon with stopped := true } } else s)

/-- A register's kept bits show fuses, which nothing resets. -/
def fuseReg (k : Nat) : Bool := k / 4096 == 0x004 || k / 4096 == 0x005 || k / 4096 == 0x0F0 || k / 4096 == 0x0F1

/-- AON_POWER_ON: every Kept field takes its AON power-on value, OSF among them (R570, R571). -/
def execAonPowerOn (s : State) : Res :=
  .next <|
    if s.aon.stopped then
      { s with
        regs := s.regs.filter fun e => fuseReg e.1 || keptMask e.1 == 0
        frozen := s.frozen.filter fun e => fuseReg e.1 || keptMask e.1 == 0
        aon := {} }
    else s

/-- LOGIC_SUPPLY_RETURN: a feed has stayed above 18.0 V for 10 ms; AON leaves its backup (R624, R632). -/
def execLogicSupplyReturn (s : State) : Res :=
  .next <|
    if s.pwr.power == .off && !s.aon.stopped then
      if s.flag Reg.PWR_PSTATE 8 then { s with pwr := { s.pwr with power := .save } } else s.startUp 0
    else s

/-- SUPERCAPACITOR_FULL: the logic supply has been present for 60 s (R570, R584). -/
def execSupercapacitorFull (s : State) : Res :=
  .next (if s.logicOn' then s.setFlag Reg.RTC_RTC_STAT 1 true else s)

end Sys2Proof.Machine
end

