-- ==== Sys2Proof/Machine/Time.lean ====
section
/-! DEFINITION. Network time (spec/21): the domain clocks, the output timescale, their tick, the time service, the pulses TPO and
TPI. -/

namespace Sys2Proof.Machine

/-! ## The domain clocks (R548 to R550) -/

/-- INC and PEND of DCn. -/
def State.dcInc (s : State) (n : Nat) : W64 := if n = 0 then s.time.inc0 else s.time.inc1
def State.dcPend (s : State) (n : Nat) : Int := if n = 0 then s.time.pend0 else s.time.pend1
/-- DCn, 64.32 ns. -/
def State.dc (s : State) (n : Nat) : BitVec 96 := if n = 0 then s.time.dc0 else s.time.dc1
/-- The step that SET_LO has asked for. -/
def State.dcSet (s : State) (n : Nat) : Option W64 := if n = 0 then s.time.set0 else s.time.set1

/-- Store parts of a domain clock. -/
def State.putInc (s : State) (n : Nat) (v : W64) : State :=
  { s with time := if n = 0 then { s.time with inc0 := v } else { s.time with inc1 := v } }
def State.putPend (s : State) (n : Nat) (v : Int) : State :=
  { s with time := if n = 0 then { s.time with pend0 := v } else { s.time with pend1 := v } }
def State.putDc (s : State) (n : Nat) (v : BitVec 96) : State :=
  { s with time := if n = 0 then { s.time with dc0 := v } else { s.time with dc1 := v } }
def State.putSet (s : State) (n : Nat) (v : Option W64) : State :=
  { s with time := if n = 0 then { s.time with set0 := v } else { s.time with set1 := v } }

/-- The key of a register of DCn (R567). -/
def dcKey (r n : Nat) : Nat := r + 0x20 * n

/-- STATE of DCn: 0 FREE, 1 ACQUIRING, 2 LOCKED, 3 HOLDOVER. -/
def State.dcState (s : State) (n : Nat) : Nat := s.fld (Reg.TIME_DC_CTRLn + 4 * n) 30 2

/-- The servo watchdog of DCn starts again (R550). -/
def State.restartServo (s : State) (n : Nat) : State :=
  { s with time := if n = 0 then { s.time with wd0 := s.time.ltb } else { s.time with wd1 := s.time.ltb } }

/-- LTB ticks since the servo watchdog of DCn last started again (R550). -/
def State.servoRun (s : State) (n : Nat) : Nat := (s.time.ltb - if n = 0 then s.time.wd0 else s.time.wd1).toNat

/-- The watchdog runs from the change on where STATE becomes ACQUIRING or LOCKED from another state (R550). DEDUCED: log entry 145. -/
def State.servoStarts (s : State) (n was now : Nat) : State :=
  if (was = 0 ∨ was = 3) ∧ (now = 1 ∨ now = 2) then s.restartServo n else s

/-- The source of OTS (R551). -/
def State.otsSrc (s : State) : Nat := s.fld Reg.TIME_OTS_CTRL 24 1

/-- A signed number of ns as a 32-bit field that saturates. -/
def satNs (v : Int) : W32 := BitVec.ofInt 32 (max (-2147483648) (min 2147483647 v))

/-- DC of the source minus OTS in ns (R567). -/
def State.otsDiff (s : State) : Int := (s.dc s.otsSrc - s.time.ots).toInt / 2 ^ 32

/-- SRC takes a value (R412, R553). -/
def State.switchSrc (s : State) (n : Nat) : State :=
  if n = s.otsSrc then s
  else
    let s := (s.setFld Reg.TIME_OTS_CTRL 24 1 n).setEvt Reg.TIME_TIME_EVT 2
    (s.logTime 0xFFF 0x05 ((satNs s.otsDiff).setWidth 64 <<< 32 ||| BitVec.ofNat 64 n)).snapDomainChange

/-- The automatic switch when the source leaves LOCKED (R553). -/
def State.autoSwitch (s : State) (n : Nat) : State :=
  if s.flag Reg.TIME_OTS_CTRL 31 && s.otsSrc == n && s.dcState (1 - n) == 2 then s.switchSrc (1 - n) else s

/-- STATE of DCn takes a value; the change is logged, and may switch the source of OTS (R550, R553, R568). -/
def State.setDcState (s : State) (n st : Nat) : State :=
  let was := s.dcState n
  if was = st then s
  else
    let s := ((s.setFld (Reg.TIME_DC_CTRLn + 4 * n) 30 2 st).servoStarts n was st).logTime n 0x01 (BitVec.ofNat 64 (was * 256 + st))
    if was = 2 then s.autoSwitch n else s

/-- The ends of the range of INC: 7.996 ns and 8.004 ns in 32.32 (R549). -/
def incMin : Nat := (7996 * 2 ^ 32 + 999) / 1000
def incMax : Nat := 8004 * 2 ^ 32 / 1000

/-- INC as stored: clamped to its range (R549). DEDUCED: log entry 77. -/
def incStored (v : W64) : W64 := BitVec.ofNat 64 (max incMin (min incMax v.toNat))

/-- INC of DCn takes a value from software (R549, R550). -/
def State.writeInc (s : State) (n : Nat) (v : W64) : State :=
  let c := incStored v
  let s := ((s.restartServo n).putInc n c).setReg (dcKey Reg.TIME_DCn_INC_LO n) (c.setWidth 32)
  let s := s.setReg (dcKey Reg.TIME_DCn_INC_HI n) ((c >>> 32).setWidth 32)
  if c = v then s else s.logTime n 0x04 v

/-- A write of DCn_INC_LO (R549). -/
def State.writeIncLo (s : State) (n : Nat) (v : W32) : State := s.writeInc n ((s.reg (dcKey Reg.TIME_DCn_INC_HI n)) ++ v)

/-- DC_INC_WRITE (R549). -/
def execDcIncWrite (w : Writer) (n : Fin 2) (value : W32) (s : State) : Res :=
  .next (s.command w (dcKey Reg.TIME_DCn_INC_LO n.val) value fun s => s.writeIncLo n.val value)

/-- PEND of DCn takes a value in 2^−32 ns, saturated at ±(2^31 − 1) ns, and shows (R549, R567). -/
def State.showPend (s : State) (n : Nat) (v : Int) : State :=
  let lim : Int := 2147483647 * 2 ^ 32
  let v := max (-lim) (min lim v)
  (s.putPend n v).setReg (dcKey Reg.TIME_DCn_PEND n) (BitVec.ofInt 32 (v / 2 ^ 32))

/-- A write of DCn_SLEW; it is discarded where a SET acts at the same tick (R549, R550). -/
def State.writeSlew (s : State) (n : Nat) (v : W32) : State :=
  let s := s.restartServo n
  if (s.dcSet n).isSome then s else s.showPend n (s.dcPend n + v.toInt * 2 ^ 32)

/-- DC_SLEW (R549). -/
def execDcSlew (w : Writer) (n : Fin 2) (value : W32) (s : State) : Res :=
  .next (s.command w (dcKey Reg.TIME_DCn_SLEW n.val) value fun s => s.writeSlew n.val value)

/-- DCn is to be stepped at the next tick (R549, R550). -/
def State.stepDc (s : State) (n : Nat) (v : W64) : State := (s.restartServo n).putSet n (some v)

/-- A write of DCn_SET_LO: the step acts at the next tick (R549). -/
def State.writeSetLo (s : State) (n : Nat) (v : W32) : State := s.stepDc n ((if n = 0 then s.time.setHi0 else s.time.setHi1) ++ v)

/-- A write of DCn_SET_HI. -/
def State.writeSetHi (s : State) (n : Nat) (v : W32) : State :=
  { s with time := if n = 0 then { s.time with setHi0 := v } else { s.time with setHi1 := v } }

/-- DC_SET (R549). -/
def execDcSet (w : Writer) (n : Fin 2) (value : W32) (s : State) : Res :=
  .next (s.command w (dcKey Reg.TIME_DCn_SET_LO n.val) value fun s => s.writeSetLo n.val value)

/-- The effect of a write of DC_KICK: bit n starts the watchdog of DCn again (R550). -/
def State.kickServo (s : State) (v : W32) : State :=
  let s := if v.getLsbD 0 then s.restartServo 0 else s
  if v.getLsbD 1 then s.restartServo 1 else s

/-- DC_KICK (R550). -/
def execDcKick (w : Writer) (value : W32) (s : State) : Res :=
  .next (s.command w Reg.TIME_DC_KICK value fun s => s.kickServo value)

/-- WD of DCn in LTB ticks, 0 where it is disabled (R550). -/
def State.servoLimit (s : State) (n : Nat) : Nat := s.fld (Reg.TIME_DC_CTRLn + 4 * n) 0 16 * 1250000

/-- SERVO_WATCHDOG_EXPIRY: WD × 10 ms have passed without a restart (R550). -/
def execServoWatchdogExpiry (n : Fin 2) (s : State) : Res :=
  .next <|
    let k := n.val
    if s.servoLimit k ≠ 0 ∧ s.servoLimit k ≤ s.servoRun k ∧ (s.dcState k = 1 ∨ s.dcState k = 2) then
      ((s.setEvt Reg.TIME_TIME_EVT k).logTime k 0x02).setDcState k 3
    else s

/-- What DC_CTRLn stores of a written value (R567). -/
def dcCtrlStored (v : W32) : W32 :=
  let p := fieldOf v 20 10
  if p = 0 then withField v 20 10 1 else if 1000 < p then withField v 20 10 1000 else v

/-- The effect of a write of DC_CTRLn (R550). -/
def State.writeDcCtrl (s : State) (w : Writer) (n : Nat) (v : W32) : State :=
  let was := s.dcState n
  let s := s.fieldWrite w 0x0F2 (0x150 + 4 * n) v (dcCtrlStored v)
  let now := s.dcState n
  if now = was then s
  else
    let s := (s.servoStarts n was now).logTime n 0x01 (BitVec.ofNat 64 (was * 256 + now))
    if was = 2 then s.autoSwitch n else s

/-! ## The output timescale (R552, R553) -/

/-- What OTS_CTRL stores of a written value, SRC apart (R567). -/
def otsCtrlStored (v : W32) : W32 :=
  let p := fieldOf v 16 7
  if p = 0 then withField v 16 7 1 else if 50 < p then withField v 16 7 50 else v

/-- The effect of a write of OTS_CTRL (R553). DEDUCED: log entry 77. -/
def State.writeOtsCtrl (s : State) (w : Writer) (v : W32) : State :=
  let src := s.otsSrc
  let s := s.fieldWrite w 0x0F2 0x168 v (withField (otsCtrlStored v) 24 1 src)
  s.switchSrc (fieldOf v 24 1)

/-- OTS_SOURCE_SWITCH: a write of OTS_CTRL (R553); the automatic switch takes place where the source leaves LOCKED. -/
def execOtsSourceSwitch (w : Writer) (value : W32) (s : State) : Res :=
  .next (s.access w 0x0F2 0x168 value fun s => s.writeOtsCtrl w value)

/-- The difference that OTS is to absorb at the next tick, in 2^−32 ns (R548). -/
def State.otsGap (s : State) (dc : BitVec 96) : Int := (dc - (s.time.ots + (s.dcInc s.otsSrc).setWidth 96)).toInt

/-- STEP_LIM in 2^−32 ns (R548). -/
def State.stepLimit (s : State) : Nat := (s.reg Reg.TIME_OTS_STEP).toNat * 1000 * 2 ^ 32

/-- OTS steps to its source (R412, R552, R568). -/
def State.stepOts (s : State) (dc : BitVec 96) (gap : Int) : State :=
  let old := s.otsNs
  let s := ({ s with time := { s.time with ots := dc } }).setEvt Reg.TIME_TIME_EVT 3
  (s.logTime 0xFFF 0x06 (BitVec.ofInt 64 (gap / 2 ^ 32))).snapStep old s.otsNs

/-- SLEWING follows the difference; its end is logged (R552). -/
def State.slewing (s : State) (on : Bool) : State :=
  let was := s.flag Reg.TIME_OTS_STAT 31
  let s := s.setFlag Reg.TIME_OTS_STAT 31 on
  if was && !on then (s.setEvt Reg.TIME_TIME_EVT 4).logTime 0xFFF 0x07 else s

/-- OTS_ABSORB_COMPLETE: the difference has fallen below 1 ns (R552). -/
def execOtsAbsorbComplete (s : State) : Res :=
  .next (if (s.dc s.otsSrc - s.time.ots).toInt.natAbs < 2 ^ 32 then s.slewing false else s)

/-! ## The tick (R547, R548) -/

/-- The greatest change in a tick at `ppm`, in 2^−32 ns (R548). -/
def rmax (ppm : Nat) : Nat := 8 * ppm * 2 ^ 32 / 1000000

/-- The sign of a number, times an amount. -/
def signed (v : Int) (r : Nat) : Int := if v < 0 then -(r : Nat) else (r : Nat)

/-- A tick of DCn (R548). -/
def State.tickDc (s : State) (n : Nat) : State :=
  match s.dcSet n with
  | some v =>
    let new : BitVec 96 := v ++ 0#32
    let step : Int := (new - s.dc n).toInt / 2 ^ 32
    ((((s.putDc n new).putSet n none).showPend n 0)).logTime n 0x03 (BitVec.ofInt 64 step)
  | none =>
    let p := s.dcPend n
    let r := min p.natAbs (rmax (s.fld (Reg.TIME_DC_CTRLn + 4 * n) 20 10))
    let s := s.putDc n (s.dc n + (s.dcInc n).setWidth 96 + BitVec.ofInt 96 (signed p r))
    if p = 0 then s else s.showPend n (p - signed p r)

/-- A tick of OTS (R548, R552). -/
def State.tickOts (s : State) : State :=
  let dc := s.dc s.otsSrc
  let d := s.otsGap dc
  if s.stepLimit < d.natAbs then s.stepOts dc d
  else
    let r := min d.natAbs (rmax (s.fld Reg.TIME_OTS_CTRL 16 7))
    let s := { s with time := { s.time with ots := s.time.ots + (s.dcInc s.otsSrc).setWidth 96 + BitVec.ofInt 96 (signed d r) } }
    s.slewing (decide (2 ^ 32 ≤ d.natAbs - r))

/-- OTS_DIFF and the registers of the clocks show their values (R567). -/
def State.showTime (s : State) : State :=
  let s := s.setReg Reg.TIME_OTS_DIFF (satNs s.otsDiff)
  let s := (s.setReg64 Reg.TIME_LTB_LO s.time.ltb).setReg64 Reg.TIME_OTS_LO s.otsNs
  (s.setReg64 (dcKey Reg.TIME_DCn_LO 0) (s.dcNs 0)).setReg64 (dcKey Reg.TIME_DCn_LO 1) (s.dcNs 1)

/-- TPO may pulse: enabled, qualified, and the module drives it (R58, R563). -/
def State.tpoOn (s : State) : Bool :=
  s.flag Reg.TIME_TPO_CFG 31 && (!s.flag Reg.TIME_TPO_CFG 30 || s.otsLocked) && (s.role == 1 || s.role == 2)

/-- OTS passes a whole second: a pulse of WIDTH µs begins (R563). -/
def State.secondPulse (s : State) : State :=
  if s.tpoOn then
    { s with time := { s.time with tpo := true, tpoEnd := s.time.ltb + BitVec.ofNat 64 (s.fld Reg.TIME_TPO_CFG 0 19 * 125) } }
  else s

/-- A pulse begins where OTS has passed a whole second since it stood at `before` (R563). -/
def State.pulseSince (s : State) (before : W64) : State :=
  if before.toNat / 1000000000 < s.otsNs.toNat / 1000000000 then s.secondPulse else s

/-- OTS_STEP: the difference to the source is above STEP_LIM; a step across whole seconds gives one pulse (R552, R563). -/
def execOtsStep (s : State) : Res :=
  .next <|
    let dc := s.dc s.otsSrc
    if s.stepLimit < (s.otsGap dc).natAbs then
      (((s.stepOts dc (s.otsGap dc)).setFlag Reg.TIME_OTS_STAT 31 false).showTime).pulseSince s.otsNs
    else s

/-- One CLK_NET tick of the time bases (R547, R548, R563). -/
def State.tickTime (s : State) : State :=
  let t := { s with time := { s.time with ltb := s.time.ltb + 1 } }
  ((((t.tickDc 0).tickDc 1).tickOts).showTime).pulseSince s.otsNs

/-! ## The time service (R551) -/

/-- Offsets in a row below 1 µs. -/
def State.goodRun (s : State) (n : Nat) : Nat := if n = 0 then s.time.good0 else s.time.good1
def State.setGood (s : State) (n v : Nat) : State :=
  { s with time := if n = 0 then { s.time with good0 := v } else { s.time with good1 := v } }

/-- STATE by an offset in ns: LOCKED after sixteen below 1 µs, ACQUIRING above 10 µs (R551). -/
def State.serviceState (s : State) (n : Nat) (offset : Int) : State :=
  let run := if offset.natAbs < 1000 then s.goodRun n + 1 else 0
  let s := s.setGood n run
  if 16 ≤ run then s.setDcState n 2
  else if 10000 < offset.natAbs ∨ s.dcState n = 0 ∨ s.dcState n = 3 then s.setDcState n 1
  else s

/-- A mean path delay of DCn has been measured, or is taken as measured. -/
def State.delayKnown (s : State) (n : Nat) : Bool := if n = 0 then s.time.delay0 else s.time.delay1
def State.setDelay (s : State) (n : Nat) : State :=
  { s with time := if n = 0 then { s.time with delay0 := true } else { s.time with delay1 := true } }

/-- The service has a path delay: the link delay in P2P mode, and otherwise one that it measures now, unless R467 or R473 keeps it from
sending Delay_Req, or has measured (R551). -/
def State.delayHad (s : State) (n : Nat) : Bool :=
  s.flag Reg.TIME_TC_CFG 30 || !(s.pair.verdict || s.silent) || s.delayKnown n

/-- TIME_SERVICE_SYNC: the service has computed the offset of DCn in ns, DCn minus its master, and the INC it gives it; it steps the clock or
steers it. Without a path delay the clock is FREE (R551). -/
def execTimeServiceSync (n : Fin 2) (offset rate : W64) (s : State) : Res :=
  .next <|
    let k := n.val
    let o := offset.toInt
    if !s.flag (Reg.TIME_DOM_CFGn + 4 * k) 31 then s
    else if !s.delayHad k then s.setDcState k 0
    else
      let s := if s.flag Reg.TIME_TC_CFG 30 then s else s.setDelay k
      let s :=
        if 1000000 < o.natAbs then s.stepDc k (s.dcNs k - offset)
        else (s.writeInc k rate).writeSlew k (satNs (-o))
      s.serviceState k o

/-- ANNOUNCE_TIMEOUT: the master's announceReceiptTimeout has expired and no other master qualifies (R551). -/
def execAnnounceTimeout (n : Fin 2) (s : State) : Res :=
  .next (if s.flag (Reg.TIME_DOM_CFGn + 4 * n.val) 31 then (s.setGood n.val 0).setDcState n.val 3 else s)

/-! ## Domains, FIFOs and the link delay (R556, R560) -/

/-- The effect of a write of DOM_CFGn: two enabled domains never share NUM and SDO (R556). -/
def State.writeDomCfg (s : State) (w : Writer) (n : Nat) (v : W32) : State :=
  let s := s.fieldWrite w 0x0F2 (0x1A0 + 4 * n) v v
  let a := s.reg (Reg.TIME_DOM_CFGn + 4 * n)
  if a.getLsbD 31 && a == s.reg (Reg.TIME_DOM_CFGn + 4 * (1 - n)) then
    (s.setFlag (Reg.TIME_DOM_CFGn + 4 * n) 31 false).logTime n 0x0E (BitVec.ofNat 64 (fieldOf a 0 8))
  else s

/-- DOM_CFG_WRITE (R556). -/
def execDomCfgWrite (w : Writer) (n : Fin 2) (value : W32) (s : State) : Res :=
  .next (s.access w 0x0F2 (0x1A0 + 4 * n.val) value fun s => s.writeDomCfg w n.val value)

/-- The effect of a write of TSFn_POP (R556). -/
def State.popTsf (s : State) (n : Nat) (v : W32) : State :=
  if v.getLsbD 0 then s.setTsf n (s.tsf n).tail (s.tsfDrop n && (s.tsf n).isEmpty) else s

/-- TSF_POP (R556). -/
def execTsfPop (w : Writer) (n : Fin 2) (value : W32) (s : State) : Res :=
  .next (s.command w (Reg.TIME_TSFn_POP + 0x20 * n.val) value fun s => s.popTsf n.val value)

/-- PDELAY_REQ_SEND: a port sends a Pdelay_Req; after three unanswered ones the link delay is not valid (R560). -/
def execPdelayReqSend (port : Fin 4) (s : State) : Res :=
  .next <|
    let k := port.val
    let s := s.noneSent
    if !s.flag Reg.TIME_TC_CFG 30 || !s.ethOn (k / 2) then s
    else
      let s := s.sendPdelay (k / 2) (k % 2) (((s.portDelay k).seq + 1) % 65536)
      let x := s.portDelay k
      let missed := if x.open_ then x.missed + 1 else 0
      let r := Reg.TIME_PORT_LDLYk + 4 * k
      let lost := decide (3 ≤ missed) && s.flag r 31
      let s := s.setPortDelay k { x with
        seq := (x.seq + 1) % 65536, t1 := s.time.ltb, open_ := true, missed := missed, vals := if lost then [] else x.vals }
      if lost then ((s.setFlag r 31 false).setEvt Reg.TIME_TIME_EVT 8).logTime k 0x0C else s

/-! ## TPO and TPI (R563 to R565) -/

/-- TPO_PULSE: OTS passes a whole second (R563). -/
def execTpoPulse (s : State) : Res := .next s.secondPulse

/-- TPO_PULSE_END: WIDTH µs have passed (R563). -/
def execTpoPulseEnd (s : State) : Res :=
  .next (if s.time.tpoEnd.toNat ≤ s.time.ltb.toNat then { s with time := { s.time with tpo := false } } else s)

/-- What TPO_CFG stores of a written value (R567). -/
def tpoStored (v : W32) : W32 :=
  let n := fieldOf v 0 19
  if n < 100 then withField v 0 19 100 else if 500000 < n then withField v 0 19 500000 else v

/-- What TC_CFG stores of a written value: LOGINT from −3 to +3 (R567). -/
def tcCfgStored (v : W32) : W32 :=
  let n := (BitVec.ofNat 4 (fieldOf v 24 4)).toInt
  if n < -3 then withField v 24 4 13 else if 3 < n then withField v 24 4 3 else v

/-- The TPI FIFO shows its level and its oldest record (R564, R567). -/
def State.showTpi (s : State) : State :=
  let s := s.setFld Reg.TIME_TPI_LVL 0 5 s.time.tpi.length
  let put := fun (s : State) (k : Nat) (v : W64) => s.setReg64 (Reg.TIME_TPI_RECk + 4 * k) v
  match s.time.tpi with
  | [] => (List.range 5).foldl (fun s k => put s (2 * k) 0) s
  | r :: _ => put (put (put (put (put s 0 r.ltb) 2 r.ots) 4 r.dc0) 6 r.dc1) 8 (r.flags ++ r.interval)

/-- The TPI FIFO holds a list. -/
def State.setTpi (s : State) (l : List TpiRec) : State := ({ s with time := { s.time with tpi := l } }).showTpi

/-- The interval since the previous captured edge in ns, saturating; before the first edge it is open (R564).
DESIGN CHOICE: log entry 78. -/
def State.tpiInterval (s : State) : Nat × State :=
  match s.time.tpiEdge with
  | some t => (min 0x3FFFFFFF ((s.time.ltb - t).toNat * 8), s)
  | none => (s.freeVal.toNat % 0x40000000, s.drawn)

/-- The tag of an interval: out of 999 ms to 1 001 ms (R565). -/
def badPeriod (ns : Nat) : Bool := decide (ns < 999000000 ∨ 1001000000 < ns)

/-- TPI_CAPTURE: an edge that EDGE selects and that is none of a pulse shorter than 1 µs (R564, R565). -/
def execTpiCapture (edge : TpiEdge) (s : State) : Res :=
  .next <|
    if !s.flag Reg.TIME_TPI_CFG 31 || s.flag Reg.TIME_TPI_CFG 30 == edge.rising || decide (edge.held.toNat < 125) then s
    else
      let i := s.tpiInterval
      let s := i.2
      let bad := badPeriod i.1
      let first := s.flag Reg.TIME_TPI_STAT 31
      let dly := s.fld Reg.TIME_TPI_CFG 0 16
      let ns := BitVec.ofNat 64 dly
      let r : TpiRec := {
        ltb := s.time.ltb - BitVec.ofNat 64 ((dly + 4) / 8), ots := s.otsNs - ns, dc0 := s.dcNs 0 - ns, dc1 := s.dcNs 1 - ns
        interval := BitVec.ofNat 32 i.1, flags := BitVec.ofNat 32 (bad.toNat + 2 * first.toNat) }
      let s := { s with time := { s.time with tpiEdge := some s.time.ltb } }
      let s := s.setReg Reg.TIME_TPI_STAT (BitVec.ofNat 32 (bad.toNat * 2 ^ 30 + i.1))
      let s := if s.time.tpi.length < 16 then s.setTpi (s.time.tpi ++ [r]) else s.countSat Reg.TIME_TPI_LVL 16 16 1
      let s := if first then s.logTime 0xFFF 0x0A else s
      if bad then (s.setEvt Reg.TIME_TIME_EVT 7).logTime 0xFFF 0x0B (BitVec.ofNat 64 i.1) else s

/-- No edge has been captured for 2 s (R565). -/
def State.tpiQuiet (s : State) : Bool := decide (250000000 ≤ (s.time.ltb - s.time.tpiEdge.getD 0).toNat)

/-- TPI_LOST: no edge for 2 s (R565). -/
def execTpiLost (s : State) : Res :=
  .next <|
    if s.flag Reg.TIME_TPI_CFG 31 && !s.flag Reg.TIME_TPI_STAT 31 && s.tpiQuiet then
      ((s.setFlag Reg.TIME_TPI_STAT 31 true).setEvt Reg.TIME_TIME_EVT 6).logTime 0xFFF 0x09
    else s

/-- The effect of a write of TPI_POP (R564). -/
def State.popTpi (s : State) (v : W32) : State := if v.getLsbD 0 then s.setTpi s.time.tpi.tail else s

/-- TPI_POP (R564). -/
def execTpiPop (w : Writer) (value : W32) (s : State) : Res :=
  .next (s.command w Reg.TIME_TPI_POP value fun s => s.popTpi value)

/-! ## Reads (R567) -/

/-- The 64-bit value of a time base. -/
def State.timebase (s : State) : Timebase → W64
  | .ltb => s.time.ltb
  | .dc n => s.dcNs n.val
  | .ots => s.otsNs

/-- The offset of a time base's LO register. -/
def timebaseOff : Timebase → Nat
  | .ltb => 0x100
  | .dc n => 0x110 + 0x20 * n.val
  | .ots => 0x160

/-- A read of a LO register: the reading master's copy of HI is latched (R567). -/
def State.readLo (s : State) (m : Master) (b : Timebase) : State :=
  let v := s.timebase b
  let hi : W32 := (v >>> 32).setWidth 32
  let t := match b with
    | .ltb => { s.time with hiCopies := sset (dflt 0) s.time.hiCopies (m.num * 4 + 1) hi }
    | .ots => { s.time with hiCopies := sset (dflt 0) s.time.hiCopies (m.num * 4 + 2) hi }
    | .dc n => { s.time with dcCopies := sset (dflt 0) s.time.dcCopies (m.num * 2 + n.val) hi }
  ({ s with time := t }).respondData ((v.setWidth 32 : W32).setWidth 64)

/-- TIME_LO_READ (R567). -/
def execTimeLoRead (m : Master) (which : Timebase) (s : State) : Res :=
  .next (s.readAccess m 0x0F2 (timebaseOff which) fun s => s.readLo m which)

end Sys2Proof.Machine
end

