-- ==== Sys2Proof/Machine/Enable.lean ====
section
/-! DEFINITION. What a block does when its CTRL.EN rises or falls, as its chapter states (R147), and the sessions of Test Strip that such
a write ends (R638). -/

namespace Sys2Proof.Machine

/-- An ECORE page's EN: the core is released at its reset vector, or stops (R111, R193). -/
def State.coreEnable (n : Nat) (on : Bool) (s : State) : State :=
  if on then (if (s.core n).inReset then s else s.coreStart n (s.resetVector n))
  else s.setFlag (rk (ecorePage n) 0x100) 0 false

/-- What the block of page `p` does when its EN rises or falls. -/
def State.enableEffect (s : State) (p : Nat) (on : Bool) : State :=
  match pageBlock p with
  | 0x10 => s.coreEnable (p - 0x010) on
  | 0x40 => s.loopEnable on
  | 0x80 | 0xA0 | 0xB0 | 0xB4 | 0xB8 => s.linkEnable p on
  | 0xB9 => s.shutEnable on
  | 0xD1 => if on then s.startClmo else s
  | 0xE0 =>
    let s := if on then s.abortTests fun c i => c == 4 && i == p - 0x0E0 else s
    s.canEnable p on
  | 0xF0 => s.netEnable p on
  | _ => s

/-- EN of a page takes a value (R147). -/
def State.setEnable (s : State) (p : Nat) (on : Bool) : State :=
  if s.isolated p || s.flag (rk p Reg.CTRL) 0 == on then s
  else ((s.setFlag (rk p Reg.CTRL) 0 on).setFlag (rk p Reg.STAT) 0 on).enableEffect p on

/-- The effect of a write of CTRL of the DISP page: each write of EN acts, whatever EN was (R590 to R592). -/
def State.writePanelCtrl (s : State) (w : Writer) (v : W32) : State :=
  (s.writeCtrl w 0x0F9 v fun _ s => s).panelEnable (v.getLsbD 0)

/-- PANEL_START: a write of DISP.CTRL with EN at 1 (R590). -/
def execPanelStart (w : Writer) (s : State) : Res :=
  .next (s.access w 0x0F9 Reg.CTRL 1 fun s => s.writePanelCtrl w 1)

/-- PANEL_STOP: a write of DISP.CTRL with EN at 0 (R591). -/
def execPanelStop (w : Writer) (s : State) : Res :=
  .next (s.access w 0x0F9 Reg.CTRL 0 fun s => s.writePanelCtrl w 0)

/-- The pages of the field groups (R143). -/
def groupPages : List Nat := (List.range 57).filterMap fun k => if (pageInfo (0x080 + k)).isSome then some (0x080 + k) else none

end Sys2Proof.Machine
end

