-- ==== Sys2Proof/Machine/Boot.lean ====
section
/-! DEFINITION. Start-up and shut-down (spec/05), the retain record (R251, R252, R582, R583), the pair epoch record (R581) and bank selection
(R612 to R615). -/

namespace Sys2Proof.Machine

/-- PHASE (R121, R137). -/
def State.phase (s : State) : Nat := s.fld Reg.SYS_BOOT_STAT 28 4
def State.setPhase (s : State) (n : Nat) : State := s.setFld Reg.SYS_BOOT_STAT 28 4 n

/-- An event of start-up (R139). -/
def State.logBoot (s : State) (cause : Nat) (data : W64 := 0) : State := s.logEvt 0x000 0xFFF cause data

/-! ## ROM_SCAN (R124, R125, R611, R641) -/

/-- The sectors whose erase marker is neither ERASED nor IN_USE (R125). -/
def State.badSectors (s : State) : List Nat :=
  let touched := s.mem.nor.foldl (fun l e => if 0x3FFF8 ≤ e.1 % 0x40000 then insertNew l (e.1 / 0x40000) else l) []
  touched.filter fun k => s.norMarker k != norErased && s.norMarker k != norInUse

/-- A sector is re-erased and logged (R125). -/
def State.reErase (s : State) (sec : Nat) : State :=
  let s := (s.eraseSector sec).logEvt 0x000 sec 0x50
  { s with boot := { s.boot with reerased := insertNew s.boot.reerased sec } }

/-- ROM_SCAN: a cut wipe is repeated first; every incomplete sector is re-erased; in production test mode no image is verified, and the debug
level is FULL (R125, R611, R641). DEDUCED: log entry 12. -/
def execRomScan (s : State) : Res :=
  .next <|
    if s.rst.phase != .running || s.phase != 0 then s
    else if s.flag Reg.SEC_LCSTATE 3 && decide (s.lifecycle < 3) then (s.showText 2).wipe
    else
      let bad := s.badSectors
      let s := (bad.foldl State.reErase s).setFld Reg.SYS_BOOT_STAT 18 2 (min 3 bad.length)
      if s.rst.production then (s.setFld Reg.DBG_DLEVEL 0 2 3).showText 3 else s.setPhase 1

/-! ## ROM_VERIFY (R609, R612 to R615) -/

/-- A field of the image header of a bank, 0 A and 1 B (R613). -/
def State.hdr (s : State) (bank off n : Nat) : Nat := leNat s.norByte (bank * 0x8000000 + off) n

/-- Step 1 of R614. -/
def State.headerGood (s : State) (bank : Nat) : Bool :=
  s.hdr bank 0 4 == 0x38535052 && s.hdr bank 4 2 == 1 && decide (0x100000 ≤ s.hdr bank 0xC 4 ∧ s.hdr bank 0xC 4 ≤ 0x6000000)

/-- Images signed with a slot are accepted in a lifecycle state (R609). -/
def slotAccepted (lc slot : Nat) : Bool :=
  match lc with
  | 0 | 3 => slot == 0
  | 1 | 2 => decide (1 ≤ slot ∧ slot ≤ 4)
  | _ => false

/-- The image of a bank covers a sector that ROM_SCAN has erased again (R125, R614). -/
def State.holedImage (s : State) (bank : Nat) : Bool :=
  s.boot.reerased.any fun k => k / 0x200 == bank && decide (k % 0x200 * 0x40000 < 0x1000 + s.hdr bank 0xC 4)

/-- A bank passes R614. -/
def State.bankGood (s : State) (bank : Nat) (c : BankCheck) : Bool :=
  let slot := s.hdr bank 6 1
  let version := s.hdr bank 7 1
  s.headerGood bank && slotAccepted s.lifecycle slot && s.slotValid slot && c.keyHashOk
    && decide (s.fld Reg.SEC_RB 0 8 ≤ version ∧ version ≤ 128) && c.sigOk && c.digestOk && !s.holedImage bank

/-- Bank B goes before bank A (R615). -/
def State.bankBFirst (s : State) : Bool :=
  let va := s.hdr 0 7 1
  let vb := s.hdr 1 7 1
  s.headerGood 1 && (!s.headerGood 0 || decide (va < vb) || (va == vb && decide (s.hdr 0 8 4 < s.hdr 1 8 4)))

/-- The payload of a bank is copied to program memory (R122, R614). -/
def State.copyPayload (s : State) (bank : Nat) : State :=
  s.fillPm (s.hdr bank 0x10 8) (s.hdr bank 0xC 4) fun i => s.norByte (bank * 0x8000000 + 0x1000 + i)

/-- The module starts a bank's image (R121, R613). -/
def State.startBank (s : State) (bank : Nat) (fallback : Bool) : State :=
  let s := (s.setFlag Reg.SYS_BOOT_STAT 25 (bank == 1)).setFlag Reg.SYS_BOOT_STAT 24 fallback
  let s := if fallback then s.logBoot 0x51 else s
  let s := (s.copyPayload bank).setFld Reg.NOR_NSTAT 0 1 bank
  let s := { s with boot := { s.boot with version := s.hdr bank 7 1, digest := BitVec.ofNat 384 (s.hdr bank 0x80 48) } }
  (s.setCore 0 { s.core 0 with pc := BitVec.ofNat 64 (s.hdr bank 0x18 8) }).setPhase 2

/-- ROM_VERIFY: `a` and `b` are what the cryptographic checks of banks A and B find (R123, R593, R614, R615). DEDUCED: log entry 84. -/
def execRomVerify (a b : BankCheck) (s : State) : Res :=
  .next <|
    if s.rst.phase != .running || s.phase != 1 then s
    else
      let first := if s.bankBFirst then 1 else 0
      let good := fun k => s.lifecycle != 4 && s.bankGood k (if k = 0 then a else b)
      let tried := s.headerGood first
      if good first then s.startBank first false
      else if good (1 - first) then s.startBank (1 - first) tried
      else ((s.logBoot 0x52).showText (if s.lifecycle = 4 then 1 else 0)).setPhase 8

/-! ## RUNTIME_INIT (R121, R227, R228, R583) -/

/-- The lists have no element in common, pair by pair. -/
def disjointAll (ls : List (List Nat)) : Bool :=
  let all := ls.flatten
  decide (all.length = all.eraseDups.length) || ls.zipIdx.all fun a => ls.zipIdx.all fun b => a.2 == b.2 || !(a.1.any b.1.contains)

/-- The loop output words of the image's loop records: OMAP words that are enabled (R258, R262). -/
def imageLoopOuts (i : ImageDesc) : List Nat :=
  i.loopInit.filterMap fun e =>
    if (e.1 % 256 = 152 ∨ e.1 % 256 = 155) ∧ e.2.data.getLsbD 63 = true then some (e.2.data.toNat % 2 ^ 23) else none

/-- The TPM words of a task's output area, in both banks. -/
def outWords (d : TaskDesc) : List Nat :=
  (List.range d.outLen).flatMap fun i => [d.block0 + d.outOff + i, d.block1 + d.outOff + i]

/-- A size from 4 KiB to 1 MiB in steps of 4 KiB. -/
def pageSized (n : Nat) : Bool := n % 4096 == 0 && decide (4096 ≤ n ∧ n ≤ 0x100000)

/-- Every field of a descriptor lies in its range (R227). -/
def descInRange (d : TaskDesc) : Bool :=
  d.cls == .unused ||
    (decide (d.prio ≤ 15) && (d.cls != .cyclic || (decide (2 ≤ d.period ∧ d.period ≤ 160000 ∧ d.phase < d.period) && d.period % 2 == 0))
      && (d.cls != .event || (decide (1 ≤ d.deadline ∧ d.deadline ≤ 160000) && decide (d.triggers.length ≤ 8)
        && decide (1 ≤ d.qdepth ∧ d.qdepth ≤ 16)))
      && decide (1 ≤ d.ovrLimit ∧ d.ovrLimit ≤ 255) && decide (d.inList.length ≤ 2048 ∧ d.outLen ≤ 2048)
      && pageSized d.blockBytes && pageSized d.stackBytes && decide (1 ≤ d.fbList.length ∧ d.fbList.length ≤ 4096))

/-- The runtime accepts the descriptor set (R228). -/
def imageAccepted (i : ImageDesc) : Bool :=
  let ds := i.tasks.map (·.2)
  disjointAll (imageLoopOuts i :: ds.map outWords) && disjointAll (ds.map (·.instances)) && disjointAll (ds.map (·.retains))
    && ds.all fun d => descInRange d && !(d.cls == .background && decide (0 < d.outLen))
      && (d.cls == .unused || d.core.val == 0 || i.domains.contains (2 + d.core.val))

/-- The budget that a descriptor stores: its limit where it gives none or more (R227). Times in microseconds. -/
def storedBudget (d : TaskDesc) : TaskDesc :=
  let limit := (if d.cls = .cyclic then d.period else d.deadline) * 125 / 2
  { d with budget := if d.budget = 0 ∨ limit < d.budget then limit else d.budget }

/-- The words of the retain record: each task's instance data and retain variables (R251). -/
def imageRetainWords (i : ImageDesc) : List Nat := i.tasks.flatMap fun t => t.2.instances ++ t.2.retains

/-- The domains that the image switches on are ON, PD18 among them (R79, R121). -/
def State.domainsReady (s : State) (i : ImageDesc) : Bool := (18 :: i.domains).all fun d => s.domState d == 2

/-- The runtime asks for the domains of the image (R79, R121). DEDUCED: log entry 80. -/
def State.requestDomains (s : State) (i : ImageDesc) : State :=
  (18 :: i.domains).foldl (fun (s : State) d => if s.domState d = 2 then s else s.logicOn ((domainPages d).headD 0) d) s

/-- Every field domain is commanded on, whatever STATE shows after the reset, unless software has asked for it to be off (R88, R121). -/
def State.commandFields (s : State) : State :=
  groupPages.foldl (fun (s : State) p =>
    let d := pageDomain p
    if sget (dflt 0) s.pwr.fieldReq d = 0 then { s with pwr := { s.pwr with fieldReq := sset (dflt 0) s.pwr.fieldReq d 1 } } else s) s

/-- The blocks that the image names are READY: those of its domains, but for TWIN, which this phase enables itself, and LOOP, which is enabled
where the loops start (R121, R131). DEDUCED: log entry 80. -/
def State.blocksReady (s : State) (i : ImageDesc) : Bool :=
  i.domains.all fun d => d == 6 || d == 18 || (domainPages d).all fun p => s.flag (rk p Reg.STAT) 0

/-- The task table of the loop engine (R285). -/
def State.setTaskTable (s : State) (i : ImageDesc) : State :=
  i.tasks.foldl (fun (s : State) t =>
    if t.2.cls = .unused then s
    else (s.setFld (Reg.LOOP_TSK_SELn + 8 * t.1) 0 23 t.2.select).setFld (Reg.LOOP_TSK_DLTn + 8 * t.1) 0 23
      ((t.2.block1 + 2 ^ 23 - t.2.block0) % 2 ^ 23)) s

/-- The reserved words of the four frame buffers: 0 with tag 0x00 (R351). -/
def State.clearReserved (s : State) : State :=
  (List.range 4).foldl (fun (s : State) b => (List.range 62).foldl (fun (s : State) j =>
    s.setTpmData (s.frameBuffer (BitVec.ofNat 64 b) + 2 + j) 0 0) s) s

/-- The core watchdog of every core whose page can be reached runs, with a timeout of 1 000 µs (R182, R231). -/
def State.startCoreWatchdogs (s : State) : State :=
  [0, 1, 2, 3].foldl (fun (s : State) c =>
    if s.isolated (ecorePage c) then s
    else
      let was := s.flag (coreKey c 0x130) 16
      let s := (s.setFld (coreKey c 0x130) 0 16 1000).setFlag (coreKey c 0x130) 16 true
      if was then s else s.loadCwdg c) s

/-- Field links, the twin link and CLAIM start with claim role 0 (R121, R453, R454). -/
def State.startLinks (s : State) : State :=
  let s := (s.setFld Reg.CLAIM_OWN 0 16 (s.fld Reg.PROOF_SCORE 0 10 * 16 + s.tie)).setClaimRole 0
  let s := groupPages.foldl (fun (s : State) p => s.setEnable p true) s
  ((s.setEnable 0x0D0 true).setEnable 0x0D1 true).startClmo

/-- The module waits for its role (R126). -/
def State.awaitRole (s : State) : State :=
  let s := s.setPhase 3
  { s with boot := { s.boot with peerWait := true } }

/-- RUNTIME_INIT: `image` is what the runtime reads of the image. TPM is re-initialised and the domains are asked for; once they are ON the
links start, and once the blocks are READY the phase ends (R121). It is issued again when the last of the domains has come ON, or of the blocks
READY. DEDUCED: log entry 80. -/
def execRuntimeInit (image : ImageDesc) (s : State) : Res :=
  .next <|
    if s.rst.phase != .running || s.phase != 2 then s
    else
      let i := { image with tasks := image.tasks.map fun t => (t.1, storedBudget t.2) }
      let s := { s with
        mem := { s.mem with tpm := [], tpmFill := some { data := 0, tag := 0xC0 }, tpmErr := [] }
        boot := { s.boot with image := some i } }
      let s := ((s.setFld Reg.LOOP_IMG_BASE 0 23 i.imgBase).setFld Reg.LOOP_IMG_STRIDE 0 23 i.imgStride).setTaskTable i
      let s := s.clearReserved.startCoreWatchdogs
      if !imageAccepted i || decide (1916 * 1024 < (imageRetainWords i).length * 16) then (s.logBoot 0x6A).enterStop
      else
        let s := s.commandFields
        if s.domainsReady i then (if s.blocksReady i then s.startLinks.awaitRole else s.startLinks) else s.requestDomains i

/-! ## The pair epoch record (R581) -/

/-- The CRC-16 of a copy's first four bytes. -/
def epochCrc (low : Nat) : Nat := (crc16 (natBytes low 4)).toNat

/-- EPOCH of a copy, where it is valid. -/
def State.epochCopy (s : State) (k : Nat) : Option Nat :=
  let low := s.mramNat (0x40 + 8 * k) 4
  let high := s.mramNat (0x44 + 8 * k) 4
  if high = epochCrc low ∧ low / 2 ^ 20 = 0 ∧ low / 256 % 4096 = s.ownPair then some (low % 256) else none

/-- The epoch is incremented in MRAM, and the module's frames carry it (R127, R581). -/
def State.bumpEpoch (s : State) : State :=
  let old := match s.epochCopy 0 with
    | some e => some e
    | none => s.epochCopy 1
  let s := if old.isSome then s else (s.setFlag Reg.MRAM_MSTAT 1 true).logEvt 0x023 0xFFF 0x05 2
  let e := (old.getD 0 + 1) % 256
  let low := e + s.ownPair * 256
  let put := fun (s : State) k => (s.setMram (0x40 + 8 * k) 4 low).setMram (0x44 + 8 * k) 4 (epochCrc low)
  (put (put s 0) 1).setFld (rk 0x0F0 Reg.NET_TW_EPOCH) 0 8 e

/-! ## The retain record (R251, R582, R583) -/

/-- The MRAM offset of a retain slot (R579). DEDUCED: log entry 83. -/
def retainSlot (n : Nat) : Nat := if n = 0 then 0x200000 else 0x500000

/-- GEN of a slot. -/
def State.retainGen (s : State) (n : Nat) : Nat := s.mramNat (retainSlot n) 8

/-- CHECK over what a slot holds (R582). -/
def State.retainCheck (s : State) (n len : Nat) : Nat :=
  let b := retainSlot n
  let head := (List.range 72).map fun i => s.mramByte (b + 8 + i)
  let body := (List.range len).map fun i => s.mramByte (b + 0x1000 + i)
  (crc32c (head ++ body)).toNat

/-- A slot passes its check (R583). -/
def State.retainOk (s : State) (n : Nat) : Bool :=
  let b := retainSlot n
  let len := s.mramNat (b + 0xC) 4
  s.retainGen n != 0 && s.mramNat (b + 8) 2 == 1 && decide (len ≤ 0x2FF000) && s.mramNat (b + 0x50) 4 == s.retainCheck n len

/-- The slot that a warm start uses: of those that pass, the one with the higher GEN, where the running image wrote it (R128, R583). -/
def State.warmSlot (s : State) : Option Nat :=
  let best := match s.retainOk 0, s.retainOk 1 with
    | true, true => some (if s.retainGen 0 < s.retainGen 1 then 1 else 0)
    | true, false => some 0
    | false, true => some 1
    | false, false => none
  best.filter fun n => s.mramNat (retainSlot n + 0x10) 48 == s.boot.digest.toNat

/-- The words of the image's retain record in order, or none without an image. -/
def State.retainList (s : State) : List Nat := (s.boot.image.map imageRetainWords).getD []

/-- The part of a task is taken: its instance data and retain variables (R251). -/
def State.takePart (s : State) (owed : List Nat) (m : Sparse (Option TWord)) (t : Nat) : List Nat × Sparse (Option TWord) :=
  let d := s.desc t
  (owed.filter (· != t), (d.instances ++ d.retains).foldl (fun m w => sset (dflt none) m w (some (s.tpmAt w))) m)

/-- A byte of the body: loop record words, their tags, then the task area, 16 bytes a word: value, tag, zeros (R582). -/
def State.retainByte (s : State) (m : Sparse (Option TWord)) (l : List Nat) (i : Nat) : Byte :=
  if i < 0x100000 then natByte (s.lw (i / 2048) (i / 8 % 256)).data.toNat (i % 8)
  else if i < 0x120000 then (s.lw ((i - 0x100000) / 256) (i % 256)).tag
  else
    let v := ((l[(i - 0x120000) / 16]?).bind fun w => sget (dflt none) m w).getD {}
    if i % 16 < 8 then natByte v.data.toNat (i % 16) else if i % 16 = 8 then v.tag else 0

/-- A slot holds no MRAM unit that has failed its check on two scans (R492). -/
def State.slotSound (s : State) (n : Nat) : Bool :=
  !s.proof.mramBad.any fun u => decide (retainSlot n ≤ 8 * u ∧ 8 * u < retainSlot n + 0x300000)

/-- The record is written in the order of R583, into the slot with the lower GEN, or the other one where R492 bars it; with both barred there is
no record. DEDUCED: log entry 83. -/
def State.writeRetain (s : State) (m : Sparse (Option TWord)) : State :=
  let low := if s.retainGen 0 ≤ s.retainGen 1 then 0 else 1
  let n := if s.slotSound low then low else 1 - low
  if !s.slotSound n then { s with boot := { s.boot with retain := none } } else
  let b := retainSlot n
  let gen := max (s.retainGen 0) (s.retainGen 1) + 1
  let l := s.retainList
  let len := 0x120000 + 16 * l.length
  let tt := s.time.ltb + s.boot.ttBase
  let body := (List.range len).map (s.retainByte m l)
  let s := (s.setMram b 8 0).setMramBytes (b + 0x1000) body
  let s := ((s.setMram (b + 8) 4 1).setMram (b + 0xC) 4 len).setMram (b + 0x10) 48 s.boot.digest.toNat
  let s := (s.setMram (b + 0x40) 8 tt.toNat).setMram (b + 0x48) 8 s.rtcTicks
  let s := (s.setMram (b + 0x50) 4 (s.retainCheck n len)).setMram b 8 gen
  { s with boot := { s.boot with retain := none } }

/-- The parts of tasks that are inactive are taken; once none is owed the record is written (R251). -/
def State.retainStep (s : State) : State :=
  match s.boot.retain with
  | none => s
  | some r =>
    let r := r.1.foldl (fun (r : List Nat × Sparse (Option TWord)) t => if (s.task t).active then r else s.takePart r.1 r.2 t) r
    let s := { s with boot := { s.boot with retain := some r } }
    if r.1.isEmpty then s.writeRetain r.2 else s

/-- A brown-out was declared 15 ms ago or more (R134). -/
def State.brownoutLate (s : State) : Bool :=
  match s.pwr.brownAt with
  | some t => decide (1875000 ≤ (s.time.ltb - t).toNat)
  | none => false

/-- A retain record is begun, unless one is under way or a brown-out is 15 ms old (R134, R251): from ADMIT on, once the tasks hold their
state. -/
def State.beginRetain (s : State) : State :=
  let p := s.phase
  if s.boot.retain.isSome || s.brownoutLate || !(decide (5 ≤ p ∧ p ≤ 7) || (p == 4 && s.boot.running)) then s
  else
    let owed := (List.range 32).filter fun t => (s.desc t).cls != .unused
    ({ s with boot := { s.boot with retain := some (owed, []) } }).retainStep

/-- BROWNOUT_DECLARED: both feeds have stayed lost for 1 ms: an ACTIVE module hands over to a peer that can take it, and the runtime begins a
retain record (R67, R134). -/
def execBrownoutDeclared (s : State) : Res :=
  .next <|
    if s.bothLost && !s.flag Reg.PWR_SUP_STAT 8 then
      let s := { s.setFlag Reg.PWR_SUP_STAT 8 true with pwr := { s.pwr with brownAt := some s.time.ltb } }
      let s := (s.setEvt Reg.PWR_SUP_EVT 2).logEvt 0x003 0xFFF 0x05
      (if s.peerReady && !s.pair.peerBrownout then s.planSwitch else s).beginRetain
    else s

/-- RETAIN_RECORD_WRITE (R251). -/
def execRetainRecordWrite (s : State) : Res := .next s.beginRetain

/-- TASK_COMMIT: the task commits, and a retain record that waited for it takes its part (R239, R251). -/
def execTaskCommit (task : Fin 32) (s : State) : Res := .next (s.taskCommit task.val).retainStep

/-! ## ROLE_WAIT (R126 to R128) -/

/-- The role that R126 gives now; none while the module is to wait. `expired` says that the peer wait has ended. A module that hears a peer
which neither holds the claim nor is in ROLE_WAIT waits on, whatever the peer wait. DESIGN CHOICE: log entry 128. -/
def State.roleChoice (s : State) (expired : Bool) : Option Nat :=
  if s.side = 0 || s.carrier.mismatch || s.pair.otherOrder then some 5
  else if s.side = 3 then some 1
  else if s.flag Reg.CLAIM_PEER 16 && (s.laneUp 0 || s.laneUp 1) then
    if s.fld Reg.CLAIM_PEER 14 2 = 3 then some 4
    else if s.pair.peerRole = 0 then
      some (if s.fld Reg.CLAIM_PEER 0 14 < s.fld Reg.CLAIM_OWN 0 14 then 2 else 4)
    else none
  else if s.flag Reg.CLAIM_PEER 16 || s.laneUp 0 || s.laneUp 1 then none
  else if s.fld Reg.CLAIM_PEER 18 2 ≠ 0 then some 6
  else if !s.flag Reg.SYS_CT_ID 5 || expired then some 2
  else none

/-- KIND of BOOT_STAT: 1 cold, 2 warm, 3 re-integration (R137). -/
def State.setKind (s : State) (k : Nat) : State := s.setFld Reg.SYS_BOOT_STAT 26 2 k

/-- The restart kind of a module that starts the station (R128). DEDUCED: log entry 81. -/
def State.restartKind (s : State) : State :=
  let allowed := (s.boot.image.map (·.warmAllowed)).getD false
  let s :=
    if allowed && s.warmSlot.isSome then (s.setKind 2).logBoot 0x54
    else ((if allowed then s.logBoot 0x55 else s).setKind 1).logBoot 0x53
  s.setPhase 4

/-- The module takes the role that was decided (R126 to R128). DEDUCED: log entry 82. -/
def State.takeRole (s : State) (r : Nat) : State :=
  let s := { s with boot := { s.boot with peerWait := false, roleAt := some s.time.ltb } }
  match r with
  | 1 | 2 =>
    if 3 ≤ s.fld Reg.SYS_BOOT_STAT 20 4 then s.enterStop
    else ((s.beforeHold.setRole r).bumpEpoch).restartKind
  | 4 => ((s.setKind 3).setPhase 4).startJoin
  | _ => s.setRole r

/-- ROLE_DECISION (R126). DEDUCED: log entry 81. -/
def execRoleDecision (s : State) : Res :=
  .next <|
    if s.phase != 3 || !s.boot.peerWait then s
    else match s.roleChoice false with
      | some r => s.takeRole r
      | none => s

/-- PEER_WAIT_EXPIRY: the peer wait ends; the module becomes ACTIVE alone where no other row of R126 has come to match. -/
def execPeerWaitExpiry (s : State) : Res :=
  .next <|
    if s.phase != 3 || !s.boot.peerWait then s
    else match s.roleChoice false, s.roleChoice true with
      | some r, _ => s.takeRole r
      | none, some r => (s.logBoot 0x59).takeRole r
      | none, none => s

/-! ## ADMIT (R131, R242, R250, R252) -/

/-- Words take the values that the image gives them (R121, R250). -/
def State.imageWords (s : State) (i : ImageDesc) : State := i.tpmInit.foldl (fun (s : State) e => s.setTpm e.1 e.2) s

/-- The select words start anew (R237, R250). -/
def State.initSelects (s : State) (i : ImageDesc) : State :=
  i.tasks.foldl (fun (s : State) t => if t.2.cls = .unused then s else s.setTpmData t.2.select 0 0) s

/-- Every task before its first cycle (R250). -/
def State.initTasks (s : State) (i : ImageDesc) (kind : Nat) : State :=
  { s with boot := { s.boot with tasks := i.tasks.foldl (fun m t =>
      if t.2.cls = .unused then m else sset (dflt ({} : TaskState)) m t.1 ({ kind := kind, first := true } : TaskState)) [] } }

/-- The loop records and the retain words of a slot stand in their places again (R250, R582). -/
def State.restoreRecord (s : State) (n : Nat) : State :=
  let b := retainSlot n + 0x1000
  let s := (List.range 0x20000).foldl (fun (s : State) j =>
    s.setLw (j / 256) (j % 256) { data := BitVec.ofNat 64 (s.mramNat (b + 8 * j) 8), tag := s.mramByte (b + 0x100000 + j) }) s
  s.retainList.zipIdx.foldl (fun (s : State) e =>
    let a := b + 0x120000 + 16 * e.2
    s.setTpm e.1 { data := BitVec.ofNat 64 (s.mramNat a 8), tag := s.mramByte (a + 8) }) s

/-- MRAM_RESTORE_COMPLETE: task and loop state stand, and tasks and loops start at the next boundary (R131, R250, R252). -/
def execMramRestoreComplete (s : State) : Res :=
  .next <|
    let kind := s.fld Reg.SYS_BOOT_STAT 26 2
    match s.boot.image with
    | none => s
    | some i =>
      if s.phase != 4 || !(kind == 1 || kind == 2) || s.boot.running || s.boot.starting then s
      else
        let slot := if kind = 2 then s.warmSlot else none
        let s := ((s.imageWords i).initSelects i).initTasks i kind
        let s := { s with loop := {} }
        let s := match slot with
          | some n =>
            let b := retainSlot n
            let rec_ := (BitVec.ofNat 64 (s.mramNat (b + 0x40) 8), BitVec.ofNat 64 (s.mramNat (b + 0x48) 8))
            let s := s.restoreRecord n
            { s with boot := { s.boot with warm := some rec_ } }
          | none =>
            let s := i.loopInit.foldl (fun (s : State) (e : Nat × TWord) => s.setLw (e.1 / 256) (e.1 % 256) e.2) s
            { s with boot := { s.boot with warm := none } }
        { s with boot := { s.boot with starting := true, ttBase := 0 } }

/-- D of R252 for a record's RTC_REC: 0, with cause 0x68, where OSF is set or D would be negative. -/
def State.downtime (s : State) (rtcRec : W64) : Nat × State :=
  if s.flag Reg.RTC_TIME7 8 || decide (s.rtcTicks < rtcRec.toNat) then (0, s.logBoot 0x68)
  else ((s.rtcTicks - rtcRec.toNat) * 1000000000 / 262144, s)

/-- RUN-TIME timers and ramps have the downtime added to LAST (R244, R252). -/
def State.addDowntime (s : State) (i : ImageDesc) (d : Nat) : State :=
  i.timers.foldl (fun (s : State) t =>
    if t.2 && (s.tpmAt (t.1 + 3)).data.getLsbD 3 then s
    else
      let w := if t.2 then t.1 + 2 else t.1 + 3
      let v := s.tpmAt w
      s.setTpm w { v with data := v.data + BitVec.ofNat 64 d }) s

/-- Tasks and loops start at a boundary (R131, R252). -/
def State.startRunning (s : State) : State :=
  let s := match s.boot.warm, s.boot.image with
    | some r, some i =>
      let d := s.downtime r.2
      let s := { d.2 with boot := { d.2.boot with ttBase := r.1 + BitVec.ofNat 64 d.1 - d.2.time.ltb, warm := none } }
      s.addDowntime i d.1
    | _, _ => s
  let s := s.setEnable 0x040 true
  { s with boot := { s.boot with running := true, starting := false } }

/-- Every cyclic task has committed since the start (R131). -/
def State.allCommitted (s : State) : Bool :=
  (List.range 32).all fun t => (s.desc t).cls != .cyclic || (s.task t).committed || (s.task t).stopped

/-- The claim is raised at the first boundary after every cyclic task has committed: the first control frame (R131). -/
def State.raiseClaim (s : State) : State :=
  if s.phase == 4 && s.boot.running && !s.boot.raised && (s.role == 1 || s.role == 2) && s.allCommitted then
    let s := ({ s with boot := { s.boot with raised := true } }).beforeHold
    ((s.setClaimRole 3).setPhase 5).logBoot 0x57
  else s

/-! ## Shut-down (R133, R138) -/

/-- A CYCLIC or EVENT task has a cycle under way. -/
def State.anyActive (s : State) : Bool := (List.range 32).any fun t => (s.task t).active

/-- Steps 3 to 5 of R133, once every task has stopped: the record, the claim, silence, SAVE. -/
def State.finishShutdown (s : State) : State :=
  if s.boot.shut != ShutStep.stopping || s.anyActive then s
  else
    let s := { s with boot := { s.boot with retain := none } }
    let s := ((s.beginRetain).stopRunning).logBoot 0x58
    ((s.setClaimRole 0).setRole 5).enterSave

/-- An orderly shut-down is under way. -/
def State.shutTo (s : State) (x : ShutStep) : State := { s with boot := { s.boot with shut := x } }

/-- The effect of a write of SYS.SHUTDOWN. Where the planned switch-over does not come about, PHASE stays SHUTDOWN (R133, R138).
DESIGN CHOICE: log entry 129. -/
def State.writeShutdown (s : State) (v : W32) : State :=
  if !v.getLsbD 0 then s
  else if !keyed v 0x5344 || (s.phase != 5 && s.phase != 6) then s.logBoot 0x5A
  else if s.role == 2 then
    if s.peerReady then ((s.setPhase 7).shutTo .switching).planSwitch
    else if v.getLsbD 1 then ((s.setPhase 7).shutTo .stopping).finishShutdown
    else s.logBoot 0x5A
  else ((s.setPhase 7).shutTo .stopping).finishShutdown

/-- SHUTDOWN (R133). -/
def execShutdown (w : Writer) (value : W32) (s : State) : Res :=
  .next (s.command w Reg.SYS_SHUTDOWN value fun s => s.writeShutdown value)

/-- SHUTDOWN_TASK_ABORT: a task still runs 1 s after the request (R133). -/
def execShutdownTaskAbort (task : Fin 32) (s : State) : Res :=
  .next (if s.boot.shut == ShutStep.stopping then (s.endCycle task.val).finishShutdown else s)

/-! ## FAILRUN and STOP (R129) -/

/-- FAILRUN_CLEAR: the module has spent 60 s in RUN (R129). -/
def execFailrunClear (s : State) : Res :=
  .next <|
    if s.phase = 5 then
      ({ s with boot := { s.boot with ran60 := true } }).setFld Reg.SYS_BOOT_STAT 20 4 0
    else s

/-- SLATHE_RELEASE: out of STOP, and start-up again from RUNTIME_INIT (R129). -/
def execSlatheRelease (s : State) : Res :=
  .next (if s.phase = 6 then (s.setFld Reg.SYS_BOOT_STAT 20 4 0).restartFromInit else s)

end Sys2Proof.Machine
end

