-- ==== Sys2Proof/Machine/TestStrip.lean ====
section
/-! DEFINITION. Test Strip: sessions and checkers (R634 to R640), and free and covered groups (R488, R489). -/

namespace Sys2Proof.Machine

/-! ## Free and covered groups (R488, R489) -/

/-- A disturbing test or a session may start on a group, or go on: it is free or covered, and not reserved for the peer (R488). -/
def State.groupQuiet (s : State) (k : Nat) : Bool :=
  ((s.grp k).holder == 0 || s.proof.covered.contains k) && !s.proof.reserved.contains k

/-- What R489 watches of a group: a takeover or a switch-over changes the claim role, a withdrawal and a move their own marks. -/
def State.duty (s : State) (k : Nat) : Nat :=
  s.claimRole * 4 + s.pair.withdrawn.toNat * 2 + (s.pair.moved.contains (grpPage k)).toNat

/-! ## Sessions (R634, R636) -/

/-- A session beside its registers. -/
def State.session (s : State) (n : Nat) : SessionState := sget (dflt {}) s.test.sessions n

/-- Store a session. -/
def State.setSession (s : State) (n : Nat) (x : SessionState) : State :=
  { s with test := { s.test with sessions := sset (dflt {}) s.test.sessions n x } }

/-- CLASS, INDEX and MODE name a link of R634. -/
def testValid (cls index mode : Nat) : Bool :=
  match cls with
  | 1 => decide (index < 2 ∧ 1 ≤ mode ∧ mode ≤ 2)
  | 2 => decide (index < 57 ∧ grpKind index ≠ 0 ∧ mode = 1)
  | 3 => decide (index < 4 ∧ 1 ≤ mode ∧ mode ≤ 6)
  | 4 => decide (index < 8 ∧ mode = 1)
  | 5 => decide (index = 0 ∧ mode = 1)
  | 6 => decide (index < 64 ∧ mode = 1)
  | 7 => decide (index < 256 ∧ mode = 1)
  | _ => false

/-- The resource may be tested in service (R634). -/
def State.testFree (s : State) (cls index : Nat) : Bool :=
  match cls with
  | 1 => !s.laneUp index
  | 2 => s.groupQuiet index
  | 3 => !s.flag (netKey (index / 2) (0x104 + 4 * (index % 2))) 31
  | 4 => !s.flag (rk (0x0E0 + index) Reg.CTRL) 0
  | 5 => s.panel == 3
  | 6 => s.fld (rk (0x0B4 + index / 16) (0x140 + 4 * (index % 16))) 28 4 == 0
  | _ => s.fld (rk (0x0A0 + index / 16) (0x140 + 4 * (index % 16))) 20 3 == 0

/-- R467 or R473 keeps the module off the networks. -/
def State.netQuiet (s : State) : Bool := s.pair.verdict || s.silent

/-- Another session runs on the same resource. -/
def State.testTaken (s : State) (n cls index : Nat) : Bool :=
  (List.range 8).any fun m => m != n && s.testState m == 1 && s.testClass m == cls && s.testIndex m == index

/-- WHY a session may not start; 0 where it may (R634, R636, R640). DESIGN CHOICE: log entry 89. DEDUCED: log entry 90. -/
def State.testWhy (s : State) (n : Nat) : Nat :=
  let cls := s.testClass n
  let i := s.testIndex n
  if !testValid cls i (s.testMode n) then 1
  else if s.domState 23 != 2 || s.domState (pageDomain (testPage cls i)) != 2 then 5
  else if s.testState n == 1 || s.testTaken n cls i then 3
  else if !s.testFree cls i then 2
  else if cls == 3 && s.testMode n == 6 && s.netQuiet then 4
  else 0

/-- The counters of a session, zero (R636). -/
def State.clearTest (s : State) (n : Nat) : State :=
  [Reg.TEST_BITS_LO, Reg.TEST_BITS_HI, Reg.TEST_BERR, Reg.TEST_SEC0, Reg.TEST_SEC1].foldl (fun s r => s.setReg (testKey r n) 0)
    (s.setFlag (testKey Reg.TEST_SSTAT n) 0 false)

/-- DUR as it counts: a field link's above 60 s is 60 s (R636). -/
def State.testDur (s : State) (n : Nat) : Nat :=
  let d := s.fld (testKey Reg.TEST_SCFG n) 0 12
  if s.testClass n = 2 then min d 60 else d

/-- A session starts: for a field link the logic end asks for the loopback of DUR × 100 000 periods (R636, R639). -/
def State.beginTest (s : State) (n : Nat) : State :=
  let cls := s.testClass n
  let i := s.testIndex n
  let d := s.testDur n
  let s := (s.clearTest n).setTest n 1 0
  let s := s.setSession n { dur := d, duty := s.duty i, frame := s.fld Reg.DISP_DSTAT 0 16 }
  let s :=
    if cls = 2 then
      s.onLink i fun l => { l with special := l.special ++ [{ op := 4, data := BitVec.ofNat 32 (d * 100000 % 2 ^ 17) }] }
    else s
  s.logEvt 0x006 n 0x01 (BitVec.ofNat 64 (cls * 2 ^ 28 + i * 2 ^ 16))

/-- START: the session starts or is REFUSED (R636). DESIGN CHOICE: log entry 89. DEDUCED: log entry 90. -/
def State.startTest (s : State) (n : Nat) : State :=
  let why := s.testWhy n
  if why = 0 then s.beginTest n else (s.setTest n 3 why).logEvt 0x006 n 0x03 (BitVec.ofNat 64 why)

/-- A running session ends in DONE (R636). -/
def State.endTest (s : State) (n : Nat) : State :=
  if s.testState n = 1 then
    ((s.setTest n 2 0).setEvt Reg.TEST_TEST_EVT n).logEvt 0x006 n 0x02 ((s.reg (testKey Reg.TEST_BERR n)).setWidth 64)
  else s

/-- No checker runs: Ethernet test modes 1 to 4 (R635). -/
def State.unchecked (s : State) (n : Nat) : Bool := s.testClass n == 3 && decide (s.testMode n ≤ 4)

/-- Comparisons and errors of a session are counted while it is in sync (R635). -/
def State.countBits (s : State) (n : Nat) (bits : W64) (errors : W32) : State :=
  if s.unchecked n then s
  else
    let s := s.setReg64 (testKey Reg.TEST_BITS_LO n) (s.reg64 (testKey Reg.TEST_BITS_LO n) + bits)
    s.countSat (testKey Reg.TEST_BERR n) 0 32 errors.toNat

/-- The effect of a write of SCMDs (R636, R640). -/
def State.writeScmd (s : State) (n : Nat) (v : W32) : State :=
  let s := if v.getLsbD 1 then s.endTest n else s
  if v.getLsbD 0 then s.startTest n else s

/-- TEST_SESSION_START (R636). -/
def execTestSessionStart (w : Writer) (session : Fin 8) (s : State) : Res :=
  .next (s.command w (testKey Reg.TEST_SCMD session.val) 1 fun s => s.writeScmd session.val 1)

/-- TEST_SESSION_STOP; `bits` and `errors` are what was compared since the last second ended (R635, R636). -/
def execTestSessionStop (w : Writer) (session : Fin 8) (bits : W64) (errors : W32) (s : State) : Res :=
  .next (s.command w (testKey Reg.TEST_SCMD session.val) 2 fun s =>
    (if s.testState session.val = 1 then s.countBits session.val bits errors else s).writeScmd session.val 2)

/-- TEST_SESSION_DONE: DUR seconds have passed (R636). -/
def execTestSessionDone (session : Fin 8) (s : State) : Res :=
  .next <|
    let x := s.session session.val
    if x.dur ≠ 0 ∧ x.dur ≤ x.secs then s.endTest session.val else s

/-! ## Checkers (R635, R639) -/

/-- A second of a session ends (R635). -/
def State.sessionSecond (s : State) (n : Nat) (bits : W64) (errors : W32) : State :=
  let x := s.session n
  if s.testState n ≠ 1 ∨ (x.dur ≠ 0 ∧ x.dur ≤ x.secs) then s
  else
    let s := (s.countBits n bits errors).countSat (testKey Reg.TEST_SEC0 n) 0 16 1
    let s :=
      if s.unchecked n then s
      else if x.bad || errors != 0 then s.countSat (testKey Reg.TEST_SEC1 n) 0 16 1
      else s.countSat (testKey Reg.TEST_SEC0 n) 16 16 1
    s.setSession n { x with secs := x.secs + 1, bad := !s.flag (testKey Reg.TEST_SSTAT n) 0 }

/-- The idle-slot check of a group. -/
def State.idle (s : State) (k : Nat) : CheckState := sget (dflt {}) s.test.idle k

/-- IDLE_CNT shows the counts of the group that IDLE_SEL names (R640). -/
def State.showIdle (s : State) : State :=
  let x := s.idle (s.fld Reg.TEST_IDLE_SEL 0 6)
  s.setReg Reg.TEST_IDLE_CNT (BitVec.ofNat 32 (min x.es 0xFFFF * 0x10000 + min x.berr 0xFFFF))

/-- Store the idle-slot check of a group. -/
def State.setIdle (s : State) (k : Nat) (x : CheckState) : State :=
  ({ s with test := { s.test with idle := sset (dflt {}) s.test.idle k x } }).showIdle

/-- A second of an idle-slot check ends: its counts, and the windows of bit 26 of the latent-fault map (R490, R635, R639). -/
def CheckState.second (x : CheckState) (bits : W64) (errors : W32) : CheckState :=
  let sum := x.bits.toNat + bits.toNat
  let err := errors != 0
  let errRun := if err then x.errRun + 1 else 0
  let cleanRun := if err then 0 else x.cleanRun + 1
  { x with
    bits := BitVec.ofNat 64 (min sum (2 ^ 64 - 1)), berr := min (x.berr + errors.toNat) (2 ^ 32 - 1), secs := x.secs + 1
    es := if x.bad || err then x.es + 1 else x.es, bad := !x.sync, errRun := errRun, cleanRun := cleanRun
    faulty := decide (2 ≤ errRun) || (x.faulty && decide (cleanRun < 60)) }

/-- TEST_SECOND: 125 000 000 LTB ticks have passed; `bits` and `errors` are what the checker compared in them while in sync, a lost pattern frame
or one with a wrong FCS as 11 968 errors (R635, R637). A window of an idle-slot check counts for Proof's round (R481). -/
def execTestSecond (target : CheckTarget) (bits : W64) (errors : W32) (s : State) : Res :=
  .next <| match target with
    | .session n => s.sessionSecond n.val bits errors
    | .idle g =>
      if grpKind g.val = 0 then s
      else
        let s := { s with proof := { s.proof with done := insertNew s.proof.done (0x100 + g.val) } }
        s.setIdle g.val ((s.idle g.val).second bits errors)

/-- CHECKER_SYNC_CHANGE: 64 comparisons in a row without error, or 64 errors within 1 000 (R635). An idle-slot check has no session number, and
logs 0xFFF in its place. DEDUCED: log entry 91. -/
def execCheckerSyncChange (target : CheckTarget) (sync : Bool) (s : State) : Res :=
  .next <| match target with
    | .session n =>
      let n := n.val
      let was := s.flag (testKey Reg.TEST_SSTAT n) 0
      if s.testState n ≠ 1 || s.unchecked n then s
      else
        let s := s.setFlag (testKey Reg.TEST_SSTAT n) 0 sync
        if was && !sync then
          let s := s.setSession n { s.session n with bad := true }
          (s.countSat (testKey Reg.TEST_SEC1 n) 16 16 1).logEvt 0x006 n 0x05 (BitVec.ofNat 64 (s.session n).secs)
        else s
    | .idle g =>
      let x := s.idle g.val
      if grpKind g.val = 0 then s
      else if x.sync && !sync then
        (s.setIdle g.val { x with sync := false, bad := true, lossSync := x.lossSync + 1 }).logEvt 0x006 0xFFF 0x05 (BitVec.ofNat 64 x.secs)
      else s.setIdle g.val { x with sync := sync }

/-! ## Ends within a field period (R638) -/

/-- A running session has lost what it needs: cover or R489 for a field link, R467 and R473 for an external loopback. -/
def State.testLost (s : State) (n : Nat) : Bool :=
  let cls := s.testClass n
  let i := s.testIndex n
  s.testState n == 1 && ((cls == 2 && (!s.groupQuiet i || (s.session n).duty != s.duty i)) || (cls == 3 && s.testMode n == 6 && s.netQuiet))

/-- Sessions that have lost what they need end ABORTED (R638). -/
def State.watchTests (s : State) : State := (List.range 8).foldl (fun s n => if s.testLost n then s.abortTest n else s) s

/-- The segment that a segment walk lights: each for four display frames (R634). -/
def State.walkSegment (s : State) : Option Nat :=
  ((List.range 8).find? fun n => s.testState n == 1 && s.testClass n == 5).map fun n =>
    (s.fld Reg.DISP_DSTAT 0 16 + 65536 - (s.session n).frame) % 65536 / 4 % 208

/-- The segments that carry a voltage: those of the page shown in PHASE ON, all of them during a lamp test, one in a segment walk; segment
32k + b is bit b of word k (R587, R589, R595, R634). -/
def State.segmentLit (s : State) (i : Nat) : Bool :=
  s.panel == 3 && (s.disp.lamp || match s.walkSegment with
    | some j => i == j
    | none => s.flag (Reg.DISP_PGp_Wk + 0x20 * s.fld Reg.DISP_DSTAT 26 1 + 4 * (i / 32)) (i % 32))

end Sys2Proof.Machine
end

