-- ==== Sys2Proof/Machine/Proof.lean ====
section
/-! DEFINITION. Proof: self-tests, requests, the latent-fault map, the score and the health report (spec/18). -/

namespace Sys2Proof.Machine

/-! ## Results of tests (R484) -/

/-- The logic side runs. -/
def State.logicRuns (s : State) : Bool := s.rst.phase == .running && s.pwr.power == .run

/-- An event of the PROOF page (R497). -/
def State.logProof (s : State) (chan cause : Nat) (data : W64 := 0) : State := s.logEvt 0x0D2 chan cause data

/-- Lists of Proof, by what they hold. -/
def State.dropFailed (s : State) (b : Nat) : State := { s with proof := { s.proof with failed := s.proof.failed.filter (· != b) } }

/-- A single failure of the test of bit `b` is counted and logged (R484, R497). -/
def State.singleFailure (s : State) (b inst : Nat) : State :=
  (s.countSat Reg.PROOF_ROUND 0 16 1).logProof b 0x03 (BitVec.ofNat 64 inst)

/-- A test of bit `b` gives a result: a failure is repeated at once, and a repeat that fails too latches the bit (R484). -/
def State.testResult (s : State) (b inst : Nat) (ok : Bool) : State :=
  if ok then s.dropFailed b
  else if s.proof.failed.contains b then
    { s.dropFailed b with proof := { (s.dropFailed b).proof with latched := insertNew s.proof.latched b } }
  else { s.singleFailure b inst with proof := { s.proof with failed := insertNew s.proof.failed b } }

/-- A test counts for the round (R481). -/
def State.testDone (s : State) (t : Nat) : State := { s with proof := { s.proof with done := insertNew s.proof.done t } }

/-! ## The continuous tests (R481 to R483) -/

/-- A CYCLIC or EVENT task of core `c` has a cycle under way, or is ready. -/
def State.coreBusy (s : State) (c : Nat) : Bool :=
  (List.range 32).any fun t => (s.desc t).core.val == c && ((s.desc t).cls == .cyclic || (s.desc t).cls == .event) && (s.task t).active

/-- Core `c` is there to be tested. -/
def State.coreThere (s : State) (c : Nat) : Bool := s.domState (2 + c) == 2 && s.flag (rk (ecorePage c) Reg.CTRL) 0

/-- A slice of 20 µs that starts now ends at least 2 µs before the next loop frame boundary (R482). DEDUCED: log entry 143. -/
def State.sliceFits (s : State) : Bool := decide (s.lfiCyc + 5500 ≤ 15625)

/-- CORE_SELF_TEST_SLICE: `ok` says that the signature agrees, `last` that the pass ends with this slice. A core with a ready CYCLIC or EVENT
task starts none, nor does one too near to the next boundary (R482). -/
def execCoreSelfTestSlice (core : Fin 4) (last ok : Bool) (s : State) : Res :=
  .next <|
    let c := core.val
    if !s.logicRuns || !s.coreThere c || s.coreBusy c || !s.sliceFits then s
    else if !ok then s.testResult (16 + c) c false
    else if last then (s.testResult (16 + c) c true).testDone c
    else s

/-- GOLDEN_VECTOR_SET: the number of a vector that differs, if one does (R483). -/
def execGoldenVectorSet (wrong : Option (Fin 64)) (s : State) : Res :=
  .next <|
    if !s.logicRuns || s.domState 6 != 2 then s
    else match wrong with
      | some v => s.testResult 20 v.val false
      | none => (s.testResult 20 0 true).testDone 4

/-- MRAM_SCAN: every unit is read and checked; one that fails on two scans sets bit 21, a scan without a failing unit clears it (R481, R490,
R492). -/
def execMramScan (s : State) : Res :=
  .next <|
    if !s.logicRuns then s
    else
      let bad := (s.mem.mramErr.filter fun e => decide (2 ≤ e.2)).map (·.1)
      let s := s.mem.mramErr.foldl (fun s e => s.mramTouched e.1) s
      let twice := bad.filter fun u => s.proof.mramOnce.contains u || s.proof.mramBad.contains u
      let s := if bad.isEmpty || !twice.isEmpty then s else s.singleFailure 21 0
      { s with proof := { s.proof with
        mramOnce := bad, mramBad := if bad.isEmpty then [] else twice.foldl insertNew s.proof.mramBad } }

/-- NOR_IMAGE_CHECK: whether the hash of the running bank is the one verified in ROM_VERIFY (R481). -/
def execNorImageCheck (same : Bool) (s : State) : Res := .next (if s.logicRuns then s.testResult 22 0 same else s)

/-- PULSE_TEST_END: the controller's stage behaved (0), failed to open or to close again (4), or the terminal fell (5) (R485). -/
def execPulseTestEnd (group : Fin 32) (outcome : BitVec 3) (s : State) : Res :=
  .next <|
    let k := group.val
    let g := s.grp k
    match g.pulse with
    | none => s
    | some p =>
      let res := if outcome = 0 then 0 else if outcome = 5 then 5 else 4
      s.setGrp k ({ g with pulse := none, mbAck := p.1, mbRes := res }.settle k)

/-! ## Pulse tests at the logic end (R485, R488) -/

/-- A pulse length from 50 to 199 µs, which the spec leaves open, and the write that asks for the test.
DESIGN CHOICE: log entry 88. -/
def State.askPulse (s : State) (k c : Nat) : State :=
  let len := 50 + s.freeVal.toNat % 150
  s.drawn.onLink k fun l => { l with
    pulseRes := none, special := l.special ++ [{ op := 1, addr := 0x1F0, data := BitVec.ofNat 32 (len * 256 + c) }] }

/-- A pulse test of a channel has ended with an MB_RES: 0x04 is a failure, twice the bit's; 0x00 passes (R484, R485, R490). -/
def State.pulseResult (s : State) (k c res : Nat) : State :=
  let n := 16 * k + c
  let once := s.proof.pulseOnce.filter (· != n)
  if res = 4 then
    if s.proof.pulseOnce.contains n then
      { s with proof := { s.proof with pulseOnce := once, pulseBad := insertNew s.proof.pulseBad n } }
    else { s.singleFailure 29 n with proof := { s.proof with pulseOnce := insertNew s.proof.pulseOnce n } }
  else if res = 0 then ({ s with proof := { s.proof with pulseOnce := once } }).testDone (0x1000 + n)
  else s

/-! ## Requests (R486 to R489) -/

/-- TARGET lies in the range of its kind (R486): a core; nothing; a slot and a channel; a slot. -/
def targetOk (kind target : Nat) : Bool :=
  let slot := target / 256
  let chan := decide (target % 256 < 16)
  match kind with
  | 1 => decide (target < 4)
  | 2 | 7 => target == 0
  | 3 | 5 => chan && decide (32 ≤ slot ∧ slot < 48)
  | 4 | 8 => chan && decide (slot < 32)
  | 6 => decide (target % 256 = 0 ∧ slot < 57) && grpKind slot != 0
  | _ => false

/-- QLEVEL follows the queue (R496). -/
def State.showQueue (s : State) : State := s.setFld Reg.PROOF_REQ_TKT 8 5 s.proof.queue.length

/-- A request completes with a RESULT: 1 PASS, 2 FAIL, 3 BUSY_DRIVING, 4 ABORTED, 5 REFUSED, 6 NOT_OWN (R496, R497). -/
def State.completeReq (s : State) (r : ProofReq) (result : Nat) : State :=
  let v := result * 2 ^ 28 + r.kind * 2 ^ 16 + r.ticket
  let cause := if result ≤ 2 then 0x04 else if result = 4 then 0x07 else 0x05
  ((s.setReg Reg.PROOF_REQ_RES (BitVec.ofNat 32 v)).setEvt Reg.PROOF_PROOF_EVT 2).logProof 0xFFF cause (BitVec.ofNat 64 v)

/-- The effect of a write of PROOF.REQ (R486, R496). -/
def State.writeReq (s : State) (v : W32) : State :=
  let kind := fieldOf v 16 8
  let side := fieldOf v 30 2
  let target := fieldOf v 0 16
  let s := s.countMod Reg.PROOF_REQ_TKT 0 8 1
  let r : ProofReq := { kind := kind, target := target, ticket := s.fld Reg.PROOF_REQ_TKT 0 8 }
  if !targetOk kind target || decide (16 ≤ s.proof.queue.length) then s.completeReq r 5
  else if side ≠ 0 ∧ side ≠ s.side then s.completeReq r 6
  else ({ s with proof := { s.proof with queue := s.proof.queue ++ [r] } }).showQueue

/-- A write of PROOF.REQ with one kind in it. -/
def State.request (s : State) (w : Writer) (kind : Nat) (side : BitVec 2) (target : BitVec 16) : State :=
  let v := BitVec.ofNat 32 (side.toNat * 2 ^ 30 + kind * 2 ^ 16 + target.toNat)
  s.command w Reg.PROOF_REQ v fun s => s.writeReq v

/-- PROOF_REQ_CORE_TEST (R486). -/
def execProofReqCoreTest (w : Writer) (side : BitVec 2) (target : BitVec 16) (s : State) : Res := .next (s.request w 1 side target)
/-- PROOF_REQ_GOLDEN_VECTORS (R486). -/
def execProofReqGoldenVectors (w : Writer) (side : BitVec 2) (target : BitVec 16) (s : State) : Res := .next (s.request w 2 side target)
/-- PROOF_REQ_SPARE_VISIT (R486). -/
def execProofReqSpareVisit (w : Writer) (side : BitVec 2) (target : BitVec 16) (s : State) : Res := .next (s.request w 3 side target)
/-- PROOF_REQ_PULSE_TEST (R486). -/
def execProofReqPulseTest (w : Writer) (side : BitVec 2) (target : BitVec 16) (s : State) : Res := .next (s.request w 4 side target)
/-- PROOF_REQ_CALIBRATION (R486). -/
def execProofReqCalibration (w : Writer) (side : BitVec 2) (target : BitVec 16) (s : State) : Res := .next (s.request w 5 side target)
/-- PROOF_REQ_LINK_TEST (R486). -/
def execProofReqLinkTest (w : Writer) (side : BitVec 2) (target : BitVec 16) (s : State) : Res := .next (s.request w 6 side target)
/-- PROOF_REQ_HOLDUP (R486). -/
def execProofReqHoldup (w : Writer) (side : BitVec 2) (target : BitVec 16) (s : State) : Res := .next (s.request w 7 side target)
/-- PROOF_REQ_CLEAR_PULSE (R486). -/
def execProofReqClearPulse (w : Writer) (side : BitVec 2) (target : BitVec 16) (s : State) : Res := .next (s.request w 8 side target)

/-- The front request has completed: it leaves the queue (R487). -/
def State.finishReq (s : State) (r : ProofReq) (result : Nat) : State :=
  let s := { s with proof := { s.proof with queue := s.proof.queue.tail, busy := none } }
  s.showQueue.completeReq r result

/-- The channel of a request, 16 × group slot + channel. -/
def ProofReq.channel (r : ProofReq) : Nat := r.target / 256 * 16 + r.target % 16

/-- A hold-up measurement (R71). -/
def State.holdupMeasured (s : State) (time : BitVec 16) : State :=
  match execHoldupMeasurement time s with
  | .next s => s
  | _ => s

/-- A request for the test of bit `b`: a first failure is repeated at once, so that the request runs again (R484, R487). -/
def State.runTwice (s : State) (r : ProofReq) (b inst test : Nat) (ok : Bool) : State :=
  let again := !ok && !s.proof.failed.contains b
  let s := s.testResult b inst ok
  if again then s else (s.testDone test).finishReq r (if ok then 1 else 2)

/-- A request that disturbs nothing runs to its end (R487): KIND 0x01, 0x02, 0x03, 0x07 and 0x08. -/
def State.runQuiet (s : State) (r : ProofReq) (f : ProofFinding) : State :=
  match r.kind with
  | 1 => s.runTwice r (16 + r.target) r.target r.target f.ok
  | 2 => s.runTwice r 20 0 4 f.ok
  | 3 =>
    let k := r.group
    let c := r.target % 16
    let g := s.grp k
    if g.held || g.spareBad || g.mode k c == 0 then s.finishReq r 2
    else
      let s := s.spareEnd k c f.d.toInt
      s.finishReq r (if ((s.grp k).agc c).calFail then 2 else 1)
  | 7 =>
    let s := s.holdupMeasured f.time
    s.finishReq r (if s.flag Reg.PWR_SUP_STAT 9 then 2 else 1)
  | _ =>
    let n := r.channel
    let s := { s with proof := { s.proof with pulseOnce := s.proof.pulseOnce.filter (· != n), pulseBad := s.proof.pulseBad.filter (· != n) } }
    s.finishReq r 1

/-- A disturbing request may start on its group: free or covered, for a pulse test covered; a channel with PULSE set takes no further pulse test
(R488, R492). -/
def State.mayDisturb (s : State) (r : ProofReq) : Bool :=
  let k := r.group
  if r.kind = 4 then s.proof.covered.contains k && !s.proof.reserved.contains k && !s.proof.pulseBad.contains r.channel
  else s.groupQuiet k

/-- A disturbing request starts (R485, R486, R488, R636). -/
def State.beginDisturb (s : State) (r : ProofReq) : State :=
  let k := r.group
  let s' := { s with proof := { s.proof with busy := some (s.duty k) } }
  match r.kind with
  | 4 => s'.askPulse k (r.target % 16)
  | 5 => if (s.grp k).mode k (r.target % 16) = 3 then s' else s.finishReq r 5
  | _ =>
    if s.domState 23 ≠ 2 ∨ s.testState 7 = 1 then s.finishReq r 5
    else
      (s'.setReg (testKey Reg.TEST_SCFG 7) (BitVec.ofNat 32 (2 * 2 ^ 28 + k * 2 ^ 16 + 2 ^ 12 + 1))).beginTest 7

/-- The three points of a calibration lie within CAL_TOL of 4.0, 12.0 and 20.0 mA (R486, R487). -/
def State.calibrated (s : State) (k : Nat) (f : ProofFinding) : Bool :=
  let tol := 1000 * fieldOf ((s.grp k).cfgAt k 0x100) 24 8
  [(f.at4, 4000000), (f.at12, 12000000), (f.at20, 20000000)].all fun e => decide (((e.1.toNat : Int) - (e.2 : Nat)).natAbs ≤ tol)

/-- A disturbing request that runs ends once its result is there; a pulse test that fails once is made again (R484 to R487). -/
def State.endDisturb (s : State) (r : ProofReq) (f : ProofFinding) : State :=
  let k := r.group
  let n := r.channel
  match r.kind with
  | 4 =>
    match (s.grp k).link.pulseRes with
    | none => s
    | some res =>
      let again := res == 4 && !s.proof.pulseOnce.contains n
      let s := s.pulseResult k (r.target % 16) res
      if again then s.askPulse k (r.target % 16) else
      let s := if res = 0 then { s with proof := { s.proof with pulseBad := s.proof.pulseBad.filter (· != n) } } else s
      s.finishReq r (if res = 0 then 1 else if res = 4 then 2 else if res = 5 then 3 else 2)
  | 5 =>
    if s.calibrated k f then ({ s with proof := { s.proof with calBad := s.proof.calBad.filter (· != n) } }).finishReq r 1
    else ({ s with proof := { s.proof with calBad := insertNew s.proof.calBad n } }).finishReq r 2
  | _ =>
    match s.testState 7 with
    | 1 => s
    | 2 =>
      let clean := s.reg (testKey Reg.TEST_BERR 7) == 0 && s.reg (testKey Reg.TEST_SEC1 7) == 0
      s.finishReq r (if clean then 1 else 2)
    | _ => s.finishReq r 4

/-- PROOF_REQUEST_RUN: the front request runs. One that disturbs starts first, unless its group is neither free nor covered, and is issued again
when its result is there; `found` is what the others find (R487, R488). -/
def execProofRequestRun (found : ProofFinding) (s : State) : Res :=
  .next <|
    match s.proof.queue.head? with
    | none => s
    | some r =>
      if !s.logicRuns then s
      else if !r.disturbs then s.runQuiet r found
      else if s.proof.busy.isSome then s.endDisturb r found
      else if !s.mayDisturb r then s.finishReq r 3
      else s.beginDisturb r

/-- The front request disturbs, runs, and has lost what it needs (R489). -/
def State.requestLost (s : State) : Bool :=
  match s.proof.queue.head?, s.proof.busy with
  | some r, some d => d != s.duty r.group || !s.mayDisturb r
  | _, _ => false

/-- A disturbing request that has lost what it needs ends ABORTED, its loopback's session with it (R489). -/
def State.watchRequest (s : State) : State :=
  if s.requestLost then
    match s.proof.queue.head? with
    | some r => (if r.kind = 6 then s.abortTest 7 else s).finishReq r 4
    | none => s
  else s

/-! ## The latent-fault map (R490 to R493) -/

/-- More than 16 corrected errors in the last hour. -/
def State.manyErrors (s : State) (l : List W64) : Bool :=
  match l[16]? with
  | some t => !s.since (some t) (secTicks 3600)
  | none => false

/-- The groups in use: their reports have been admitted. -/
def State.usedGroups (s : State) : List Nat := (List.range 57).filter fun k => grpKind k != 0 && (s.grp k).link.shown

/-- The timers of bits 3 and 34 and of the automatic switch-over: since when the die has been hot or cool, CLMI has differed from or agreed with
the peer's heartbeats, and the peer's score has exceeded the own one by the margin (R490, R493). `die` is the hottest sensor in 0.0625 °C. -/
def State.latentTimers (s : State) (die : Int) : State :=
  let now := s.time.ltb
  let keep := fun (on : Bool) (a : Option W64) => if on then some (a.getD now) else none
  let same := (s.fld Reg.CLAIM_PEER 18 2 == 1) == (s.fld Reg.CLAIM_PEER 14 2 == 3)
  { s with proof := { s.proof with
    margin := keep s.outscored s.proof.margin, hot := keep (decide (1680 < die)) s.proof.hot, cool := keep (decide (die < 1600)) s.proof.cool
    differ := keep (s.twinSync && !same) s.proof.differ, agree := keep (s.twinSync && same) s.proof.agree } }

/-- The condition of a bit that has no units, with the bit as it stood (R490). -/
def State.latentCond (s : State) (b : Nat) (old : Bool) : Bool :=
  let p := s.proof
  let temp := s.reg Reg.SYS_CT_TEMP
  let lost := fun lane => !s.laneUp lane && !s.flag Reg.SYS_CT_IN0 7
  match b with
  | 0 => s.fld Reg.PWR_SUP_STAT 0 3 != 0
  | 1 => s.fld Reg.PWR_SUP_STAT 3 3 != 0
  | 2 => s.flag Reg.PWR_SUP_STAT 9
  | 3 => s.since p.hot (secTicks 10) || (old && !s.since p.cool (secTicks 60))
  | 4 => fieldOf temp 30 2 == 2 || decide (1360 < (BitVec.ofNat 16 (fieldOf temp 0 16)).toInt)
  | 8 => s.manyErrors p.ceTpm
  | 9 => p.ueTpm.isSome && !s.since p.ueTpm (secTicks 86400)
  | 10 => s.manyErrors p.cePm
  | 11 => p.uePm
  | 21 => !p.mramBad.isEmpty
  | 26 => (List.range 57).any fun k => (s.idle k).faulty
  | 32 => lost 0
  | 33 => lost 1
  | 34 => s.since p.differ 125000 || (old && !s.since p.agree (secTicks 1))
  | 36 => decide (s.fld Reg.PROOF_CFG 0 16 * 1000 < s.fld Reg.PROOF_ROUND_AGE 0 32)
  | _ => p.latched.contains b

/-- The channels of current-loop groups that report calibration failure (R378, R388, R490). -/
def State.calFailing (s : State) : List Nat :=
  (List.range 256).filterMap fun n =>
    let p := 0x0A0 + n / 16
    if s.fld (rk p (0x10C + 4 * (n % 16 / 8))) (4 * (n % 8)) 4 = 6 then some (512 + n) else none

/-- The units of a bit that has some (R490). -/
def State.latentUnits (s : State) (b : Nat) : List Nat :=
  match b with
  | 24 => s.usedGroups.filter fun k => (s.grp k).link.timedOut && !s.pair.moved.contains (grpPage k)
  | 25 => s.pair.moved.map (· - 0x080)
  | 27 => ((List.range 16).map (32 + ·)).filter fun k => s.flag (rk (grpPage k) 0x12C) 31
  | 28 => s.proof.calBad.foldl insertNew s.calFailing
  | _ => s.proof.pulseBad

/-- The bits of the map that have units, and all bits (R490). -/
def hasUnits (b : Nat) : Bool := [24, 25, 27, 28, 29].contains b
def latentBits : List Nat := [0, 1, 2, 3, 4, 8, 9, 10, 11, 12, 16, 17, 18, 19, 20, 21, 22, 24, 25, 26, 27, 28, 29, 32, 33, 34, 36]

/-- The class of a bit: 0 A, 1 B, 2 C (R490). -/
def latentClass (b : Nat) : Nat :=
  if [11, 21, 22, 27, 29].contains b then 1 else if [12, 16, 17, 18, 19, 20].contains b then 2 else 0

/-- The deduction of a bit with `n` units (R490). -/
def deduction (b n : Nat) : Nat :=
  match b with
  | 4 | 8 | 10 => 16
  | 9 => 96
  | 11 => 256
  | 12 | 16 | 17 | 18 | 19 | 20 => 512
  | 22 => 128
  | 24 | 25 => 128 * n
  | 26 | 32 | 33 | 34 | 36 => 32
  | 27 => 32 * n
  | 28 => min (8 * n) 64
  | 29 => min (32 * n) 128
  | _ => 64

/-- The page that DATA of a set bit gives: the group of a unit for bits 24 to 29 (R497). -/
def unitPage (b u : Nat) : Nat := if b = 24 ∨ b = 25 ∨ b = 27 then grpPage u else if b = 28 ∨ b = 29 then grpPage (u / 16) else 0

/-- The module goes OFF-LINE by class C, and stays so to the next whole-logic reset (R492). -/
def State.classCOffLine (s : State) : State :=
  let s := { s with
    pair := { s.pair with ready := false, sched := none, nextRole := none }
    proof := { s.proof with offLine := true, leaving := false } }
  (((s.setClaimRole 0).setRole 5).stopRunning.setFlag Reg.TWIN_SYNC 27 false).setStep 0 |>.unmoveAll

/-- The reaction of class C, by the role (R492). -/
def State.reactC (s : State) : State :=
  let s := (s.setEvt Reg.PROOF_PROOF_EVT 1).logProof 0xFFF 0x06 (s.roleByte.setWidth 64)
  if s.role = 3 then s.classCOffLine
  else if s.peerReady then { s.planSwitch with proof := { s.proof with leaving := true } }
  else s

/-- A unit enters a bit: logged with the severity of its class, and marked new (R490, R492, R497). -/
def State.enterUnit (s : State) (b u : Nat) : State :=
  let cls := latentClass b
  let data := if b = 26 then ((List.range 57).find? fun k => (s.idle k).faulty).map grpPage |>.getD 0 else unitPage b u
  let s := s.logSev 0x0D2 b 0x01 (if cls = 2 then 4 else 2) (BitVec.ofNat 64 data)
  let s := s.orReg (if b < 32 then Reg.PROOF_NEW_LO else Reg.PROOF_NEW_HI) (1#32 <<< (b % 32))
  s.setEvt Reg.PROOF_PROOF_EVT 0

/-- One bit of the map is evaluated (R490, R492). -/
def State.evalBit (s : State) (b : Nat) : State :=
  let old := sget (dflt []) s.proof.units b
  let new := if hasUnits b then s.latentUnits b else if s.latentCond b (!old.isEmpty) then [0] else []
  let entered := new.filter fun u => !old.contains u
  let s := { s with proof := { s.proof with units := sset (dflt []) s.proof.units b new } }
  let s := entered.foldl (fun s u => s.enterUnit b u) s
  let s := if !old.isEmpty && new.isEmpty then s.logProof b 0x02 else s
  if !entered.isEmpty && latentClass b == 2 then s.reactC else s

/-- The map and SCORE show the evaluation (R490, R491). -/
def State.showLatent (s : State) : State :=
  let set := latentBits.filter fun b => !(sget (dflt []) s.proof.units b).isEmpty
  let map := (set.map fun b => 2 ^ b).sum
  let sum := (set.map fun b => deduction b (sget (dflt []) s.proof.units b).length).sum
  ((s.setReg Reg.PROOF_LATENT_LO (BitVec.ofNat 32 map)).setReg Reg.PROOF_LATENT_HI (BitVec.ofNat 32 (map / 2 ^ 32))).setFld
    Reg.PROOF_SCORE 0 10 (1000 - sum)

/-- A channel takes continuous pulse tests now: a covered group, an output whose obeyed command is on, PULSE not set (R481, R485, R492). -/
def State.pulseDue (s : State) (k c : Nat) : Bool :=
  let n := 16 * k + c
  fieldOf (s.reg (rk (grpPage k) (0x140 + 4 * c))) 16 3 == 4 && (s.outWord (grpPage k) c).data.getLsbD 0 && !s.proof.pulseBad.contains n

/-- The tests of 64 s or less that a round needs, by number: cores 0 to 3, the golden vectors 4, links 0x100 + slot, channels
0x1000 + 16 × slot + channel (R481). -/
def State.roundTests (s : State) : List Nat :=
  let cores := (List.range 4).filter s.coreThere
  let gold := if s.domState 6 = 2 then [4] else []
  let links := s.usedGroups.map (0x100 + ·)
  let chan := s.usedGroups.flatMap fun k => chans.filterMap fun c =>
    let cfg := s.reg (rk (grpPage k) (0x140 + 4 * c))
    let gcfg := s.reg (rk (grpPage k) 0x100)
    let on := match grpKind k with
      | 0xA0 => gcfg.getLsbD 23 && !s.flag (rk (grpPage k) 0x12C) 31 && fieldOf cfg 20 3 != 0
      | 0x80 => s.proof.covered.contains k && s.pulseDue k c
      | _ => false
    if on then some (0x1000 + 16 * k + c) else none
  cores ++ gold ++ links ++ chan

/-- A round completes when every test that it needs has completed a pass; ROUND_AGE counts ms (R481, R496). -/
def State.roundStep (s : State) : State :=
  let need := s.roundTests
  let s :=
    if !need.isEmpty && need.all s.proof.done.contains then
      ({ s with proof := { s.proof with roundAt := s.time.ltb, done := [] } }).countMod Reg.PROOF_ROUND 16 16 1
    else s
  s.setReg Reg.PROOF_ROUND_AGE (BitVec.ofNat 32 (min ((s.time.ltb - s.proof.roundAt).toNat / 125000) (2 ^ 32 - 1)))

/-- The continuous pulse tests: a result that has come is taken; on a covered group without a test under way the next due channel, 60 s after its
last one, is tested (R481, R485). -/
def State.pulseStep (s : State) (k : Nat) : State :=
  let asked := (s.proof.queue.head?.any fun r => r.kind == 4 && r.group == k) && s.proof.busy.isSome
  if grpKind k ≠ 0x80 || asked then s
  else
    let last := s.proof.pulseAt.filter fun e => e.1 / 16 == k
    let s :=
      match (s.grp k).link.pulseRes with
      | none => s
      | some res =>
        let c := (last.foldl (fun (a : Nat × Nat) e => let t := (e.2.getD 0).toNat; if a.2 ≤ t then (e.1 % 16, t) else a) (0, 0)).1
        (s.pulseResult k c res).onLink k fun l => { l with pulseRes := none }
    let idle := (s.grp k).link.special.isEmpty && (s.grp k).pulse.isNone
    let due := chans.find? fun c =>
      s.pulseDue k c && (!(sget (dflt none) s.proof.pulseAt (16 * k + c)).isSome || s.since (sget (dflt none) s.proof.pulseAt (16 * k + c)) (secTicks 60))
    match due with
    | some c =>
      if s.proof.covered.contains k && idle then
        ({ s with proof := { s.proof with pulseAt := sset (dflt none) s.proof.pulseAt (16 * k + c) (some s.time.ltb) } }).askPulse k c
      else s
    | none => s

/-! ## The health report (R494, R495, R542) -/

/-- The report's bytes but for CHECK (R494). -/
def State.reportBody (s : State) (die : BitVec 16) : List Byte :=
  let sat := fun v => natBytes (min v 0xFFFF) 2
  let links := (groupPages.map fun p => s.fld (rk p 0x118) 16 16).sum
  let lanes := ([0, 1].map fun i => s.fld (Reg.TWIN_LANE_CNTk + 4 * i) 0 16 + s.fld (Reg.TWIN_LANE_CNTk + 4 * i) 16 16).sum
  let temp := s.reg Reg.SYS_CT_TEMP
  [1, s.roleByte] ++ natBytes (s.fld Reg.CLAIM_OWN 0 16) 2 ++ natBytes (s.fld Reg.PROOF_SCORE 0 10) 2 ++ natBytes s.ownPair 2
    ++ natBytes (s.reg Reg.OTP_SERIAL_LO).toNat 4 ++ natBytes (s.reg (Reg.OTP_SERIAL_LO + 4)).toNat 4
    ++ natBytes (s.reg Reg.PROOF_LATENT_LO).toNat 4 ++ natBytes (s.reg Reg.PROOF_LATENT_HI).toNat 4 ++ natBytes s.otsNs.toNat 8
    ++ sat (s.fld Reg.TPMC_CE_CNT 0 16 + s.fld Reg.PMC_CE_CNT 0 16) ++ sat (s.fld Reg.TPMC_UE_CNT 0 16 + s.fld Reg.PMC_UE_CNT 0 16)
    ++ sat links ++ sat lanes ++ natBytes (s.fld Reg.PROOF_ROUND 0 16) 2 ++ natBytes (s.fld Reg.PROOF_ROUND 16 16) 2
    ++ natBytes (s.reg Reg.PROOF_ROUND_AGE).toNat 4 ++ natBytes die.toNat 2
    ++ natBytes (if 2 ≤ fieldOf temp 30 2 then 0x8000 else fieldOf temp 0 16) 2
    ++ natBytes (s.fld Reg.PWR_LSA_MON 0 16) 2 ++ natBytes (s.fld Reg.PWR_LSB_MON 0 16) 2 ++ natBytes (s.fld Reg.PWR_HOLDUP_MEAS 0 16) 2
    ++ natBytes (s.fld Reg.PWR_FSUP_STAT 0 12) 2 ++ [0, 0]

/-- REPORT0 to REPORT15 change together (R494). DESIGN CHOICE: log entry 88. -/
def State.writeReport (s : State) (die : BitVec 16) : State :=
  let body := s.reportBody die
  let b := body ++ natBytes (crc16 body).toNat 2
  (List.range 16).foldl (fun s k => s.setReg (Reg.PROOF_REPORTk + 4 * k) (BitVec.ofNat 32 (leAt b (4 * k) 4))) s

/-- Proof's part in a loop frame boundary `g` (R481, R490 to R494). -/
def State.proofBoundary (s : State) (g : W64) (die : BitVec 16) : State :=
  if s.isolated 0x0D2 then s
  else
    let s := (groupPages.map (· - 0x080)).foldl State.pulseStep s
    let s := (s.roundStep).latentTimers die.toInt
    let s := (latentBits.foldl State.evalBit s).showLatent
    let s := if s.proof.leaving && s.role == 3 then s.classCOffLine else s
    if g.toNat % 1600 = 0 then s.writeReport die else s

/-- The frame of the health report that switch `sw` sends, without its FCS (R530, R542). -/
def State.reportFrame (s : State) (sw : Nat) : List Byte :=
  let report := (List.range 16).flatMap fun k => natBytes (s.reg (Reg.PROOF_REPORTk + 4 * k)).toNat 4
  beBytes 0x034348000001 6 ++ beBytes (s.moduleMac sw) 6 ++ beBytes 0x88B5 2
    ++ s.newHeader sw s.proof.seq true (beBytes 0x88B6 2) ++ [1, 1, 0, 0] ++ report

/-- HEALTH_REPORT_PUBLISH: unless PUB_EN is 0 or R473, SYNCING or OFF-LINE keeps the module silent, one copy leaves each switch, both with one
SEQ of the module's own counter (R495, R533, R542). -/
def execHealthReportPublish (s : State) : Res :=
  .next <|
    if !s.logicRuns || !s.flag Reg.PROOF_CFG 16 || s.silent || decide (4 ≤ s.role) || s.ownPair == 0 then s
    else
      let s := ([0, 1].filter s.ethOn).foldl (fun (s : State) sw => s.hostSend sw (s.fld (netKey sw 0x104) 0 12) (s.reportFrame sw)) s.noneSent
      { s with proof := { s.proof with seq := (s.proof.seq + 1) % 2 ^ 24 } }

end Sys2Proof.Machine
end

