-- ==== Sys2Proof/Machine/Except.lean ====
section
/-! DEFINITION. The commands of the cores to the loop engine that wait (R187 to R192), and exceptions and interrupts as one operation (R179 to
R181, R184). -/

namespace Sys2Proof.Machine

/-! ## The queue to the loop engine (R187 to R192) -/

/-- The loop and word of an address in the loop record region; bits [2:0] are ignored (R140, R225, R258). -/
def loopAddr (a : W64) : Option (Nat × Nat) :=
  if 0x20000000 ≤ a.toNat ∧ a.toNat ≤ 0x200FFFFF then some ((a.toNat - 0x20000000) / 0x800, a.toNat % 0x800 / 8) else none

/-- A command that the loop engine accepts, on the holder, on a SOLO module or in lockstep (R259, R304, R305): LAST_ERR and the state. -/
def State.lxLand (s : State) (c k : Nat) (w : Nat) : LxCmd → Nat × State
  | .write _ v =>
    if s.follower then s.ownCopy { core := c, loop := k, word := some w, value := v }
    else s.landWrite k w v c s.loopBoundary true
  | .fix _ o =>
    if s.follower then s.ownCopy { core := c, loop := k, word := none, opt := o.toNat }
    else (0, s.landFix k o.toNat s.loopBoundary true c)
  | .read _ d => (0, s.setGreg c d.val (s.landed k w))

/-- A Fix command that no LX queue brings (R298, R305, R306, R308): by a core's write, which a task in lockstep makes on both modules, or from
elsewhere. One that arises on the holder alone shows at its boundary. -/
def State.fixCommand (s : State) (core : Option Nat) (k opt : Nat) : State :=
  if s.follower && s.lockstep then (s.ownCopy { core := core.getD anyCore, loop := k, word := none, opt := opt }).2
  else s.landFix k opt s.loopBoundary (core.isSome || !s.twinSync) (core.getD 0xFF)

/-- The effect of a write of LOOP.FIX_CMD (R308). -/
def State.writeFixCmd (s : State) (m : Master) (v : W32) : State :=
  let core := match m with
    | .core c => some c.val
    | _ => none
  if v.getLsbD 31 then s.fixCommand core (fieldOf v 0 9) (fieldOf v 16 2) else s

/-- FIX_KEEP: a Fix command with option KEEP lands (R298, R299). -/
def execFixKeep (loop : Fin 512) (s : State) : Res := .next (s.fixCommand none loop.val 0)

/-- FIX_RESCALE: a Fix command with option RESCALE lands. -/
def execFixRescale (loop : Fin 512) (s : State) : Res := .next (s.fixCommand none loop.val 1)

/-- FIX_CHECK: a Fix command with option CHECK lands. -/
def execFixCheck (loop : Fin 512) (s : State) : Res := .next (s.fixCommand none loop.val 2)

/-- FIX_CANCEL: a Fix command with option CANCEL lands. -/
def execFixCancel (loop : Fin 512) (s : State) : Res := .next (s.fixCommand none loop.val 3)

/-- One command is carried out or fails (R188 to R190). -/
def State.lxCarry (s : State) (c : Nat) (x : LxCmd) : State :=
  match loopAddr x.addr with
  | none => s.lxFail c x 1
  | some (k, w) =>
    if s.isolated 0x040 then s.lxFail c x 2
    else
      let r := s.lxLand c k w x
      if r.1 = 0 then r.2 else r.2.lxFail c x r.1

/-- The core whose queue the loop engine takes from next: in turn, in ascending core number, of those whose queue is not empty (R188). -/
def State.lxTurn (s : State) : Option Nat :=
  ((List.range 4).map fun i => (s.loop.turn + i) % 4).find? fun c => !(s.core c).lxq.isEmpty

/-- The loop engine takes the oldest command of the queue whose turn it is (R188). -/
def State.lxAccept (s : State) : State :=
  match s.lxTurn with
  | none => s
  | some c =>
    match (s.core c).lxq with
    | [] => s
    | x :: l =>
      let s := { s.setCore c { s.core c with lxq := l } with loop := { s.loop with turn := (c + 1) % 4 } }
      (s.lxCarry c x).countMod (coreKey c 0x308) 0 32 1

/-- The loop engine accepts commands while `p` holds, at most `n`. -/
def State.lxWhile (s : State) (n : Nat) (p : State → Bool) : State :=
  (List.range n).foldl (fun s _ => if p s then s.lxAccept else s) s

/-- LX_COMMAND_ACCEPT: the loop engine takes from core `c`'s queue, where it is its turn (R188). -/
def execLxCommandAccept (c : CoreId) (s : State) : Res := .next (if s.lxTurn = some c.val then s.lxAccept else s)

/-- An LX instruction issues its command at retirement; one that meets a full queue has waited for an entry (R188).
DEDUCED: log entry 24. -/
def State.lxIssue (s : State) (c : Nat) (x : LxCmd) : State :=
  let s := s.lxWhile 4 fun s => decide (16 ≤ (s.core c).lxq.length)
  (s.setCore c { s.core c with lxq := (s.core c).lxq ++ [x] }).countMod (coreKey c 0x304) 0 32 1

/-- An LXR to register `r` of core `c` is outstanding (R191). -/
def State.lxHolds (s : State) (c : Nat) (r : GReg) : Bool :=
  (s.core c).lxq.any fun x => match x with
    | .read _ d => d == r && d != 0
    | _ => false

/-- An instruction that uses the registers `l` has waited for the LXRs outstanding to them (R191): the engine has accepted the commands up
to those. At most what four queues hold. DEDUCED: log entry 24. -/
def State.lxWait (s : State) (c : Nat) (l : List GReg) : State := s.lxWhile 64 fun s => l.any (s.lxHolds c)

/-- The core waits until the engine has accepted all its commands, as an instruction does that needs what an LXR brings (R191, R192). -/
def State.lxDrain (s : State) (c : Nat) : State := s.lxWhile 68 fun s => !(s.core c).lxq.isEmpty

/-! ## Exceptions (R179 to R181, R184) -/

/-- An exception: CODE and SUB of R179, the bus response that caused it, the address of the access and the tag of ETAG, where it has them. -/
structure Exc where
  code : Nat
  sub : Nat := 0
  resp : Nat := 0
  addr : Option W64 := none
  tag : Option Tag := none
deriving DecidableEq, Repr

/-- The code of a response (R141). -/
def Resp.num : Resp → Nat
  | .okay => 0
  | .errDecode => 1
  | .errSize => 2
  | .errIsolated => 3
  | .errPriv => 4
  | .errEcc => 5
  | .errTag => 6

/-- The exception that a response raises in a core (R184); none for OKAY. -/
def Resp.exc (r : Resp) (addr : W64) (tag : Option Tag := none) : Option Exc :=
  let e (code : Nat) : Exc := { code := code, sub := r.num, resp := r.num, addr := some addr, tag := tag }
  match r with
  | .okay => none
  | .errSize => some (e 2)
  | .errPriv => some (e 4)
  | _ => some (e 3)

/-- CORE_STAT.EXC_ACTIVE, LEVEL (true for P) and IE of a core (R193). -/
def State.excActive (s : State) (c : Nat) : Bool := s.flag (coreKey c 0x100) 3
def State.levelP (s : State) (c : Nat) : Bool := s.flag (coreKey c 0x100) 2
def State.intsOn (s : State) (c : Nat) : Bool := s.flag (coreKey c 0x100) 4

/-- The entry of R180: `code` as ECAUSE shows it, the return address, and the place of the handler from EVBASE on. EADDR and ETAG of an entry
that has no address or tag are free values: the spec says that they are written, and not with what. DEDUCED: log entry 21. -/
def State.enter (s : State) (c : Nat) (e : Exc) (epc : W64) (vec : Nat) : State :=
  let k := coreKey c
  let s := (s.setReg64 (k 0x114) epc).setReg (k 0x11C) (BitVec.ofNat 32 (e.resp * 2 ^ 16 + e.sub % 256 * 2 ^ 8 + e.code % 256))
  let s := match e.addr with
    | some a => s.setReg64 (k 0x120) a
    | none => (s.setReg64 (k 0x120) s.freeVal).drawn
  let s := match e.tag with
    | some t => s.setReg (k 0x128) (t.setWidth 32)
    | none => (s.setReg (k 0x128) ((s.freeVal.setWidth 8).setWidth 32)).drawn
  let s := (s.setFlag (k 0x100) 5 (s.levelP c)).setFlag (k 0x100) 2 true
  let s := (s.setFlag (k 0x100) 4 false).setFlag (k 0x100) 3 true
  s.setCore c { s.core c with pc := s.reg64 (k 0x10C) + BitVec.ofNat 64 vec }

/-- A sync exception: entered with EPC at the instruction, or after it for SVC; LOCKUP where one is being handled (R180, R181). -/
def State.raise (s : State) (c : Nat) (e : Exc) : State :=
  if s.excActive c then
    s.assertReset 7 false (BitVec.ofNat 64 (c * 2 ^ 56 + s.fld (coreKey c 0x11C) 0 8 * 2 ^ 8 + e.code))
  else
    let pc := (s.core c).pc
    s.enter c e (if e.code = 0x0A then pc + 4 else pc) (0x40 * e.code)

/-- The cycles of a core that run or are preempted (R245). -/
def State.cyclesOn (s : State) (c : Nat) : List Nat :=
  (List.range 32).filter fun t =>
    let d := s.desc t
    d.core.val == c && (s.task t).active && (s.task t).started && (d.cls == .cyclic || d.cls == .event)

/-- The runtime's handler has turned `s` into `t`: where it has ended the cycle that core `c` ran, it returns to what the core runs now, and
not to EPC (R246). -/
def State.handled (s t : State) (c : Nat) : State :=
  let ended := match s.running c with
    | some k => !(t.task k).started
    | none => false
  if ended then t.setCore c { t.core c with nextPc := some (t.core c).pc } else t

/-- WDOG, then OVERRUN, where one waits and no exception is being handled (R180, R181). The runtime's handler takes the overrun's reaction
(R245 to R248); EPC keeps the address in the cycle that was cut. DEDUCED: log entry 23. -/
def State.takeAsync (s : State) (c : Nat) : State :=
  if s.excActive c then s
  else
    let pc := (s.core c).pc
    let x := s.core c
    if x.wdogPend then
      let s := s.setCore c { x with wdogPend := false }
      let t := if s.boot.running then (s.cyclesOn c).foldl (fun s t => s.overrun t 0x63) s else s
      (s.handled t c).enter c { code := 9 } pc 0x240
    else if x.overrunPend then
      let s := s.setCore c { x with overrunPend := false }
      let t := match s.running c with
        | some t => if s.boot.running then s.overrun t 0x60 else s
        | none => s
      (s.handled t c).enter c { code := 8 } pc 0x200
    else s

end Sys2Proof.Machine
end

