-- ==== Sys2Proof/Machine/Registers.lean ====
section
/-! DEFINITION. A register write by any master (R141 to R157): what each register stores of a written value, what a write of it does, and the
rows of the table for the registers that every page has (R145). -/

namespace Sys2Proof.Machine

/-! ## What a field stores of a written value -/

/-- The range of a field: `n` registers from `base` on, `st` bytes apart, of a block type; a value below `lo` or above `hi` is stored as the
nearest end, or leaves the field unchanged where `keep` says so. -/
structure FieldRule where
  blk : Nat
  base : Nat
  st : Nat := 4
  n : Nat := 1
  bit : Nat
  width : Nat
  lo : Nat
  hi : Nat
  keep : Bool := false

/-- The ranges of SYS, PWR, TWIN to PROOF, NET, TIME and DISP (R54, R163, R479, R496, R545, R567, R606, R417). -/
def rulesLogic : List FieldRule := [
  { blk := 0x00, base := 0x240, n := 24, bit := 4, width := 2, lo := 0, hi := 2, keep := true },
  { blk := 0x00, base := 0x240, n := 24, bit := 0, width := 2, lo := 0, hi := 2, keep := true },
  { blk := 0x00, base := 0x308, bit := 0, width := 8, lo := 0, hi := 4 },
  { blk := 0xD1, base := 0x108, bit := 0, width := 10, lo := 1, hi := 1023 },
  { blk := 0xD2, base := 0x134, bit := 0, width := 16, lo := 1, hi := 0xFFFF },
  { blk := 0xF0, base := 0x400, bit := 0, width := 16, lo := 1, hi := 0xFFFF },
  { blk := 0xF2, base := 0x16C, bit := 0, width := 32, lo := 1, hi := 0xFFFFFFFF },
  { blk := 0xF9, base := 0x100, bit := 16, width := 8, lo := 0, hi := 100 },
  { blk := 0xF9, base := 0x100, bit := 8, width := 8, lo := 0, hi := 100 },
  { blk := 0xF9, base := 0x100, bit := 0, width := 8, lo := 64, hi := 150 },
  { blk := 0xBA, base := 0x104, bit := 0, width := 7, lo := 1, hi := 64 }]

/-- The ranges of the field groups (R356, R388, R389, R415, R607). -/
def rulesField : List FieldRule := [
  { blk := 0x80, base := 0x100, bit := 0, width := 17, lo := 5, hi := 100000 },
  { blk := 0xA0, base := 0x100, bit := 0, width := 17, lo := 5, hi := 100000 },
  { blk := 0xB0, base := 0x100, bit := 0, width := 17, lo := 5, hi := 100000 },
  { blk := 0xB4, base := 0x100, bit := 0, width := 17, lo := 5, hi := 100000 },
  { blk := 0xB8, base := 0x100, bit := 0, width := 17, lo := 5, hi := 100000 },
  { blk := 0x80, base := 0x140, n := 16, bit := 16, width := 3, lo := 0, hi := 5, keep := true },
  { blk := 0x80, base := 0x140, n := 16, bit := 0, width := 11, lo := 1, hi := 1600 },
  { blk := 0xA0, base := 0x100, bit := 24, width := 8, lo := 1, hi := 255 },
  { blk := 0xA0, base := 0x140, n := 16, bit := 25, width := 2, lo := 0, hi := 2, keep := true },
  { blk := 0xA0, base := 0x140, n := 16, bit := 20, width := 3, lo := 0, hi := 4, keep := true },
  { blk := 0xA0, base := 0x140, n := 16, bit := 7, width := 7, lo := 0, hi := 100 },
  { blk := 0xB0, base := 0x140, n := 16, bit := 26, width := 2, lo := 0, hi := 2, keep := true },
  { blk := 0xB0, base := 0x140, n := 16, bit := 28, width := 4, lo := 0, hi := 13, keep := true },
  { blk := 0xB4, base := 0x140, n := 16, bit := 28, width := 4, lo := 0, hi := 8, keep := true },
  { blk := 0xB4, base := 0x140, n := 16, bit := 22, width := 2, lo := 0, hi := 1, keep := true },
  { blk := 0xB4, base := 0x140, n := 16, bit := 18, width := 4, lo := 0, hi := 12 },
  { blk := 0xB4, base := 0x140, n := 16, bit := 6, width := 10, lo := 1, hi := 1000 },
  { blk := 0xB4, base := 0x180, st := 8, n := 16, bit := 26, width := 6, lo := 8, hi := 48, keep := true },
  { blk := 0xB4, base := 0x180, st := 8, n := 16, bit := 16, width := 10, lo := 25, hi := 500, keep := true },
  { blk := 0xB4, base := 0x180, st := 8, n := 16, bit := 10, width := 6, lo := 15, hi := 60, keep := true },
  { blk := 0xB4, base := 0x184, st := 8, n := 16, bit := 8, width := 8, lo := 3, hi := 255 },
  { blk := 0xB4, base := 0x184, st := 8, n := 16, bit := 0, width := 8, lo := 0, hi := 100 },
  { blk := 0xB8, base := 0x140, n := 16, bit := 30, width := 2, lo := 0, hi := 2, keep := true },
  { blk := 0xB8, base := 0x180, st := 16, n := 16, bit := 20, width := 7, lo := 0, hi := 100 },
  { blk := 0xB8, base := 0x180, st := 16, n := 16, bit := 12, width := 8, lo := 1, hi := 255 },
  { blk := 0xB8, base := 0x180, st := 16, n := 16, bit := 0, width := 12, lo := 200, hi := 3000 }]

/-- The ranges that hold for a register. DEDUCED: log entry 15. -/
def fieldRules (p off : Nat) : List FieldRule :=
  (rulesLogic ++ rulesField).filter fun r => r.blk == pageBlock p && within r.base r.st r.n off

/-- One range, applied to the written value and to the mask of the fields that the write leaves unchanged. -/
def FieldRule.apply (r : FieldRule) (old : W32) (x : W32 × W32) : W32 × W32 :=
  let n := fieldOf x.1 r.bit r.width
  if r.lo ≤ n ∧ n ≤ r.hi then x
  else if r.keep then (withField x.1 r.bit r.width (fieldOf old r.bit r.width), x.2 ||| fieldMask r.bit r.width)
  else (withField x.1 r.bit r.width (if n < r.lo then r.lo else r.hi), x.2)

/-- What WDG_WIN stores of a written value (R105). -/
def State.wdgWinStored (s : State) (v : W32) : W32 :=
  let t := s.fld Reg.RST_WDG_CTRL 0 16
  if t ≤ fieldOf v 0 16 then withField v 0 16 (t - 1) else v

/-- What the remaining registers with a stated range store (R105, R522, R567, R574, R544, R631). -/
def State.shaped (s : State) (p off : Nat) (v : W32) : W32 :=
  match pageBlock p with
  | 0x02 => if off = 0x124 then s.wdgWinStored v else v
  | 0x07 => if decide (s.debugLevel < 2) && within 0x140 8 16 off then v &&& 0xFFFFFFFE else v
  | 0xE0 => canStored off v
  | 0xF0 =>
    if within 0x304 0x10 8 off then rctlStored 0 v
    else if within 0x384 0x10 8 off then rctlStored 8 v
    else v
  | 0xF2 => if off = 0x180 then tcCfgStored v else if off = 0x240 then tpoStored v else v
  | 0xF8 => if within 0x124 4 6 off then v &&& wtimeMask ((off - 0x120) / 4) else v
  | _ => v

/-- What a register stores of a written value, and the fields that a reserved pattern leaves unchanged (R154). -/
def State.stored (s : State) (p off : Nat) (v : W32) : W32 × W32 :=
  (fieldRules p off).foldl (fun x r => r.apply (s.reg (rk p off)) x) (s.shaped p off v, 0)

/-- The write reaches a field (R153, R154). -/
def State.reaches (s : State) (p off : Nat) (v : W32) : Bool :=
  match regRowOf (rk p off) with
  | none => false
  | some r => (s.openBits p r &&& ~~~ (s.stored p off v).2 ||| BitVec.ofNat 32 r.w1c) != 0

/-- A write that stores fields and does nothing more. One that reaches no field is not counted (R153, R154).
DEDUCED: log entry 107. -/
def State.plainWrite (s : State) (w : Writer) (p off : Nat) (v : W32) : State :=
  if s.reaches p off v then s.fieldWrite w p off v (s.stored p off v).1
  else match regRowOf (rk p off) with
    | none => s
    | some r => s.lockCheck w p off (BitVec.ofNat 32 r.rwl) v

/-! ## The common registers (R145 to R157) -/

/-- A write of CTRL (R147). -/
def State.writeCtrlOf (s : State) (w : Writer) (p : Nat) (v : W32) : State :=
  match pageBlock p with
  | 0xE0 => s.writeCanCtrl w p v
  | 0xF9 => s.writePanelCtrl w v
  | _ => s.writeCtrl w p v fun on s => s.enableEffect p on

/-- A write of TAG_CFG: reserved encodings leave their field unchanged (R156). -/
def State.writeTagCfg (s : State) (w : Writer) (p : Nat) (v : W32) : State :=
  let k := rk p Reg.TAG_CFG
  let s := s.lockCheck w p Reg.TAG_CFG 0x133 v
  if s.locked p then s
  else
    let old := s.reg k
    let v := if fieldOf v 4 2 = 3 then withField v 4 2 (fieldOf old 4 2) else v
    let v := if 2 ≤ fieldOf v 0 2 then withField v 0 2 (fieldOf old 0 2) else v
    (s.setReg k (v &&& 0x133)).countWrite p

/-- A write of a common register; those that are read-only, and reserved offsets, ignore it (R144, R145). -/
def State.commonEffect (s : State) (w : Writer) (p off : Nat) (v : W32) : State :=
  if off = Reg.CTRL then s.writeCtrlOf w p v
  else if off = Reg.IRQ_EN then ((s.setReg (rk p off) (v &&& irqBits (pageBlock p))).irqUpdate p).countWrite p
  else if off = Reg.IRQ_PEND then ((s.andNotReg (rk p off) v).irqUpdate p).countWrite p
  else if off = Reg.FAULT_CAUSE then s.writeFaultCause p v
  else if off = Reg.LOCK then s.lockWrite w p v
  else if off = Reg.TAG_CFG then s.writeTagCfg w p v
  else if off = Reg.PWR_REQ then s.writePwrReq w.master p v
  else s

/-! ## The registers of the system pages -/

/-- A write in the SYS page (R51 to R54, R138, R163, R164). -/
def State.sysEffect (s : State) (w : Writer) (off : Nat) (v : W32) : State :=
  let m := w.master.num
  if off = 0x108 then (s.tookCommand 0x108 v).writeShutdown v
  else if off = 0x20C then (s.plainWrite w 0x000 off v).outPins
  else if within 0x240 4 24 off then (s.plainWrite w 0x000 off v).driveGp ((off - 0x240) / 4)
  else if off = 0x310 then
    ({ s with log := { s.log with pdata0 := sset (dflt 0) s.log.pdata0 m v } }).countWrite 0x000
  else if off = 0x314 then
    ({ s with log := { s.log with pdata1 := sset (dflt 0) s.log.pdata1 m v } }).countWrite 0x000
  else if off = 0x318 then
    ({ s with log := { s.log with psev := sset (dflt 0) s.log.psev m (sevStored v) } }).countWrite 0x000
  else if off = 0x31C then (s.countWrite 0x000).writePost w.master v
  else s.plainWrite w 0x000 off v

/-- A write in the RST page (R104, R105). DESIGN CHOICE: log entry 40. -/
def State.rstEffect (s : State) (w : Writer) (off : Nat) (v : W32) : State :=
  if off = 0x110 then (s.tookCommand 0x2110 v).writeSwreq v
  else if off = 0x114 then s.writeFrst v
  else if off = 0x120 then s.writeWdgCtrl w v
  else if off = 0x128 then ((s.countWrite 0x002).kick v s.kickInTime).drawn
  else s.plainWrite w 0x002 off v

/-- A write in the PWR page (R92, R632). -/
def State.pwrEffect (s : State) (w : Writer) (off : Nat) (v : W32) : State :=
  if off = 0x118 then s.writeBudget w v
  else if off = 0x164 then (s.tookCommand 0x3164 v).writePsreq v
  else s.plainWrite w 0x003 off v

/-- A write in the SEC page (R630). -/
def State.secEffect (s : State) (w : Writer) (off : Nat) (v : W32) : State :=
  if off = 0x104 then (s.tookCommand 0x4104 v).writeLcreq v
  else if off = 0x1C0 then (s.tookCommand 0x41C0 v).writeAuth v
  else if off = 0x1C4 then (s.tookCommand 0x41C4 v).writeKeyprog v
  else if off = 0x1CC then (s.tookCommand 0x41CC v).writeRbcommit v
  else s.plainWrite w 0x004 off v

/-- A write in the TEST page (R640). -/
def State.testEffect (s : State) (w : Writer) (off : Nat) (v : W32) : State :=
  if off = 0x100 then (s.plainWrite w 0x006 off v).showIdle
  else if within 0x204 0x40 8 off then (s.writeScmd ((off - 0x204) / 0x40) v).countWrite 0x006
  else s.plainWrite w 0x006 off v

/-- A write in the DBG page (R631). -/
def State.dbgEffect (s : State) (w : Writer) (off : Nat) (v : W32) : State :=
  if off = 0x100 then (s.writeDlevel v).countWrite 0x007
  else if off = 0x104 then (s.writeDrop v).countWrite 0x007
  else if off = 0x108 then s.writeRunctl w v
  else if off = 0x10C then (s.tookCommand 0x710C v).writeDbgreq v
  else s.plainWrite w 0x007 off v

/-! ## The ECORE pages (R167, R181, R182, R193) -/

/-- The effect of a write of CWDG_CTRL: EN from 0 to 1 loads the count (R182). -/
def State.writeCwdgCtrl (s : State) (w : Writer) (c : Nat) (v : W32) : State :=
  let was := s.flag (coreKey c 0x130) 16
  let s := s.fieldWrite w (ecorePage c) 0x130 v (if fieldOf v 0 16 = 0 then withField v 0 16 1 else v)
  if !was && s.flag (coreKey c 0x130) 16 then s.loadCwdg c else s

/-- The effect of a write of CWDG_KICK: the kick's word from the own core reloads the count; anything else is ignored (R182). -/
def State.kickCwdg (s : State) (m : Master) (c : Nat) (v : W32) : State :=
  if v = 0x0000A55A ∧ m.num = c then (s.loadCwdg c).countWrite (ecorePage c) else s

/-- The effect of a write of CACHE_OP: the L1 instruction cache holds nothing older than the program memory any longer (R167).
DESIGN CHOICE: log entry 110. -/
def State.writeCacheOp (s : State) (c : Nat) (v : W32) : State :=
  let s := s.countWrite (ecorePage c)
  if v.getLsbD 0 then s.setCore c { s.core c with stale := [] } else s

/-- A write in the ECORE page of core `c`. -/
def State.coreEffect (s : State) (w : Writer) (c off : Nat) (v : W32) : State :=
  if off = 0x130 then s.writeCwdgCtrl w c v
  else if off = 0x134 then s.kickCwdg w.master c v
  else if off = 0x150 then s.writeCacheOp c v
  else s.plainWrite w (ecorePage c) off v

/-! ## Loops, captures, field groups -/

/-- A write in the LOOP page (R285, R308). -/
def State.loopEffect (s : State) (w : Writer) (off : Nat) (v : W32) : State :=
  if off = 0x104 then (s.writeLdPeak v).countWrite 0x040
  else if off = 0x120 then (s.writeFixCmd w.master v).countWrite 0x040
  else s.plainWrite w 0x040 off v

/-- A write in the CAPT page; the other registers of a session that is ARMED or TRIGGERED take none (R323, R324). -/
def State.captEffect (s : State) (w : Writer) (off : Nat) (v : W32) : State :=
  if off < 0x200 then s.plainWrite w 0x041 off v
  else
    let n := (off - 0x200) / 0x80
    if (off - 0x200) % 0x80 = 0 ∧ n < 16 then s.writeSctrl n v
    else if n < 16 ∧ (s.capState n = 1 ∨ s.capState n = 2) then s
    else s.plainWrite w 0x041 off v

/-- A channel mode other than off ends a test of that channel (R638). -/
def State.modeEnabled (s : State) (p off : Nat) : State :=
  let c := (off - 0x140) / 4
  let v := s.reg (rk p off)
  match pageBlock p with
  | 0xB4 => if fieldOf v 28 4 ≠ 0 then s.abortTests fun cls i => cls == 6 && i == 16 * (p - 0x0B4) + c else s
  | 0xA0 => if fieldOf v 20 3 ≠ 0 then s.abortTests fun cls i => decide (7 ≤ cls) && i == 16 * (p - 0x0A0) + c else s
  | _ => s

/-- A configuration register of a field group: the mailbox sends it before its cycle goes on (R350). -/
def State.groupConfig (s : State) (w : Writer) (p off : Nat) (v : W32) : State :=
  if s.reaches p off v then
    let s := (s.plainWrite w p off v).linkDirty (p - 0x080) off
    if within 0x140 4 16 off then s.modeEnabled p off else s
  else s.plainWrite w p off v

/-- A write in a field group's page (R356, R388, R389, R415, R607). -/
def State.groupEffect (s : State) (w : Writer) (p off : Nat) (v : W32) : State :=
  let b := pageBlock p
  let k := p - 0x080
  if off = 0x114 ∧ (b = 0x80 ∨ b = 0xB8) then (s.writeOutClr p v).countWrite p
  else if off = 0x114 ∧ b = 0xB4 then (s.writeCgClr k v).countWrite p
  else if off = 0x12C ∧ b = 0xB4 then (s.writeHome k v).countWrite p
  else if b = 0xB4 ∧ within 0x204 8 16 off = true then (s.writePosset k ((off - 0x204) / 8) v).countWrite p
  else s.groupConfig w p off v

/-! ## Pair, networks, time and panel -/

/-- A write in a CAN page; the timing registers take none while the controller is enabled (R500, R522). -/
def State.canEffect (s : State) (w : Writer) (p off : Nat) (v : W32) : State :=
  if s.timingClosed p off then s else s.plainWrite w p off v

/-- A write in a NET page (R537, R544, R638). -/
def State.netEffect (s : State) (w : Writer) (p off : Nat) (v : W32) : State :=
  let sw := p - 0x0F0
  if within 0x30C 0x10 16 off then s.writeRtail w sw ((off - 0x30C) / 0x10) v
  else
    let s := s.plainWrite w p off v
    if within 0x304 0x10 16 off then s.ringKick sw ((off - 0x304) / 0x10)
    else if within 0x104 4 2 off && v.getLsbD 31 && s.flag (rk p off) 31 then
      s.abortTests fun cls i => cls == 3 && i == 2 * sw + (off - 0x104) / 4
    else s

/-- A write in a DC's registers (R549). -/
def State.dcEffect (s : State) (w : Writer) (n off : Nat) (v : W32) : State :=
  if off = 0x08 then (s.writeIncLo n v).countWrite 0x0F2
  else if off = 0x10 then (s.writeSlew n v).countWrite 0x0F2
  else if off = 0x18 then (s.writeSetLo n v).countWrite 0x0F2
  else if off = 0x1C then (s.writeSetHi n v).countWrite 0x0F2
  else s.plainWrite w 0x0F2 (0x110 + 0x20 * n + off) v

/-- A write in the TIME page (R549 to R567). -/
def State.timeEffect (s : State) (w : Writer) (off : Nat) (v : W32) : State :=
  if 0x110 ≤ off ∧ off < 0x150 then s.dcEffect w ((off - 0x110) / 0x20) ((off - 0x110) % 0x20) v
  else if within 0x150 4 2 off then s.writeDcCtrl w ((off - 0x150) / 4) v
  else if off = 0x158 then (s.kickServo v).countWrite 0x0F2
  else if off = 0x168 then s.writeOtsCtrl w v
  else if within 0x1A0 4 2 off then s.writeDomCfg w ((off - 0x1A0) / 4) v
  else if within 0x1DC 0x20 2 off then (s.popTsf ((off - 0x1DC) / 0x20) v).countWrite 0x0F2
  else if off = 0x230 then (s.popTpi v).countWrite 0x0F2
  else s.plainWrite w 0x0F2 off v

/-- A write in the RTC page (R574, R576, R584). -/
def State.rtcEffect (s : State) (w : Writer) (off : Nat) (v : W32) : State :=
  if off = 0x140 then (s.tookCommand 0xF8140 v).writeRtcSet v
  else if off = 0x15C then (s.writeBksw3 v).countWrite 0x0F8
  else s.plainWrite w 0x0F8 off v

/-- A write in the DISP page (R589, R595, R606). -/
def State.dispEffect (s : State) (w : Writer) (off : Nat) (v : W32) : State :=
  if off = 0x108 then (s.writeFlip v).countWrite 0x0F9
  else if off = 0x188 then (s.tookCommand 0xF9188 v).writeLamptest v
  else if s.shownWord off then
    match regRowOf (rk 0x0F9 off) with
    | some r => (s.waitWord off v (BitVec.ofNat 32 r.rw)).countWrite 0x0F9
    | none => s
  else s.plainWrite w 0x0F9 off v

/-- A write of a register of the logic's other pages that has an effect of its own. DESIGN CHOICE: log entry 40. -/
def State.pageEffect (s : State) (w : Writer) (p off : Nat) (v : W32) : State :=
  match pageBlock p with
  | 0x10 => s.coreEffect w (p - 0x010) off v
  | 0x20 => if off = 0x11C then (s.countWrite p).writeTagw v else s.plainWrite w p off v
  | 0x22 => if off = 0x104 then ((s.tookCommand 0x22104 v).writeNcmd v (s.freeVal.getLsbD 0)).drawn else s.plainWrite w p off v
  | 0x40 => s.loopEffect w off v
  | 0x41 => s.captEffect w off v
  | 0xB9 => if off = 0x230 then (s.writeShutPop v).countWrite p else s.plainWrite w p off v
  | 0xBA => if off = 0x114 then (s.writeSnapCmd v).countWrite p else s.plainWrite w p off v
  | 0xD0 => if off = 0x128 then (s.tookCommand 0xD0128 v).writeRejoin v else s.plainWrite w p off v
  | 0xD1 => if off = 0x10C then (s.tookCommand 0xD110C v).writeSwitch v else s.plainWrite w p off v
  | 0xD2 => if off = 0x120 then (s.writeReq v).countWrite p else s.plainWrite w p off v
  | 0xE0 => s.canEffect w p off v
  | 0xF0 => s.netEffect w p off v
  | 0xF2 => s.timeEffect w off v
  | 0xF8 => s.rtcEffect w off v
  | 0xF9 => s.dispEffect w off v
  | _ => s.plainWrite w p off v

/-- A write that has passed the gate and the tag check takes effect. DEDUCED: log entry 13. -/
def State.regEffect (s : State) (w : Writer) (p off : Nat) (v : W32) : State :=
  if off < 0x100 then s.commonEffect w p off v
  else match p with
    | 0x000 => s.sysEffect w off v
    | 0x002 => s.rstEffect w off v
    | 0x003 => s.pwrEffect w off v
    | 0x004 => s.secEffect w off v
    | 0x006 => s.testEffect w off v
    | 0x007 => s.dbgEffect w off v
    | _ => if 0x080 ≤ p ∧ p < 0x0B9 then s.groupEffect w p off v else s.pageEffect w p off v

/-- A register write as any master makes it (R141, R157). -/
def State.writeReg (s : State) (w : Writer) (p off : Nat) (v : W32) : State := s.access w p off v fun s => s.regEffect w p off v

/-- What a core holds pending is taken once a write has cleared EXC_ACTIVE (R181). -/
def State.afterWrite (s : State) (p : Nat) : State := if 0x010 ≤ p ∧ p ≤ 0x013 then s.takeAsync (p - 0x010) else s

/-! ## The rows -/

/-- REGISTER_WRITE: any register write (R141). DEDUCED: log entry 13. -/
def execRegisterWrite (w : Writer) (page off : Nat) (value : W32) (s : State) : Res :=
  .next ((s.writeReg w page off value).afterWrite page)

/-- BLOCK_RESET: a write of CTRL that keeps EN and FREEZE and has SRST at 1 (R115, R116). -/
def execBlockReset (w : Writer) (page : Nat) (s : State) : Res :=
  .next (s.writeReg w page Reg.CTRL ((s.reg (rk page Reg.CTRL) &&& 0x5) ||| 0x2))

/-- BLOCK_ENABLE: a write of CTRL (R147). -/
def execBlockEnable (w : Writer) (page : Nat) (value : W32) (s : State) : Res := .next (s.writeReg w page Reg.CTRL value)

/-- FREEZE_WRITE: a write of CTRL (R147). -/
def execFreezeWrite (w : Writer) (page : Nat) (value : W32) (s : State) : Res := .next (s.writeReg w page Reg.CTRL value)

/-- LOCK_ARM: a write of 0x0000_C0DE to LOCK (R152). -/
def execLockArm (w : Writer) (page : Nat) (s : State) : Res := .next (s.writeReg w page Reg.LOCK 0x0000C0DE)

/-- LOCK_UNLOCK: a write of the second word to LOCK, or of another (R152). -/
def execLockUnlock (w : Writer) (page : Nat) (value : W32) (s : State) : Res := .next (s.writeReg w page Reg.LOCK value)

/-- LOCK_RELOCK: a write to LOCK of an unlocked page (R152). -/
def execLockRelock (w : Writer) (page : Nat) (value : W32) (s : State) : Res := .next (s.writeReg w page Reg.LOCK value)

/-- LOCK_ARM_TIMEOUT: the 64th cycle after the arming write has ended without the second word (R152, R159). -/
def execLockArmTimeout (page : Nat) (s : State) : Res :=
  .next <| match sget (dflt none) s.carrier.armed page with
    | some a =>
      (s.setLock page 0 none).logEvt page 0xFFF 0xF0 (refusalData a.master a.tag.toNat Reg.LOCK 0xC0DE)
    | none => s

/-- FAULT_CAUSE_CLEAR: a write of FAULT_CAUSE (R150). -/
def execFaultCauseClear (w : Writer) (page : Nat) (value : W32) (s : State) : Res := .next (s.writeReg w page Reg.FAULT_CAUSE value)

/-- CORE_WATCHDOG_KICK: a write of CWDG_KICK (R182). -/
def execCoreWatchdogKick (w : Writer) (c : CoreId) (value : W32) (s : State) : Res := .next (s.writeReg w (ecorePage c.val) 0x134 value)

/-- CWDG_CTRL_WRITE (R182). -/
def execCwdgCtrlWrite (w : Writer) (c : CoreId) (value : W32) (s : State) : Res := .next (s.writeReg w (ecorePage c.val) 0x130 value)

/-- ICACHE_INVALIDATE: a write of CACHE_OP (R167). -/
def execIcacheInvalidate (w : Writer) (c : CoreId) (value : W32) (s : State) : Res := .next (s.writeReg w (ecorePage c.val) 0x150 value)

/-- EXC_ACTIVE_CLEAR: a write of CORE_STAT (R181). -/
def execExcActiveClear (w : Writer) (c : CoreId) (value : W32) (s : State) : Res :=
  .next ((s.writeReg w (ecorePage c.val) 0x100 value).afterWrite (ecorePage c.val))

end Sys2Proof.Machine
end

