-- ==== Sys2Proof/Machine/RegRead.lean ====
section
/-! DEFINITION. A register read by any master (R141, R144, R156): what each register shows, and what a read of it does. -/

namespace Sys2Proof.Machine

/-! ## Interrupt slots (R185, R186) -/

/-- Slot `k` of core `c` is pending (R185). -/
def State.slotPending (s : State) (c k : Nat) : Bool :=
  let v := s.reg (coreKey c (0x200 + 4 * k))
  let p := fieldOf v 0 10
  v.getLsbD 31 && (pageInfo p).isSome && !s.isolated p && s.reg (rk p Reg.IRQ_PEND) != 0

/-- The slot that a core would take now: of the pending ones that of the highest PRIO, and of those the lowest (R186). -/
def State.irqSlot (s : State) (c : Nat) : Option Nat :=
  let pend := (List.range 32).filter (s.slotPending c)
  let prio := fun k => s.fld (coreKey c (0x200 + 4 * k)) 26 2
  [3, 2, 1, 0].findSome? fun q => pend.find? fun k => prio k == q

/-! ## What a register shows -/

/-- The minutes of the grant left, as whole ones (R631); what the register shows of a minute that has begun is open.
DESIGN CHOICE: log entry 39. -/
def State.grantLeft (s : State) : Nat :=
  let left := s.sec.grantMin * 7500000000 - (s.time.ltb - s.sec.grantAt).toNat
  left / 7500000000 + (if left % 7500000000 = 0 then 0 else s.freeVal.toNat % 2)

/-- CT_IN0: CLMO's level, and free levels at the pins whose changes no command brings: CLMI, CID_SCL, CID_SDA and nWAKE (R37, R49).
DESIGN CHOICE: log entry 119. -/
def State.ctIn0 (s : State) : W32 :=
  let open_ : W32 := 0x2320
  let v := (s.reg Reg.SYS_CT_IN0 &&& ~~~ open_) ||| (s.freeVal.setWidth 32 &&& open_)
  withField v 4 1 s.clmoLevel.toNat

/-- A register of a system page that shows more than it stores: a master's copies, the display's icons (R164, R255, R606, R631). -/
def State.liveSys (s : State) (m : Master) (k : Nat) : Option W32 :=
  match k with
  | 0x200 => some s.ctIn0
  | 0x304 => some (withField (s.reg Reg.SYS_EVLOG_STAT) 0 7 s.log.queue.length)
  | 0x310 => some (sget (dflt 0) s.log.pdata0 m.num)
  | 0x314 => some (sget (dflt 0) s.log.pdata1 m.num)
  | 0x318 => some (sget (dflt 0) s.log.psev m.num)
  | 0x404 => some (sget (dflt 0) s.time.hiCopies (m.num * 4))
  | 0x7100 => some (BitVec.ofNat 32 (s.debugLevel + 0x10000 * s.grantLeft))
  | 0x2011C => some ((s.tpmAt (s.fld Reg.TPMC_TAGW_ADDR 0 23)).tag.setWidth 32)
  | 0xF2104 => some (sget (dflt 0) s.time.hiCopies (m.num * 4 + 1))
  | 0xF2114 => some (sget (dflt 0) s.time.dcCopies (m.num * 2))
  | 0xF2134 => some (sget (dflt 0) s.time.dcCopies (m.num * 2 + 1))
  | 0xF2164 => some (sget (dflt 0) s.time.hiCopies (m.num * 4 + 2))
  | 0xF9180 => some s.icons
  | _ => none

/-- The RTC's time as a master's shadow holds it (R573). -/
def State.liveRtc (s : State) (m : Master) (off : Nat) : Option W32 :=
  if within 0x100 4 8 off then (s.rtcShadow m).map fun l => (l[(off - 0x100) / 4]?).getD 0 else none

/-- CORE_STAT with HALTED, and IRQ_SEL (R193). -/
def State.liveCore (s : State) (c off : Nat) : Option W32 :=
  if off = 0x100 then some (withField (s.reg (coreKey c 0x100)) 1 1 (s.halted c).toNat)
  else if off = 0x300 then some (withField (s.reg (coreKey c 0x300)) 0 5 (s.core c).lxq.length)
  else if off = 0x280 then some (match s.irqSlot c with
    | some k => BitVec.ofNat 32 (0x80000000 + k)
    | none => 0)
  else none

/-- A common register that shows the state of the page's domain or of its interrupts (R80, R81, R148, R149). DEDUCED: log entry 20.
DEDUCED: log entry 109. -/
def State.liveCommon (s : State) (p off : Nat) : Option W32 :=
  let d := s.domState (pageDomain p)
  if off = Reg.STAT then some (withField (s.reg (rk p off)) 3 1 (s.isolated p).toNat)
  else if off = Reg.IRQ_RAW then some (s.irqRaw p)
  else if off = Reg.PWR_REQ then some (withField (s.reg (rk p off)) 4 2 d)
  else none

/-- The 32 loops of map word `m` of which `p` holds. -/
def loopMap (m : Nat) (p : Nat → Bool) : W32 := BitVec.ofNat 32 (bitsNat ((List.range 32).map fun i => p (32 * m + i)))

/-- The maps of LOOP of the loops with a Fix pending, with a condition in effect and with TRIP 1 (R308). -/
def State.liveLoop (s : State) (off : Nat) : Option W32 :=
  if within 0x300 4 16 off then some (loopMap ((off - 0x300) / 4) s.fixPending)
  else if within 0x340 4 16 off then some (loopMap ((off - 0x340) / 4) fun k => s.supActive k != 0 || s.supLatched k != 0)
  else if within 0x380 4 16 off then some (loopMap ((off - 0x380) / 4) fun k => s.lf k LW.SUP_STAT 31 1 == 1)
  else none

/-- ESTAT of an enabled controller: triple sampling in use, transmission held, bus monitoring in effect (R501, R517, R522). -/
def State.liveCan (s : State) (n off : Nat) : Option W32 :=
  if off = 0x110 then
    let on := s.flag (canKey n Reg.CTRL) 0
    let v := withField (s.reg (canKey n 0x110)) 29 1 (s.canTriple n).toNat
    some (withField (withField v 28 1 (on && s.pair.verdict).toNat) 27 1 (on && s.canMonitor n).toNat)
  else none

/-- What a register shows to a master: a frozen value first (R147), and of a word of the page shown the value that waits for the display
frame boundary (R588). DEDUCED: log entry 20. DEDUCED: log entry 107. -/
def State.regValue (s : State) (m : Master) (p off : Nat) : W32 :=
  let k := rk p off
  let live := match sget (dflt none) s.frozen k with
    | some v => some v
    | none =>
      if off < 0x100 then s.liveCommon p off
      else if 0x010 ≤ p ∧ p ≤ 0x013 then s.liveCore (p - 0x010) off
      else if p = 0x0F8 then s.liveRtc m off
      else if p = 0x040 then s.liveLoop off
      else if 0x0E0 ≤ p ∧ p ≤ 0x0E7 then s.liveCan (p - 0x0E0) off
      else if p = 0x0F9 ∧ (sget (dflt none) s.disp.pend k).isSome = true then sget (dflt none) s.disp.pend k
      else s.liveSys m k
  live.getD (s.reg k)

/-- The tag that a load of a register gets (R156). -/
def State.regTag (s : State) (p off : Nat) (v : W32) : Tag :=
  if s.fld (rk p Reg.TAG_CFG) 0 2 = 1 then
    match (regRowOf (rk p off)).bind (·.tagLo) with
    | some lo => if off < 0x100 then 0 else (v >>> lo).setWidth 8
    | none => 0
  else 0

/-! ## What a read does -/

/-- The reading master's copy of LFI_HI is latched (R255). -/
def State.latchLfi (s : State) (m : Master) : State :=
  { s with time := { s.time with hiCopies := sset (dflt 0) s.time.hiCopies (m.num * 4) (s.reg Reg.SYS_LFI_HI) } }

/-- What a read of a register does before its value is taken (R176, R255, R567, R573, R620). -/
def State.beforeRead (s : State) (m : Master) (k : Nat) : State :=
  match k with
  | 0x400 => s.latchLfi m
  | 0x4110 => s.drawChallenge
  | 0x2011C => s.tpmTouched (s.fld Reg.TPMC_TAGW_ADDR 0 23)
  | 0xF2100 => s.readLo m .ltb
  | 0xF2110 => s.readLo m (.dc 0)
  | 0xF2130 => s.readLo m (.dc 1)
  | 0xF2160 => s.readLo m .ots
  | 0xF8100 => s.readTime0 m
  | _ => s

/-- What it does after: TIME7 ends a master's shadow (R573). -/
def State.afterRead (s : State) (m : Master) (k : Nat) : State :=
  match k with
  | 0xF811C => s.setShadow m none
  | 0x200 => s.drawn
  | 0x7100 => s.drawn
  | _ => s

/-- A read that has passed the gate: the state after it, the value and its tag. -/
def State.readReg (s : State) (m : Master) (p off : Nat) : State × W32 × Tag :=
  let s := s.beforeRead m (rk p off)
  let v := s.regValue m p off
  (s.afterRead m (rk p off), v, s.regTag p off v)

/-- LFI_LO_READ: a master reads SYS.LFI_LO (R255). -/
def execLfiLoRead (m : Master) (s : State) : Res :=
  .next (s.readAccess m 0x000 0x400 fun s => (s.latchLfi m).respondData ((s.reg Reg.SYS_LFI_LO).setWidth 64))

end Sys2Proof.Machine
end

