-- ==== Sys2Proof/Machine/Access.lean ====
section
/-! DEFINITION. An access to a region of the address space by any master (R140, R141, R166 to R168, R174 to R178, R578, R579), and the caches'
check errors. -/

namespace Sys2Proof.Machine

/-! ## Windows and regions -/

/-- One of the windows of the core's page grants the right (bit 31 R, 30 W, 29 X) at an address (R177, R178). -/
def State.inWindow (s : State) (c : Nat) (a : W64) (right : Nat) : Bool :=
  (List.range 8).any fun k =>
    let lim := s.reg (coreKey c (0x184 + 8 * k))
    lim.getLsbD right && decide (a.toNat < 2 ^ 36) && decide (s.fld (coreKey c (0x180 + 8 * k)) 0 24 ≤ a.toNat / 4096)
      && decide (a.toNat / 4096 ≤ fieldOf lim 0 24)

/-- The register pages (R140). -/
def pageAddr (a : W64) : Bool := decide (0x10000000 ≤ a.toNat ∧ a.toNat ≤ 0x103FFFFF)

/-- The privilege check of a core's access (R177, R178). -/
def State.allowed (s : State) (c : Nat) (a : W64) (right : Nat) : Bool :=
  s.levelP c || (!pageAddr a && s.inWindow c a right)

/-- A region of the address space (R140). -/
inductive Region where
  | rom | page | can | loop | cap | tpm | pm | mram | nor
deriving DecidableEq, Repr

/-- The region of an address (R140). -/
def regionOf (a : W64) : Option Region :=
  let n := a.toNat
  if n ≤ 0x1FFFF then some .rom
  else if 0x10000000 ≤ n ∧ n ≤ 0x103FFFFF then some .page
  else if 0x11000000 ≤ n ∧ n ≤ 0x1101FFFF then some .can
  else if 0x20000000 ≤ n ∧ n ≤ 0x200FFFFF then some .loop
  else if 0x30000000 ≤ n ∧ n ≤ 0x31FFFFFF then some .cap
  else if 0x100000000 ≤ n ∧ n ≤ 0x103FFFFFF then some .tpm
  else if 0x200000000 ≤ n ∧ n ≤ 0x23FFFFFFF then some .pm
  else if 0x300000000 ≤ n ∧ n ≤ 0x3007FFFFF then some .mram
  else if 0x400000000 ≤ n ∧ n ≤ 0x40FFFFFFF then some .nor
  else none

/-- A region allows a width in bytes (R140). DEDUCED: log entry 31. -/
def Region.allows (r : Region) (bytes : Nat) (write : Bool) : Bool :=
  match r with
  | .rom | .nor => !write && (bytes == 4 || bytes == 8)
  | .page => bytes == 4
  | .can | .cap | .mram => bytes == 4 || bytes == 8
  | .loop | .tpm => bytes == 8
  | .pm => true

/-- The response that an access gets by its address and width alone (R140, R141); the pages and the CAN and capture memories answer
ERR_ISOLATED while their domain is not ON (R80). A page index that is not listed and the checks of a register are the page's.
DEDUCED: log entry 22. -/
def State.place (s : State) (a : W64) (bytes : Nat) (write : Bool) : Resp × Option Region :=
  match regionOf a with
  | none => (.errDecode, none)
  | some r =>
    if a.toNat % bytes ≠ 0 || !r.allows bytes write then (.errSize, some r)
    else
      let off := a.toNat % 0x10000000
      match r with
      | .page => if (pageInfo (off / 4096)).isNone then (.errDecode, some r) else (.okay, some r)
      | .can => if s.isolated (0x0E0 + (off - 0x1000000) / 0x4000) then (.errIsolated, some r) else (.okay, some r)
      | .cap => if s.isolated 0x041 then (.errIsolated, some r) else (.okay, some r)
      | .loop => if s.isolated 0x040 then (.errIsolated, some r) else (.okay, some r)
      | _ => (.okay, some r)

/-! ## One access to a region, by any master -/

/-- The number of a finding in the state's map. -/
def cacheCode : CacheFinding → Nat
  | .clean => 0
  | .parity => 1
  | .correctable => 2
  | .l1Data => 3
  | .l2Clean => 4
  | .l2Dirty => 5

/-- The regions that the caches hold: the boot ROM, program memory and the NOR window (R166). -/
def cacheable (a : W64) : Bool := regionOf a == some .rom || regionOf a == some .pm || regionOf a == some .nor

/-- A load is about to meet a check error in the caches (R168). DESIGN CHOICE: log entry 114. -/
def State.cacheFound (s : State) (a : W64) (f : CacheFinding) : State :=
  if f = .clean ∨ cacheable a = false then s
  else { s with mem := { s.mem with cacheErr := sset (dflt 0) s.mem.cacheErr (a.toNat / 64) (cacheCode f) } }

/-- The read meets an uncorrectable error in a dirty line of L2: one of program memory that was stored to (R168). -/
def State.cacheBad (s : State) (a : W64) : Bool :=
  sget (dflt 0) s.mem.cacheErr (a.toNat / 64) == 5 && regionOf a == some .pm && s.mem.dirty.contains ((a.toNat - 0x200000000) / 64)

/-- What a read by core `c` leaves of a check error in the caches: it is corrected, or its line is invalidated and fetched again, or, in a dirty
line of L2, logged and the line discarded (R168, R194). DESIGN CHOICE: log entry 114. -/
def State.cacheTouched (s : State) (c : Nat) (a : W64) : State :=
  if cacheable a = false ∨ sget (dflt 0) s.mem.cacheErr (a.toNat / 64) = 0 then s
  else
    let bad := s.cacheBad a
    let s := { s with mem := { s.mem with cacheErr := sset (dflt 0) s.mem.cacheErr (a.toNat / 64) 0 } }
    if bad then
      let s := s.discardLine ((a.toNat - 0x200000000) / 64)
      { s with proof := { s.proof with latched := insertNew s.proof.latched 12 } }.logEvt (ecorePage c) 0xFFF 0x13
    else s

/-- The exception of R168. -/
def cacheExc (a : W64) : Exc := { code := 3, sub := 5, addr := some a }

/-- A read of MRAM: its units are checked (R578). DEDUCED: log entry 37. -/
def State.readMram (s : State) (o n : Nat) : Resp × State × TWord :=
  let bad := decide (sget (dflt 0) s.mem.mramErr (o / 8) = 2)
  let s := s.mramTouched (o / 8)
  let reserved := decide (o < 0x3000) && mramWriter o == .none
  if bad then (.errEcc, s, {})
  else (.okay, s, { data := if reserved then 0 else BitVec.ofNat 64 (leNat s.mramByte o n), tag := 0 })

/-- A read of program memory: its unit is checked (R195). -/
def State.readPm (s : State) (o n : Nat) : Resp × State × TWord :=
  let bad := decide (sget (dflt 0) s.mem.pmErr (o / 8) = 2)
  let s := s.pmTouched (o / 8)
  if bad then (.errEcc, s, {}) else (.okay, s, { data := BitVec.ofNat 64 (leNat s.pmByte o n), tag := 0 })

/-- A read of a TPM word: a core, the loop engine and TWIN get a bad word as 0 with tag 0xF8, the others ERR_ECC; an untagged master gets no
tag (R175, R176). -/
def State.readTpm (s : State) (m : Master) (w : Nat) : Resp × State × TWord :=
  let bad := s.tpmBroken w
  let s := s.tpmTouched w
  let v := s.tpmAt w
  if untaggedMaster m then (if bad then (.errEcc, s, {}) else (.okay, s, { v with tag := 0 })) else (.okay, s, v)

/-- A read of a register page that `place` lets pass. -/
def State.readPage (s : State) (m : Master) (o : Nat) : Resp × State × TWord :=
  match s.readGate m (o / 4096) (o % 4096) with
  | .okay =>
    let b := s.bus
    let x := s.readReg m (o / 4096) (o % 4096)
    (.okay, { x.1 with bus := b }, { data := x.2.1.setWidth 64, tag := x.2.2 })
  | r => (r, s, {})

/-- A read of `n` bytes of a region that `place` lets pass: the response, the state after it, and what it delivers (R174).
DESIGN CHOICE: log entry 8. -/
def State.memRead (s : State) (m : Master) (r : Region) (a : W64) (n : Nat) : Resp × State × TWord :=
  let o := a.toNat
  let plain := fun (f : Nat → Byte) (o : Nat) => (Resp.okay, s, ({ data := BitVec.ofNat 64 (leNat f o n), tag := 0 } : TWord))
  match r with
  | .rom => plain Config.bootRom o
  | .page => s.readPage m (o - 0x10000000)
  | .can => plain s.canByte (o - 0x11000000)
  | .loop => match loopAddr a with
    | some (k, w) => (.okay, s, s.landed k w)
    | none => (.errDecode, s, {})
  | .cap => plain s.capByte (o - 0x30000000)
  | .tpm => s.readTpm m ((o - 0x100000000) / 8)
  | .pm => s.readPm (o - 0x200000000) n
  | .mram => s.readMram (o - 0x300000000) n
  | .nor => plain s.norByte (o - 0x400000000)

/-- A write of 32 or 64 bits to CAN message memory, as the whole 64-bit word and the bits written (R504). -/
def State.writeCan (s : State) (o n : Nat) (v : W64) : State :=
  let base := o / 8 * 8
  let old := BitVec.ofNat 64 (leNat s.canByte base 8)
  let m : W64 := if n = 8 then 0xFFFFFFFFFFFFFFFF else 0xFFFFFFFF <<< (8 * (o % 8))
  let new := if n = 8 then v else v <<< (8 * (o % 8))
  s.writeObj (o / 0x4000) (base % 0x4000) ((old &&& ~~~ m) ||| (new &&& m)) m

/-- A write to MRAM: a core at level P, and the debug port with its level P rights at HALT, write the regions of level P; every other write
is refused (R579, R621). DEDUCED: log entry 37. -/
def State.writeMram (s : State) (m : Master) (o n : Nat) (v : W64) : Resp × State :=
  let levelP := match m with
    | .core c => s.levelP c.val
    | .dbg => decide (2 ≤ s.debugLevel)
    | _ => false
  if levelP && mramWriter o == .levelP then
    let s := s.setMram o n v.toNat
    (.okay, if n = 8 then { s with mem := { s.mem with mramErr := sset (dflt 0) s.mem.mramErr (o / 8) 0 } } else s)
  else (.errPriv, s.refuseMram m o)

/-- A write of a register page that `place` lets pass, and its response. -/
def State.writePage (s : State) (w : Writer) (o : Nat) (v : W64) : Resp × State :=
  let t := s.writeReg w (o / 4096) (o % 4096) (v.setWidth 32)
  (t.bus.resp, { t with bus := s.bus })

/-- A write of `n` bytes to a region that `place` lets pass: the response and the state after it (R174, R175).
DEDUCED: log entry 31. -/
def State.memWrite (s : State) (w : Writer) (r : Region) (a : W64) (n : Nat) (v : W64) : Resp × State :=
  let o := a.toNat
  match r with
  | .rom | .nor | .loop => (.errSize, s)
  | .page => s.writePage w (o - 0x10000000) v
  | .can => (.okay, s.writeCan (o - 0x11000000) n v)
  | .cap => (.okay, s.setCap (o - 0x30000000) n v.toNat)
  | .tpm => (.okay, s.setTpm ((o - 0x100000000) / 8) { data := v, tag := s.tpmStoreTag w.master w.tag })
  | .pm => (.okay, s.setPm (o - 0x200000000) n v.toNat)
  | .mram => s.writeMram w.master (o - 0x300000000) n v

end Sys2Proof.Machine
end

