-- ==== Sys2Proof/Machine/Retire.lean ====
section
/-! DEFINITION. What every Eftik instruction shares: its fetch and retirement (R177, R184, R191, R197, R200, R201), and the tag of a result
(R172, R173, R202). -/

namespace Sys2Proof.Machine

/-! ## One instruction -/

/-- A core retires instructions: it is released, its domain is ON, and a debugger has not halted it or lets it retire one (R111, R193, R631).
DEDUCED: log entry 29. -/
def State.retires (s : State) (c : Nat) : Bool :=
  s.rst.phase == .running && s.domState (2 + c) == 2 && s.flag (coreKey c 0x100) 0 && !(s.core c).inReset
    && (!s.halted c || s.sec.stepping.contains c)

/-- The response of a region to a fetch that `place` lets pass (R168, R176, R184, R578). -/
def State.fetchResp (s : State) (c : CoreId) (r : Region) (pc : W64) : Resp :=
  match r with
  | .page => s.readGate (.core c) (pc.toNat / 4096 % 1024) (pc.toNat % 4096)
  | .pm => if sget (dflt 0) s.mem.pmErr ((pc.toNat - 0x200000000) / 8) = 2 then .errEcc else .okay
  | .mram => if sget (dflt 0) s.mem.mramErr ((pc.toNat - 0x300000000) / 8) = 2 then .errEcc else .okay
  | _ => .okay

/-- What the fetch of the instruction at the core's PC raises: as a load of 32 bits there (R168, R177, R180, R184, R197). -/
def State.fetchFault (s : State) (c : CoreId) : Option Exc :=
  let pc := (s.core c.val).pc
  if !s.allowed c.val pc 29 then Resp.errPriv.exc pc
  else if pc.toNat % 4 ≠ 0 then some { code := 2, addr := some pc }
  else match s.place pc 4 false with
    | (.okay, some r) => if s.cacheBad pc then some (cacheExc pc) else (s.fetchResp c r pc).exc pc
    | (r, _) => r.exc pc

/-- What the fetch leaves behind: as a load of 32 bits that the region lets pass (R168, R184, R195, R578). -/
def State.fetchTouch (s : State) (c : CoreId) : State :=
  let pc := (s.core c.val).pc
  if !s.allowed c.val pc 29 || decide (pc.toNat % 4 ≠ 0) then s
  else match s.place pc 4 false with
    | (.okay, some r) =>
      let t := s.cacheTouched c.val pc
      if s.cacheBad pc then t else (t.memRead (.core c) r pc 4).2.1
    | _ => s

/-- The fetch meets no check error and reads no register. -/
def State.fetchPlain (s : State) (c : CoreId) : Bool :=
  let pc := (s.core c.val).pc
  sget (dflt 0) s.mem.cacheErr (pc.toNat / 64) == 0 && (match regionOf pc with
    | some .pm => sget (dflt 0) s.mem.pmErr ((pc.toNat - 0x200000000) / 8) == 0
    | some .mram => sget (dflt 0) s.mem.mramErr ((pc.toNat - 0x300000000) / 8) == 0
    | some .page | some .loop | some .tpm => false
    | _ => true)

/-- One instruction of core `c` that uses the registers `l` (R191): `f` gives the state and the next PC, or the exception that the
instruction raises, with the state that the attempt left. At the boundary after it, what waits is taken (R180). A core that retires nothing
leaves the state as it is. DEDUCED: log entry 29. -/
def State.instr (s : State) (c : CoreId) (l : List GReg) (f : State → Except (Exc × State) (State × W64)) : Res :=
  .next <|
    if s.retires c.val then
      let s := s.lxWait c.val l
      let s := { s with sec := { s.sec with stepping := s.sec.stepping.filter (· != c.val) } }
      let fault := s.fetchFault c
      let s := s.fetchTouch c
      match fault with
      | some e => s.raise c.val e
      | none =>
        match f s with
        | .error e => e.2.raise c.val e.1
        | .ok (t, pc) =>
          if (t.core c.val).inReset || t.rst.phase != .running then t
          else (t.setCore c.val { t.core c.val with pc := pc }).takeAsync c.val
    else s

/-- The address of the next instruction. -/
def State.pcNext (s : State) (c : CoreId) : W64 := (s.core c.val).pc + 4

/-! ## Tags (R172, R173, R202) -/

/-- The tag of a result from its operands' tags (R172): the worst Q with the CAUSE of the first operand that has it, F and S of any, and L
as given. -/
def resultTag (l : List Tag) (limited : Bool) : Tag :=
  let m := mergeTags l
  (m &&& 0xFE) ||| (if limited then 1 else 0)

/-- The rule of R173: a numeric failure raises the Q of a result whose operands' Q is better than BAD. -/
def failTag (t : Tag) (fail : Bool) : Tag := if fail && decide (tagQ t < 2) then mkTag 2 5 ||| (t &&& 0x07) else t

/-- TAGBAD: the first operand with Q ABSENT, where the core raises it (R202). -/
def State.tagBad (s : State) (c : CoreId) (l : List Tag) : Option Exc :=
  if s.flag (coreKey c.val 0x12C) 8 then (l.find? fun t => tagQ t == 3).map fun t => { code := 1, tag := some t } else none

/-- An instruction that computes a result of register operands (R172, R202): `ops` are the operands' tags in order, `r` the value, and
whether it was clamped. -/
def State.compute (s : State) (c : CoreId) (rd : GReg) (ops : List Tag) (r : W64) (limited : Bool := false) :
    Except (Exc × State) (State × W64) :=
  match s.tagBad c ops with
  | some e => .error (e, s)
  | none => .ok (s.setGreg c.val rd.val { data := r, tag := resultTag ops limited }, s.pcNext c)

end Sys2Proof.Machine
end

