-- ==== Sys2Proof/Machine/Alu.lean ====
section
/-! DEFINITION. The integer, logic, shift, compare, select and tag instructions of the Eftik cores (R203 to R205, R209, R215). -/

namespace Sys2Proof.Machine

/-- An instruction on two registers. -/
def State.alu2 (s : State) (c : CoreId) (rd ra rb : GReg) (f : W64 → W64 → W64) : Res :=
  s.instr c [rd, ra, rb] fun s =>
    let a := s.greg c.val ra.val
    let b := s.greg c.val rb.val
    s.compute c rd [a.tag, b.tag] (f a.data b.data)

/-- An instruction on a register and an immediate. -/
def State.aluImm (s : State) (c : CoreId) (rd ra : GReg) (f : W64 → W64) : Res :=
  s.instr c [rd, ra] fun s =>
    let a := s.greg c.val ra.val
    s.compute c rd [a.tag, 0] (f a.data)

/-! ## Integer arithmetic (R203, R204) -/

/-- ADD (R203). -/
def execAdd (c : CoreId) (rd ra rb : GReg) (s : State) : Res := s.alu2 c rd ra rb fun a b => a + b

/-- SUB (R203). -/
def execSub (c : CoreId) (rd ra rb : GReg) (s : State) : Res := s.alu2 c rd ra rb fun a b => a - b

/-- A signed number saturated to 64 bits, and whether it was (R203). -/
def saturate64 (n : Int) : W64 × Bool :=
  if n < -(2 ^ 63) then (0x8000000000000000#64, true)
  else if (2 ^ 63 : Int) ≤ n then (0x7FFFFFFFFFFFFFFF#64, true)
  else (BitVec.ofInt 64 n, false)

/-- An instruction on two signed registers that saturates (R203). -/
def State.aluSat (s : State) (c : CoreId) (rd ra rb : GReg) (f : Int → Int → Int) : Res :=
  s.instr c [rd, ra, rb] fun s =>
    let a := s.greg c.val ra.val
    let b := s.greg c.val rb.val
    let r := saturate64 (f a.data.toInt b.data.toInt)
    s.compute c rd [a.tag, b.tag] r.1 r.2

/-- ADDS (R203). -/
def execAdds (c : CoreId) (rd ra rb : GReg) (s : State) : Res := s.aluSat c rd ra rb fun a b => a + b

/-- SUBS (R203). -/
def execSubs (c : CoreId) (rd ra rb : GReg) (s : State) : Res := s.aluSat c rd ra rb fun a b => a - b

/-- MUL (R203). -/
def execMul (c : CoreId) (rd ra rb : GReg) (s : State) : Res := s.alu2 c rd ra rb fun a b => a * b

/-- MULH (R203). -/
def execMulh (c : CoreId) (rd ra rb : GReg) (s : State) : Res :=
  s.alu2 c rd ra rb fun a b => BitVec.ofInt 64 (a.toInt * b.toInt / 2 ^ 64)

/-- MULHU (R203). -/
def execMulhu (c : CoreId) (rd ra rb : GReg) (s : State) : Res :=
  s.alu2 c rd ra rb fun a b => BitVec.ofNat 64 (a.toNat * b.toNat / 2 ^ 64)

/-- A division or remainder: by zero it raises DIV0, or with DIV0_EN at 0 gives 0 under the tag rule of R173 (R204). -/
def State.divide (s : State) (c : CoreId) (rd ra rb : GReg) (f : W64 → W64 → W64) : Res :=
  s.instr c [rd, ra, rb] fun s =>
    let a := s.greg c.val ra.val
    let b := s.greg c.val rb.val
    match s.tagBad c [a.tag, b.tag] with
    | some e => .error (e, s)
    | none =>
      if b.data ≠ 0 then s.compute c rd [a.tag, b.tag] (f a.data b.data)
      else if s.flag (coreKey c.val 0x12C) 5 then .error ({ code := 6 }, s)
      else .ok (s.setGreg c.val rd.val { data := 0, tag := failTag (resultTag [a.tag, b.tag] false) true }, s.pcNext c)

/-- DIV (R203, R204). -/
def execDiv (c : CoreId) (rd ra rb : GReg) (s : State) : Res := s.divide c rd ra rb fun a b => a.sdiv b

/-- DIVU (R203, R204). -/
def execDivu (c : CoreId) (rd ra rb : GReg) (s : State) : Res := s.divide c rd ra rb fun a b => a / b

/-- REM (R203, R204). -/
def execRem (c : CoreId) (rd ra rb : GReg) (s : State) : Res := s.divide c rd ra rb fun a b => a.srem b

/-- REMU (R203, R204). -/
def execRemu (c : CoreId) (rd ra rb : GReg) (s : State) : Res := s.divide c rd ra rb fun a b => a % b

/-- ADDI (R203). -/
def execAddi (c : CoreId) (rd ra : GReg) (imm : BitVec 14) (s : State) : Res := s.aluImm c rd ra fun a => a + imm.signExtend 64

/-! ## Logic and shift (R205) -/

/-- AND (R205). -/
def execAnd (c : CoreId) (rd ra rb : GReg) (s : State) : Res := s.alu2 c rd ra rb fun a b => a &&& b

/-- OR (R205). -/
def execOr (c : CoreId) (rd ra rb : GReg) (s : State) : Res := s.alu2 c rd ra rb fun a b => a ||| b

/-- XOR (R205). -/
def execXor (c : CoreId) (rd ra rb : GReg) (s : State) : Res := s.alu2 c rd ra rb fun a b => a ^^^ b

/-- A shift by a register's low six bits or by an immediate (R205). -/
def State.shift (s : State) (c : CoreId) (rd ra : GReg) (count : ShiftCount) (f : W64 → Nat → W64) : Res :=
  match count with
  | .reg rb => s.alu2 c rd ra rb fun a b => f a (b.toNat % 64)
  | .imm n => s.instr c [rd, ra] fun s =>
      let a := s.greg c.val ra.val
      s.compute c rd [a.tag] (f a.data n.toNat)

/-- SLL (R205). -/
def execSll (c : CoreId) (rd ra : GReg) (count : ShiftCount) (s : State) : Res := s.shift c rd ra count fun a n => a <<< n

/-- SRL (R205). -/
def execSrl (c : CoreId) (rd ra : GReg) (count : ShiftCount) (s : State) : Res := s.shift c rd ra count fun a n => a >>> n

/-- SRA (R205). -/
def execSra (c : CoreId) (rd ra : GReg) (count : ShiftCount) (s : State) : Res := s.shift c rd ra count fun a n => a.sshiftRight n

/-- ANDI (R205). -/
def execAndi (c : CoreId) (rd ra : GReg) (imm : BitVec 14) (s : State) : Res := s.aluImm c rd ra fun a => a &&& imm.setWidth 64

/-- ORI (R205). -/
def execOri (c : CoreId) (rd ra : GReg) (imm : BitVec 14) (s : State) : Res := s.aluImm c rd ra fun a => a ||| imm.setWidth 64

/-- XORI (R205). -/
def execXori (c : CoreId) (rd ra : GReg) (imm : BitVec 14) (s : State) : Res := s.aluImm c rd ra fun a => a ^^^ imm.setWidth 64

/-- SETH (R205). -/
def execSeth (c : CoreId) (rd : GReg) (imm : BitVec 16) (k : Fin 4) (z : Bool) (s : State) : Res :=
  s.instr c [rd] fun s =>
    let d := s.greg c.val rd.val
    let part : W64 := imm.setWidth 64 <<< (16 * k.val)
    if z then s.compute c rd [0] part
    else s.compute c rd [d.tag, 0] ((d.data &&& ~~~ (0xFFFF#64 <<< (16 * k.val))) ||| part)

/-! ## Compare and select (R209) -/

/-- A truth value as a compare writes it. -/
def boolWord (b : Bool) : W64 := if b then 1 else 0

/-- CMPEQ (R209). -/
def execCmpeq (c : CoreId) (rd ra rb : GReg) (s : State) : Res := s.alu2 c rd ra rb fun a b => boolWord (a == b)

/-- CMPLT (R209). -/
def execCmplt (c : CoreId) (rd ra rb : GReg) (s : State) : Res := s.alu2 c rd ra rb fun a b => boolWord (a.slt b)

/-- CMPLTU (R209). -/
def execCmpltu (c : CoreId) (rd ra rb : GReg) (s : State) : Res := s.alu2 c rd ra rb fun a b => boolWord (a.ult b)

/-- SEL: the register that is not selected is neither read nor waited for (R191, R209). -/
def execSel (c : CoreId) (rd ra rb : GReg) (s : State) : Res :=
  s.instr c [rd] fun s =>
    let d := s.greg c.val rd.val
    let r := if d.data ≠ 0 then ra else rb
    let s := s.lxWait c.val [r]
    let v := s.greg c.val r.val
    s.compute c rd [d.tag, v.tag] v.data

/-- CMPI (R209). -/
def execCmpi (c : CoreId) (rd ra : GReg) (cond : ICond) (imm : BitVec 14) (s : State) : Res :=
  s.aluImm c rd ra fun a =>
    let b := imm.signExtend 64
    match cond with
    | .eq => boolWord (a == b)
    | .lt => boolWord (a.slt b)
    | .ltu => boolWord (a.ult b)

/-! ## Tag operations (R215); none raises TAGBAD -/

/-- A tag operation on two registers: what it writes. -/
def State.tagOp (s : State) (c : CoreId) (rd ra rb : GReg) (f : TWord → TWord → TWord) : Res :=
  s.instr c [rd, ra, rb] fun s => .ok (s.setGreg c.val rd.val (f (s.greg c.val ra.val) (s.greg c.val rb.val)), s.pcNext c)

/-- GTAG (R215). -/
def execGtag (c : CoreId) (rd ra : GReg) (s : State) : Res :=
  s.tagOp c rd ra 0 fun a _ => { data := a.tag.setWidth 64, tag := 0 }

/-- STAG (R215). -/
def execStag (c : CoreId) (rd ra rb : GReg) (s : State) : Res :=
  s.tagOp c rd ra rb fun a b => { data := a.data, tag := b.data.setWidth 8 }

/-- TMRG (R215). -/
def execTmrg (c : CoreId) (rd ra rb : GReg) (s : State) : Res :=
  s.tagOp c rd ra rb fun a b => { data := a.data, tag := resultTag [a.tag, b.tag] false }

/-- The Q of a threshold (R215). -/
def thresholdQ : Threshold → Nat
  | .uncertain => 1
  | .bad => 2
  | .absent => 3

/-- TSUB (R215). -/
def execTsub (c : CoreId) (rd ra rb : GReg) (thr : Threshold) (qs : BitVec 2) (s : State) : Res :=
  s.tagOp c rd ra rb fun a b =>
    if thresholdQ thr ≤ tagQ a.tag then { data := b.data, tag := mkTag qs.toNat 4 ||| tagFS a.tag ||| tagFS b.tag } else a

/-- STAGI (R215). -/
def execStagi (c : CoreId) (rd ra : GReg) (tag : BitVec 8) (s : State) : Res :=
  s.tagOp c rd ra 0 fun a _ => { data := a.data, tag := tag }

/-- TTST (R215). -/
def execTtst (c : CoreId) (rd ra : GReg) (test : TagTest) (s : State) : Res :=
  s.tagOp c rd ra 0 fun a _ =>
    let r := match test with
      | .qAtLeast q => decide (q.toNat ≤ tagQ a.tag)
      | .mask m => (a.tag &&& m) != 0
    { data := boolWord r, tag := 0 }

end Sys2Proof.Machine
end

