-- ==== Sys2Proof/Machine/EftikWord.lean ====
section
/-! DEFINITION. The instruction word of an Eftik core: its six formats and the instruction that OP, FN and SUB select (R197 to R200, R203 to
R224). -/

namespace Sys2Proof.Machine

/-! ## The fields of the formats (R198) -/

/-- OP. -/
def opField (w : W32) : Nat := fieldOf w 26 6
/-- RD; RA of format B and RI of format F. -/
def rdField (w : W32) : GReg := Fin.ofNat 32 (fieldOf w 21 5)
/-- RA; RB of format M. -/
def raField (w : W32) : GReg := Fin.ofNat 32 (fieldOf w 16 5)
/-- RB of format A. -/
def rbField (w : W32) : GReg := Fin.ofNat 32 (fieldOf w 11 5)
/-- FN [3:0]. -/
def fnField (w : W32) : Nat := fieldOf w 0 4
/-- SUB of format I. -/
def subField (w : W32) : Nat := fieldOf w 14 2
/-- IMM14. -/
def imm14 (w : W32) : BitVec 14 := w.extractLsb' 0 14
/-- DISP16 and IMM16. -/
def imm16 (w : W32) : BitVec 16 := w.extractLsb' 0 16
/-- DISP20. -/
def disp20 (w : W32) : BitVec 20 := w.extractLsb' 0 20
/-- DISP21. -/
def disp21 (w : W32) : BitVec 21 := w.extractLsb' 0 21

/-- Bits of a word that must be zero are (R200). -/
def zeroBits (w : W32) (m : Nat) : Bool := w &&& BitVec.ofNat 32 m == 0

/-- An instruction, where the fields that it does not use are zero (R200). -/
def whenOk {α : Type} (ok : Bool) (i : α) : Option α := if ok then some i else none

/-! ## Format A -/

/-- OP 0x01: integer arithmetic; FN [10:4] is zero (R203). -/
def decodeInt (c : CoreId) (w : W32) : Option Instr :=
  let d := rdField w
  let a := raField w
  let b := rbField w
  if zeroBits w 0x7F0 then
    match fnField w with
    | 0 => some (.add c d a b)
    | 1 => some (.sub c d a b)
    | 2 => some (.adds c d a b)
    | 3 => some (.subs c d a b)
    | 4 => some (.mul c d a b)
    | 5 => some (.mulh c d a b)
    | 6 => some (.mulhu c d a b)
    | 7 => some (.div c d a b)
    | 8 => some (.divu c d a b)
    | 9 => some (.rem c d a b)
    | 10 => some (.remu c d a b)
    | _ => none
  else none

/-- The count of a shift: by SHAMT with IMMSH 1, where RB is zero, and by RB with IMMSH 0, where SHAMT is zero (R200, R205). -/
def shiftField (w : W32) : Option ShiftCount :=
  if w.getLsbD 10 then whenOk (zeroBits w 0xF800) (.imm (w.extractLsb' 4 6)) else whenOk (zeroBits w 0x3F0) (.reg (rbField w))

/-- OP 0x02: logic and shift (R205). -/
def decodeLogic (c : CoreId) (w : W32) : Option Instr :=
  let d := rdField w
  let a := raField w
  let plain := zeroBits w 0x7F0
  match fnField w with
  | 0 => whenOk plain (.and c d a (rbField w))
  | 1 => whenOk plain (.or c d a (rbField w))
  | 2 => whenOk plain (.xor c d a (rbField w))
  | 3 => (shiftField w).map fun n => .sll c d a n
  | 4 => (shiftField w).map fun n => .srl c d a n
  | 5 => (shiftField w).map fun n => .sra c d a n
  | _ => none

/-- RM (R206). -/
def rmField (w : W32) : Rounding :=
  match fieldOf w 5 2 with
  | 0 => .rne
  | 1 => .rtz
  | 2 => .rdn
  | _ => .rup

/-- The format that a bit selects (R206, R209). -/
def precBit (w : W32) (i : Nat) : Prec := if w.getLsbD i then .binary32 else .binary64

/-- FSGN by VAR; RB is zero but for the copy of a sign (R207). -/
def signField (w : W32) : Option SignOp :=
  match fieldOf w 7 2 with
  | 0 => whenOk (zeroBits w 0xF800) .abs
  | 1 => whenOk (zeroBits w 0xF800) .neg
  | 2 => some (.copy (rbField w))
  | _ => none

/-- OP 0x03: floating point; RM is zero where an instruction does not round (R200, R206, R207). DEDUCED: log entry 33. -/
def decodeFloat (c : CoreId) (w : W32) : Option Instr :=
  let d := rdField w
  let a := raField w
  let b := rbField w
  let rm := rmField w
  let p := precBit w 4
  let var := fieldOf w 7 2
  let noRb := zeroBits w 0xF800
  let noRm := zeroBits w 0x60
  if !zeroBits w 0x600 then none
  else match fnField w with
    | 0 => whenOk (var == 0) (.fadd c d a b rm p)
    | 1 => whenOk (var == 0) (.fsub c d a b rm p)
    | 2 => whenOk (var == 0) (.fmul c d a b rm p)
    | 3 => whenOk (var == 0) (.fdiv c d a b rm p)
    | 4 => whenOk (var == 0) (.fmac c d a b rm p)
    | 5 => whenOk (var == 0 && noRb) (.fsqrt c d a rm p)
    | 6 => whenOk (var == 0 && noRm) (.fmin c d a b p)
    | 7 => whenOk (var == 0 && noRm) (.fmax c d a b p)
    | 8 => if noRm then (signField w).map fun op => .fsgn c d a op p else none
    | 9 => whenOk (var == 0 && noRb) (.fcvt c d a rm p)
    | 10 => whenOk (decide (var ≤ 1) && noRb) (.f2i c d a rm p (var == 1))
    | 11 => whenOk (decide (var ≤ 1) && noRb) (.i2f c d a rm p (var == 1))
    | _ => none

/-- The condition of FCMP (R209). -/
def condField (w : W32) : FCond :=
  match fieldOf w 4 2 with
  | 0 => .eq
  | 1 => .lt
  | 2 => .le
  | _ => .unord

/-- OP 0x04: compare and select (R209). -/
def decodeCompare (c : CoreId) (w : W32) : Option Instr :=
  let d := rdField w
  let a := raField w
  let b := rbField w
  let plain := zeroBits w 0x7F0
  match fnField w with
  | 0 => whenOk plain (.cmpeq c d a b)
  | 1 => whenOk plain (.cmplt c d a b)
  | 2 => whenOk plain (.cmpltu c d a b)
  | 3 => whenOk (zeroBits w 0x780) (.fcmp c d a b (condField w) (precBit w 6))
  | 4 => whenOk plain (.sel c d a b)
  | _ => none

/-- OP 0x05: JR, FCALLR and FRET (R210). -/
def decodeJump (c : CoreId) (w : W32) : Option Instr :=
  let plain := zeroBits w 0x7F0
  match fnField w with
  | 0 => whenOk (plain && zeroBits w 0xF800) (.jr c (rdField w) (raField w))
  | 1 => whenOk (plain && zeroBits w 0x3E00000) (.fcallr c (raField w) (rbField w))
  | 2 => whenOk (plain && zeroBits w 0x3FFF800) (.fret c)
  | _ => none

/-- The threshold of TSUB; THR 0b00 is ILLEGAL (R215). -/
def thrField (w : W32) : Option Threshold :=
  match fieldOf w 4 2 with
  | 1 => some .uncertain
  | 2 => some .bad
  | 3 => some .absent
  | _ => none

/-- OP 0x07: the tag operations (R215). -/
def decodeTag (c : CoreId) (w : W32) : Option Instr :=
  let d := rdField w
  let a := raField w
  let b := rbField w
  let plain := zeroBits w 0x7F0
  match fnField w with
  | 0 => whenOk (plain && zeroBits w 0xF800) (.gtag c d a)
  | 1 => whenOk plain (.stag c d a b)
  | 2 => whenOk plain (.tmrg c d a b)
  | 3 => if zeroBits w 0x700 then (thrField w).map fun t => .tsub c d a b t (w.extractLsb' 6 2) else none
  | _ => none

/-! ## Format I (R203, R205, R209, R215, R218 to R223) -/

/-- CMPI's condition; SUB 3 is ILLEGAL (R209). -/
def icondField (w : W32) : Option ICond :=
  match subField w with
  | 0 => some .eq
  | 1 => some .lt
  | 2 => some .ltu
  | _ => none

/-- TTST's test (R215). -/
def testField (w : W32) : Option TagTest :=
  match subField w with
  | 0 => whenOk (zeroBits w 0x3FFC) (.qAtLeast (w.extractLsb' 0 2))
  | 1 => whenOk (zeroBits w 0x3F00) (.mask (w.extractLsb' 0 8))
  | _ => none

/-- The variant of TIM (R218). -/
def timField (w : W32) : Option TimVar :=
  match subField w with
  | 0 => some .onDelay
  | 1 => some .offDelay
  | 2 => some .pulse
  | _ => none

/-- The variant of EDG (R219). -/
def edgField (w : W32) : Option EdgVar :=
  match subField w with
  | 0 => some .rising
  | 1 => some .falling
  | 2 => some .both
  | _ => none

/-- The variant of CNT (R220). -/
def cntField (w : W32) : Option CntVar :=
  match subField w with
  | 0 => some .up
  | 1 => some .down
  | 2 => some .upDown
  | _ => none

/-- Format I; SUB values that an instruction does not list are ILLEGAL (R200, R216). -/
def decodeImm (c : CoreId) (w : W32) : Option Instr :=
  let d := rdField w
  let a := raField w
  let i := imm14 w
  let sub := subField w
  match opField w with
  | 0x08 => whenOk (sub == 0) (.addi c d a i)
  | 0x09 => whenOk (sub == 0) (.andi c d a i)
  | 0x0A => whenOk (sub == 0) (.ori c d a i)
  | 0x0B => whenOk (sub == 0) (.xori c d a i)
  | 0x0C => (icondField w).map fun n => .cmpi c d a n i
  | 0x0D => whenOk (sub == 0 && zeroBits w 0x3F00) (.stagi c d a (w.extractLsb' 0 8))
  | 0x0E => (testField w).map fun t => .ttst c d a t
  | 0x10 => (timField w).map fun v => .tim c d a i v
  | 0x11 => (edgField w).map fun v => .edg c d a i v
  | 0x12 => (cntField w).map fun v => .cnt c d a i v
  | 0x13 => whenOk (decide (sub ≤ 1)) (.hys c d a i (sub == 1))
  | 0x14 => whenOk (decide (sub ≤ 1)) (.lim c d a i (sub == 1))
  | 0x15 => whenOk (sub == 0) (.rmp c d a i)
  | _ => none

/-! ## The word (R199) -/

/-- The instruction that a word encodes; none where it raises ILLEGAL (R199, R200). What a load finds in the caches is not in the word: clean. -/
def decodeWord (c : CoreId) (w : W32) : Option Instr :=
  let d := rdField w
  let a := raField w
  match opField w with
  | 0x01 => decodeInt c w
  | 0x02 => decodeLogic c w
  | 0x03 => decodeFloat c w
  | 0x04 => decodeCompare c w
  | 0x05 => decodeJump c w
  | 0x06 => whenOk (zeroBits w 0x7FF) (.cas c d a (rbField w))
  | 0x07 => decodeTag c w
  | 0x18 => some (.ld c d a { disp := imm16 w })
  | 0x19 => some (.lw c d a { disp := imm16 w })
  | 0x1A => some (.lwu c d a { disp := imm16 w })
  | 0x1B => some (.lbu c d a { disp := imm16 w })
  | 0x1C => some (.st c d a (imm16 w))
  | 0x1D => some (.sw c d a (imm16 w))
  | 0x1E => some (.sb c d a (imm16 w))
  | 0x20 => some (.lxw c d a (imm16 w))
  | 0x21 => some (.lxr c d a (imm16 w))
  | 0x22 => whenOk (zeroBits w 0x3800000) (.lxf c (w.extractLsb' 21 2) a (imm16 w))
  | 0x28 => whenOk (zeroBits w 0x3E00000) (.br c (disp20 w) (w.getLsbD 20))
  | 0x29 => whenOk (zeroBits w 0x100000) (.bz c d (disp20 w))
  | 0x2A => whenOk (zeroBits w 0x100000) (.bnz c d (disp20 w))
  | 0x2C => some (.fcall c d (disp21 w))
  | 0x30 => whenOk (zeroBits w 0x180000) (.seth c d (imm16 w) (Fin.ofNat 4 (fieldOf w 16 2)) (w.getLsbD 18))
  | 0x31 => whenOk (zeroBits w 0x3FF0000) (.svc c (imm16 w))
  | 0x32 => whenOk (zeroBits w 0x3FFFFFE) (.eret c (w.getLsbD 0))
  | _ => decodeImm c w

end Sys2Proof.Machine
end

