-- ==== Sys2Proof/Machine/FpOps.lean ====
section
/-! DEFINITION. The floating-point instructions of the Eftik cores (R206 to R209). -/

namespace Sys2Proof.Machine

/-- The bits of a register that an operation of precision P reads (R170). -/
def precBits (p : Prec) (v : W64) : Nat :=
  match p with
  | .binary64 => v.toNat
  | .binary32 => v.toNat % 2 ^ 32

/-- An operand taken apart. -/
def fpArg (p : Prec) (v : W64) : Fp := unpack (fmtOf p) (precBits p v)

/-- A NaN that no operand was, or an infinity of finite operands (R173). -/
def fpFails (l : List Fp) (r : Fp) : Bool :=
  match r with
  | .nan _ => !l.any Fp.isNan
  | .inf _ => l.all fun x => match x with
    | .num .. => true
    | _ => false
  | .num .. => false

/-- The end of a floating-point instruction (R173, R202, R207, R208): TAGBAD, then FPX with every flag it raised, or the result. -/
def State.fpFinish (s : State) (c : CoreId) (rd : GReg) (ops : List Tag) (r : FRes) (limited fail : Bool) :
    Except (Exc × State) (State × W64) :=
  match s.tagBad c ops with
  | some e => .error (e, s)
  | none =>
    if r.flags &&& s.fld (coreKey c.val 0x12C) 0 5 ≠ 0 then .error ({ code := 7, sub := r.flags }, s)
    else .ok (s.setGreg c.val rd.val { data := asW64 r, tag := failTag (resultTag ops limited) fail }, s.pcNext c)

/-- An instruction on two registers in precision P. -/
def State.fp2 (s : State) (c : CoreId) (rd ra rb : GReg) (p : Prec) (f : FloatFmt → Nat → Nat → FRes) : Res :=
  s.instr c [rd, ra, rb] fun s =>
    let a := s.greg c.val ra.val
    let b := s.greg c.val rb.val
    let r := f (fmtOf p) (precBits p a.data) (precBits p b.data)
    s.fpFinish c rd [a.tag, b.tag] r false (fpFails [fpArg p a.data, fpArg p b.data] (unpack (fmtOf p) r.bits))

/-- FADD (R207). -/
def execFadd (c : CoreId) (rd ra rb : GReg) (rm : Rounding) (p : Prec) (s : State) : Res :=
  s.fp2 c rd ra rb p fun f a b => addFp f rm (unpack f a) (unpack f b)

/-- A value with its sign inverted. -/
def Fp.negated : Fp → Fp
  | .nan q => .nan q
  | .inf n => .inf !n
  | .num n m e => .num (!n) m e

/-- FSUB (R207). -/
def execFsub (c : CoreId) (rd ra rb : GReg) (rm : Rounding) (p : Prec) (s : State) : Res :=
  s.fp2 c rd ra rb p fun f a b => addFp f rm (unpack f a) (unpack f b).negated

/-- FMUL (R207). -/
def execFmul (c : CoreId) (rd ra rb : GReg) (rm : Rounding) (p : Prec) (s : State) : Res :=
  s.fp2 c rd ra rb p fun f a b => mulFp f rm (unpack f a) (unpack f b)

/-- FDIV (R207). -/
def execFdiv (c : CoreId) (rd ra rb : GReg) (rm : Rounding) (p : Prec) (s : State) : Res :=
  s.fp2 c rd ra rb p fun f a b => divFp f rm (unpack f a) (unpack f b)

/-- FMAC (R207). -/
def execFmac (c : CoreId) (rd ra rb : GReg) (rm : Rounding) (p : Prec) (s : State) : Res :=
  s.instr c [rd, ra, rb] fun s =>
    let a := s.greg c.val ra.val
    let b := s.greg c.val rb.val
    let d := s.greg c.val rd.val
    let l := [fpArg p a.data, fpArg p b.data, fpArg p d.data]
    let r := fmaFp (fmtOf p) rm (fpArg p a.data) (fpArg p b.data) (fpArg p d.data)
    s.fpFinish c rd [a.tag, b.tag, d.tag] r false (fpFails l (unpack (fmtOf p) r.bits))

/-- FSQRT (R207). -/
def execFsqrt (c : CoreId) (rd ra : GReg) (rm : Rounding) (p : Prec) (s : State) : Res :=
  s.instr c [rd, ra] fun s =>
    let a := s.greg c.val ra.val
    let r := sqrtFp (fmtOf p) rm (fpArg p a.data)
    s.fpFinish c rd [a.tag] r false (fpFails [fpArg p a.data] (unpack (fmtOf p) r.bits))

/-- FMIN (R207). -/
def execFmin (c : CoreId) (rd ra rb : GReg) (p : Prec) (s : State) : Res :=
  s.fp2 c rd ra rb p fun f a b => minMaxFp f true a b

/-- FMAX (R207). -/
def execFmax (c : CoreId) (rd ra rb : GReg) (p : Prec) (s : State) : Res :=
  s.fp2 c rd ra rb p fun f a b => minMaxFp f false a b

/-- The sign bit of a value set as given. -/
def signSet (f : FloatFmt) (neg : Bool) (v : Nat) : W64 := BitVec.ofNat 64 (withSign f neg (v % f.signBit))

/-- FSGN: only the sign bit changes, and no flag is raised (R207, R208). -/
def execFsgn (c : CoreId) (rd ra : GReg) (op : SignOp) (p : Prec) (s : State) : Res :=
  match op with
  | .abs => s.instr c [rd, ra] fun s =>
      let a := s.greg c.val ra.val
      s.compute c rd [a.tag] (signSet (fmtOf p) false (precBits p a.data))
  | .neg => s.instr c [rd, ra] fun s =>
      let a := s.greg c.val ra.val
      s.compute c rd [a.tag] (signSet (fmtOf p) (decide (precBits p a.data < (fmtOf p).signBit)) (precBits p a.data))
  | .copy rb => s.instr c [rd, ra, rb] fun s =>
      let a := s.greg c.val ra.val
      let b := s.greg c.val rb.val
      s.compute c rd [a.tag, b.tag] (signSet (fmtOf p) (decide ((fmtOf p).signBit ≤ precBits p b.data)) (precBits p a.data))

/-- FCVT: P names the precision of the result's counterpart: 0 converts binary32 to binary64, 1 binary64 to binary32 (R207). -/
def execFcvt (c : CoreId) (rd ra : GReg) (rm : Rounding) (p : Prec) (s : State) : Res :=
  s.instr c [rd, ra] fun s =>
    let a := s.greg c.val ra.val
    let from_ : Prec := match p with
      | .binary64 => .binary32
      | .binary32 => .binary64
    let x := fpArg from_ a.data
    let r := convertFp (fmtOf p) rm x
    s.fpFinish c rd [a.tag] r false (fpFails [x] (unpack (fmtOf p) r.bits))

/-- An integer clamped to 64 bits, signed or unsigned, and whether it was. -/
def clampInt (uns : Bool) (n : Int) : Int × Bool :=
  let lo : Int := if uns then 0 else -(2 ^ 63)
  let hi : Int := if uns then 2 ^ 64 - 1 else 2 ^ 63 - 1
  if n < lo then (lo, true) else if hi < n then (hi, true) else (n, false)

/-- A value as a 64-bit integer: the result with its flags, whether it was saturated, and whether it was a NaN (R207, R208). -/
def toInteger (rm : Rounding) (uns : Bool) (x : Fp) : FRes × Bool × Bool :=
  match x with
  | .nan _ => ({ bits := 0, flags := 16 }, false, true)
  | .inf neg =>
    let big : Int := 2 ^ 65
    let r := clampInt uns (if neg then -big else big)
    ({ bits := (BitVec.ofInt 64 r.1).toNat, flags := 16 }, true, false)
  | .num neg m e =>
    let n := integerOf rm neg m e
    let r := clampInt uns n.1
    ({ bits := (BitVec.ofInt 64 r.1).toNat, flags := if r.2 then 16 else n.2.toNat }, r.2, false)

/-- F2I (R207, R208). -/
def execF2i (c : CoreId) (rd ra : GReg) (rm : Rounding) (p : Prec) (uns : Bool) (s : State) : Res :=
  s.instr c [rd, ra] fun s =>
    let a := s.greg c.val ra.val
    let r := toInteger rm uns (fpArg p a.data)
    s.fpFinish c rd [a.tag] r.1 r.2.1 r.2.2

/-- I2F (R207). -/
def execI2f (c : CoreId) (rd ra : GReg) (rm : Rounding) (p : Prec) (uns : Bool) (s : State) : Res :=
  s.instr c [rd, ra] fun s =>
    let a := s.greg c.val ra.val
    let n : Int := if uns then a.data.toNat else a.data.toInt
    s.fpFinish c rd [a.tag] (roundFp (fmtOf p) rm (decide (n < 0)) n.natAbs 0) false false

/-- The truth of a condition on two values, and the flags of the comparison (R209). -/
def compareFp (cond : FCond) (x y : Fp) : FRes :=
  let nan := x.isNan || y.isNan
  let o := cmpFp x y
  match cond with
  | .eq => { bits := (o == some .eq).toNat }
  | .lt => { bits := (o == some .lt).toNat, flags := if nan then 16 else 0 }
  | .le => { bits := (o == some .lt || o == some .eq).toNat, flags := if nan then 16 else 0 }
  | .unord => { bits := nan.toNat }

/-- FCMP (R209). -/
def execFcmp (c : CoreId) (rd ra rb : GReg) (cond : FCond) (p : Prec) (s : State) : Res :=
  s.instr c [rd, ra, rb] fun s =>
    let a := s.greg c.val ra.val
    let b := s.greg c.val rb.val
    s.fpFinish c rd [a.tag, b.tag] (compareFp cond (fpArg p a.data) (fpArg p b.data)) false false

end Sys2Proof.Machine
end

