-- ==== Sys2Proof/Machine/CoreMem.lean ====
section
/-! DEFINITION. Loads and stores of the cores (R141, R166 to R168, R177, R178, R184, R192, R213, R214). -/

namespace Sys2Proof.Machine

/-! ## The accesses of a core -/

/-- PRIV of an access that the windows do not grant, before ALIGN of a misaligned one (R177, R178, R180). -/
def State.accessFault (s : State) (c : CoreId) (a : W64) (n right : Nat) : Option Exc :=
  if !s.allowed c.val a right then some { code := 4, sub := 4, resp := 4, addr := some a }
  else if a.toNat % n ≠ 0 then Resp.errSize.exc a
  else none

/-- A load of a loop record word without a destination, as an LXR: the core waits for what it brings; with LOOP isolated it fails (R190, R192). -/
def State.loadLoop (s : State) (c : CoreId) (a : W64) : State × TWord :=
  let t := (s.lxIssue c.val (.read a 0)).lxDrain c.val
  (t, match loopAddr a with
    | some (k, w) => if s.isolated 0x040 then { data := 0, tag := 0xD8 } else t.landed k w
    | none => { data := 0, tag := 0xD8 })

/-- A load of a core: the windows, the place, the caches' check errors, and the access (R141, R168, R177, R184, R192).
DEDUCED: log entry 30. -/
def State.coreLoad (s : State) (c : CoreId) (a : W64) (n : Nat) : Except (Exc × State) (State × TWord) :=
  match s.accessFault c a n 31 with
  | some e => .error (e, s)
  | none =>
    if regionOf a = some .loop ∧ n = 8 then .ok (s.loadLoop c a)
    else match s.place a n false with
    | (.okay, some r) =>
      let t := s.cacheTouched c.val a
      if s.cacheBad a then .error (cacheExc a, t)
      else
        let x := t.memRead (.core c) r a n
        match x.1.exc a with
        | some e => .error (e, x.2.1)
        | none => .ok x.2
    | (r, _) => match r.exc a with
      | some e => .error (e, s)
      | none => .ok (s, {})

/-- A load into a register: from the loop record region the LXR that it is carried out as (R192, R214). -/
def State.loadReg (s : State) (c : CoreId) (rd : GReg) (a : W64) (n : Nat) (f : W64 → W64) : Except (Exc × State) State :=
  match regionOf a, s.allowed c.val a 31, n with
  | some .loop, true, 8 =>
    if a.toNat % 8 = 0 then .ok (s.lxIssue c.val (.read a rd)) else .error ({ code := 2, sub := 2, resp := 2, addr := some a }, s)
  | _, _, _ => match s.coreLoad c a n with
    | .error e => .error e
    | .ok (s, v) => .ok (s.setGreg c.val rd.val { v with data := f v.data })

/-- A store of a core: a store to the loop record region is an LXW with its tag; ERR_TAG leaves the stored tag for ETAG (R157, R184, R192,
R193). DEDUCED: log entry 30. -/
def State.coreStore (s : State) (c : CoreId) (a : W64) (n : Nat) (v : TWord) : Except (Exc × State) State :=
  match s.accessFault c a n 30 with
  | some e => .error (e, s)
  | none =>
    if regionOf a = some .loop ∧ n = 8 then .ok (s.lxIssue c.val (.write a v))
    else match s.place a n true with
    | (.okay, some r) =>
      let x := s.memWrite { master := .core c, tag := v.tag } r a n v.data
      match x.1.exc a (if x.1 = .errTag then some v.tag else none) with
      | some e => .error (e, x.2)
      | none => .ok x.2
    | (r, _) => match r.exc a with
      | some e => .error (e, s)
      | none => .ok s

/-! ## Loads and stores (R213) -/

/-- The address of a memory operand: Gb + sext(DISP16). -/
def State.memAddr (s : State) (c : CoreId) (rb : GReg) (disp : BitVec 16) : W64 := (s.greg c.val rb.val).data + disp.signExtend 64

/-- A load instruction, with the check error that it meets in the caches (R168). -/
def State.loadOp (s : State) (c : CoreId) (rd rb : GReg) (at_ : LoadAt) (n : Nat) (f : W64 → W64) : Res :=
  s.instr c [rd, rb] fun s =>
    let a := s.memAddr c rb at_.disp
    match (s.cacheFound a at_.found).loadReg c rd a n f with
    | .error e => .error e
    | .ok t => .ok (t, s.pcNext c)

/-- A store instruction. -/
def State.storeOp (s : State) (c : CoreId) (rd rb : GReg) (disp : BitVec 16) (n : Nat) (f : TWord → TWord) : Res :=
  s.instr c [rd, rb] fun s =>
    match s.coreStore c (s.memAddr c rb disp) n (f (s.greg c.val rd.val)) with
    | .error e => .error e
    | .ok t => .ok (t, s.pcNext c)

/-- LD (R168, R213). -/
def execLd (c : CoreId) (rd rb : GReg) (at_ : LoadAt) (s : State) : Res := s.loadOp c rd rb at_ 8 id

/-- LW (R213). -/
def execLw (c : CoreId) (rd rb : GReg) (at_ : LoadAt) (s : State) : Res :=
  s.loadOp c rd rb at_ 4 fun v => (v.setWidth 32).signExtend 64

/-- LWU (R213). -/
def execLwu (c : CoreId) (rd rb : GReg) (at_ : LoadAt) (s : State) : Res := s.loadOp c rd rb at_ 4 id

/-- LBU (R213). -/
def execLbu (c : CoreId) (rd rb : GReg) (at_ : LoadAt) (s : State) : Res := s.loadOp c rd rb at_ 1 id

/-- ST (R213). -/
def execSt (c : CoreId) (rd rb : GReg) (disp : BitVec 16) (s : State) : Res := s.storeOp c rd rb disp 8 id

/-- SW: the low 32 bits, with the register's tag (R213). -/
def execSw (c : CoreId) (rd rb : GReg) (disp : BitVec 16) (s : State) : Res :=
  s.storeOp c rd rb disp 4 fun v => { v with data := v.data &&& 0xFFFFFFFF }

/-- SB: the low byte; the tag is dropped (R213). -/
def execSb (c : CoreId) (rd rb : GReg) (disp : BitVec 16) (s : State) : Res :=
  s.storeOp c rd rb disp 1 fun v => { data := v.data &&& 0xFF, tag := 0 }

/-- The regions in which CAS is allowed (R214). -/
def casRegion (a : W64) : Bool := regionOf a == some .tpm || regionOf a == some .pm

/-- The exception that a CAS raises before it makes an access (R177, R178, R180, R214). DEDUCED: log entry 32. -/
def State.casFault (s : State) (c : CoreId) (a : W64) : Option Exc :=
  if casRegion a && !s.allowed c.val a 31 then Resp.errPriv.exc a
  else if a.toNat % 8 ≠ 0 then Resp.errSize.exc a
  else if !casRegion a then some { code := 3, addr := some a }
  else none

/-- CAS (R213, R214). DEDUCED: log entry 32. -/
def execCas (c : CoreId) (rd ra rb : GReg) (s : State) : Res :=
  s.instr c [rd, ra, rb] fun s =>
    let a := (s.greg c.val ra.val).data
    let cmp := (s.greg c.val rd.val).data
    let new := s.greg c.val rb.val
    match s.casFault c a with
    | some e => .error (e, s)
    | none => match s.coreLoad c a 8 with
      | .error e => .error e
      | .ok (s, old) =>
        match (if old.data = cmp then s.coreStore c a 8 new else .ok s) with
        | .error e => .error e
        | .ok t => .ok (t.setGreg c.val rd.val old, s.pcNext c)

end Sys2Proof.Machine
end

