-- ==== Sys2Proof/Machine/Branch.lean ====
section
/-! DEFINITION. Branches, calls, the return from an exception, the loop-engine and system instructions, the encodings that select none, and the
asynchronous events of a core (R180 to R187, R197 to R200, R210 to R212, R224, R225). -/

namespace Sys2Proof.Machine

/-- The registers with a role of their own (R169). -/
def gIB : GReg := 28
def gTB : GReg := 29
def gLK : GReg := 30
def gSP : GReg := 31

/-- A displacement in words from the PC. -/
def State.pcPlus (s : State) (c : CoreId) (words : Int) : W64 := (s.core c.val).pc + BitVec.ofInt 64 (4 * words)

/-! ## Branches and jumps (R210) -/

/-- BR (R210). -/
def execBr (c : CoreId) (disp : BitVec 20) (lnk : Bool) (s : State) : Res :=
  s.instr c (if lnk then [gLK] else []) fun s =>
    let t := s.pcPlus c disp.toInt
    .ok (if lnk then s.setGreg c.val gLK.val { data := s.pcNext c, tag := 0 } else s, t)

/-- A conditional branch: the operand may raise TAGBAD (R202, R210). -/
def State.branchIf (s : State) (c : CoreId) (ra : GReg) (disp : BitVec 20) (zero : Bool) : Res :=
  s.instr c [ra] fun s =>
    let a := s.greg c.val ra.val
    match s.tagBad c [a.tag] with
    | some e => .error (e, s)
    | none => .ok (s, if (a.data == 0) == zero then s.pcPlus c disp.toInt else s.pcNext c)

/-- BZ (R210). -/
def execBz (c : CoreId) (ra : GReg) (disp : BitVec 20) (s : State) : Res := s.branchIf c ra disp true

/-- BNZ (R210). -/
def execBnz (c : CoreId) (ra : GReg) (disp : BitVec 20) (s : State) : Res := s.branchIf c ra disp false

/-- ALIGN for a jump target that is no multiple of 4 (R210, R211). DEDUCED: log entry 22. -/
def targetFault (a : W64) : Option Exc := if a.toNat % 4 ≠ 0 then some { code := 2, addr := some a } else none

/-- JR (R210). -/
def execJr (c : CoreId) (rd ra : GReg) (s : State) : Res :=
  s.instr c [rd, ra] fun s =>
    let a := (s.greg c.val ra.val).data
    match targetFault a with
    | some e => .error (e, s)
    | none => .ok (s.setGreg c.val rd.val { data := s.pcNext c, tag := 0 }, a)

/-! ## Function-block calls (R211) -/

/-- The call of R211: LK and IB go to the stack, IB takes the instance, LK the return address. SP keeps its tag.
DEDUCED: log entry 35. -/
def State.callBlock (s : State) (c : CoreId) (target : W64) (gi : TWord) : Except (Exc × State) (State × W64) :=
  let sp := s.greg c.val gSP.val
  let lk := s.greg c.val gLK.val
  let ib := s.greg c.val gIB.val
  match s.coreStore c (sp.data - 16) 8 lk with
  | .error e => .error e
  | .ok s => match s.coreStore c (sp.data - 8) 8 ib with
    | .error e => .error e
    | .ok s =>
      let ret := s.pcNext c
      let s := (s.setGreg c.val gSP.val { sp with data := sp.data - 16 }).setGreg c.val gIB.val gi
      .ok (s.setGreg c.val gLK.val { data := ret, tag := 0 }, target)

/-- FCALL (R211). -/
def execFcall (c : CoreId) (ri : GReg) (disp : BitVec 21) (s : State) : Res :=
  s.instr c [ri, gSP, gIB, gLK] fun s => s.callBlock c (s.pcPlus c disp.toInt) (s.greg c.val ri.val)

/-- FCALLR (R211). -/
def execFcallr (c : CoreId) (ra rb : GReg) (s : State) : Res :=
  s.instr c [ra, rb, gSP, gIB, gLK] fun s =>
    let a := (s.greg c.val ra.val).data
    match targetFault a with
    | some e => .error (e, s)
    | none => s.callBlock c a (s.greg c.val rb.val)

/-- FRET: LK is checked before the stack is read (R211). -/
def execFret (c : CoreId) (s : State) : Res :=
  s.instr c [gSP, gIB, gLK] fun s =>
    let sp := s.greg c.val gSP.val
    let lk := (s.greg c.val gLK.val).data
    match targetFault lk with
    | some e => .error (e, s)
    | none => match s.coreLoad c sp.data 8 with
      | .error e => .error e
      | .ok (s, newLk) => match s.coreLoad c (sp.data + 8) 8 with
        | .error e => .error e
        | .ok (s, newIb) =>
          let s := (s.setGreg c.val gLK.val newLk).setGreg c.val gIB.val newIb
          .ok (s.setGreg c.val gSP.val { sp with data := sp.data + 16 }, lk)

/-! ## The return from an exception (R177, R212) -/

/-- LEVEL, EXC_ACTIVE and IE as ERET leaves them (R212): with IMM16 [0] at 1 IE is 0, also where it was not before.
DEDUCED: log entry 34. -/
def State.leaveExc (s : State) (c : Nat) (keepIE : Bool) : State :=
  let k := coreKey c 0x100
  ((s.setFlag k 2 (s.flag k 5)).setFlag k 3 false).setFlag k 4 !keepIE

/-- ERET: to EPC, or where the handler of an overrun, which is the runtime, has put another cycle (R212, R246). DEDUCED: log entry 23. -/
def execEret (c : CoreId) (keepIE : Bool) (s : State) : Res :=
  s.instr c [] fun s =>
    if !s.levelP c.val then .error ({ code := 5 }, s)
    else
      let pc := (s.core c.val).nextPc.getD (s.reg64 (coreKey c.val 0x114))
      .ok ((s.setCore c.val { s.core c.val with nextPc := none }).leaveExc c.val keepIE, pc)

/-! ## Loop-engine and system instructions (R187, R224, R225) -/

/-- LXW (R224). -/
def execLxw (c : CoreId) (rd rb : GReg) (disp : BitVec 16) (s : State) : Res :=
  s.instr c [rd, rb] fun s => .ok (s.lxIssue c.val (.write (s.memAddr c rb disp) (s.greg c.val rd.val)), s.pcNext c)

/-- LXR (R224). -/
def execLxr (c : CoreId) (rd rb : GReg) (disp : BitVec 16) (s : State) : Res :=
  s.instr c [rd, rb] fun s => .ok (s.lxIssue c.val (.read (s.memAddr c rb disp) rd), s.pcNext c)

/-- LXF (R224). -/
def execLxf (c : CoreId) (opt : BitVec 2) (rb : GReg) (disp : BitVec 16) (s : State) : Res :=
  s.instr c [rb] fun s => .ok (s.lxIssue c.val (.fix (s.memAddr c rb disp) opt), s.pcNext c)

/-- SVC: the service code stays in the instruction's word (R224, R225). DEDUCED: log entry 28. -/
def execSvc (c : CoreId) (code : BitVec 16) (s : State) : Res :=
  s.instr c [] fun s => let _ := code; .error ({ code := 0x0A }, s)

/-! ## Encodings that select no instruction (R197 to R200) -/

/-- The word is the encoding of an instruction (R199, R200). -/
def assignedWord (w : W32) : Bool := (decodeWord 0 w).isSome

/-- UNASSIGNED_ENCODING: ILLEGAL, with no other effect (R179, R200). A word that is an instruction's encoding is no such command.
DEDUCED: log entry 33. -/
def execUnassignedEncoding (c : CoreId) (word : W32) (s : State) : Res :=
  if assignedWord word then .next s else s.instr c [] fun s => .error ({ code := 5 }, s)

/-! ## Interrupts, budgets and the core watchdog (R180 to R183, R186) -/

/-- A core that runs, and that no debugger holds (R182, R183). -/
def State.coreRuns (s : State) (c : Nat) : Bool :=
  s.rst.phase == .running && s.domState (2 + c) == 2 && s.flag (coreKey c 0x100) 0 && !(s.core c).inReset && !s.halted c

/-- INTERRUPT_ENTRY (R180, R181, R186). -/
def execInterruptEntry (c : CoreId) (s : State) : Res :=
  .next <|
    let n := c.val
    if s.coreRuns n && s.intsOn n && !s.excActive n then
      match s.irqSlot n with
      | some k => s.enter n { code := 0x80 + k } (s.core n).pc (0x800 + 0x40 * k)
      | none => s
    else s

/-- TASK_BUDGET_EXPIRY: OVERRUN is raised once (R183, R193). -/
def execTaskBudgetExpiry (c : CoreId) (s : State) : Res :=
  .next <|
    let n := c.val
    if s.coreRuns n && s.reg (coreKey n 0x140) != 0 then
      let s := (s.setReg (coreKey n 0x140) 0).pulseIrq (ecorePage n) 2
      (s.setCore n { s.core n with overrunPend := true }).takeAsync n
    else s

/-- STAGE of the core watchdog, which counts while EN is 1 (R182). -/
def State.cwdgStage (s : State) (c : Nat) : Option Nat :=
  if s.coreRuns c && s.flag (coreKey c 0x130) 16 then some (s.fld (coreKey c 0x138) 0 2) else none

/-- CORE_WATCHDOG_FIRST_EXPIRY: STAGE 1, the count reloaded, WDOG raised (R182, R193, R194). -/
def execCoreWatchdogFirstExpiry (c : CoreId) (s : State) : Res :=
  .next <|
    let n := c.val
    if s.cwdgStage n = some 0 then
      let s := ((s.loadCwdg n).setFld (coreKey n 0x138) 0 2 1).pulseIrq (ecorePage n) 1
      let s := s.logEvt (ecorePage n) 0xFFF 0x10
      (s.setCore n { s.core n with wdogPend := true }).takeAsync n
    else s

/-- CORE_WATCHDOG_RESET: the second expiry without a kick (R102, R182). -/
def execCoreWatchdogReset (c : CoreId) (s : State) : Res :=
  .next (if s.cwdgStage c.val = some 1 then (s.coreReset c.val).logRst c.val 0x11 else s)

end Sys2Proof.Machine
end

