-- ==== Sys2Proof/Machine/Prims.lean ====
section
/-! DEFINITION. The process primitives (R216 to R223). -/

namespace Sys2Proof.Machine

/-! ## The instance block (R216) -/

/-- The address of word `n` of the instance block. -/
def State.instAddr (s : State) (c : CoreId) (n i : Nat) : W64 := (s.greg c.val gIB.val).data + BitVec.ofNat 64 (8 * (n + i))

/-- The exception of the checks of item 1 for a block of `len` words (R180, R216). -/
def State.instFault (s : State) (c : CoreId) (n len : Nat) : Option Exc :=
  let a := (List.range len).map (s.instAddr c n)
  let first := s.instAddr c n 0
  if !a.all fun x => s.levelP c.val || (s.inWindow c.val x 31 && s.inWindow c.val x 30) then
    some { code := 4, addr := a.find? fun x => !(s.levelP c.val || (s.inWindow c.val x 31 && s.inWindow c.val x 30)) }
  else if (s.greg c.val gIB.val).data.toNat % 8 ≠ 0 then some { code := 2, addr := some first }
  else if !a.all fun x => regionOf x == some .tpm then
    some { code := 3, addr := a.find? fun x => regionOf x != some .tpm }
  else none

/-- The TPM word of an address. -/
def tpmIndex (a : W64) : Nat := (a.toNat - 0x100000000) / 8

/-- The words of the instance block are read, their check errors treated (R176, R216). -/
def State.readInst (s : State) (c : CoreId) (n len : Nat) : State × List TWord :=
  (List.range len).foldl (fun (x : State × List TWord) i =>
    let r := x.1.readTpm (.core c) (tpmIndex (s.instAddr c n i))
    (r.2.1, x.2 ++ [r.2.2])) (s, [])

/-- Word `i` of what was read. -/
def instWord (l : List TWord) (i : Nat) : TWord := (l[i]?).getD {}

/-- What a primitive computes: Gd with its tag, the instance words that it writes, and the floating-point flags (R216). -/
structure PrimResult where
  out : TWord
  writes : List (Nat × TWord) := []
  flags : Nat := 0

/-- A primitive: the checks of items 1 and 2, TAGBAD, the computation, the instance words and Gd (R216). `f` gets Ga, the instance words and
the task time. DEDUCED: log entry 38. -/
def State.primitive (s : State) (c : CoreId) (rd ra : GReg) (n len : Nat) (usesTT : Bool)
    (f : TWord → List TWord → TWord → PrimResult) : Res :=
  s.instr c ([rd, ra, gIB] ++ if usesTT then [gTB] else []) fun s =>
    match s.instFault c n len with
    | some e => .error (e, s)
    | none =>
      match (if usesTT then s.coreLoad c (s.greg c.val gTB.val).data 8 else .ok (s, {})) with
      | .error e => .error e
      | .ok (t, tt) =>
        let a := s.greg c.val ra.val
        match s.tagBad c [a.tag] with
        | some e => .error (e, s)
        | none =>
          let x := t.readInst c n len
          let r := f a x.2 tt
          if r.flags &&& x.1.fld (coreKey c.val 0x12C) 0 5 ≠ 0 then .error ({ code := 7, sub := r.flags }, s)
          else
            let s := r.writes.foldl (fun (s : State) w => s.setTpm (tpmIndex (s.instAddr c n w.1)) w.2) x.1
            .ok (s.setGreg c.val rd.val r.out, s.pcNext c)

/-- The primitive holds its input: Q of Ga is BAD or ABSENT (item 6). -/
def holdsInput (a : TWord) : Bool := decide (2 ≤ tagQ a.tag)

/-- A state word of an instance, with tag 0x00 (item 5). -/
def stateWord (n : Nat) : TWord := { data := BitVec.ofNat 64 n, tag := 0 }

/-! ## TIM (R217, R218) -/

/-- ET and Q of a timer, and RUN, after an evaluation (R218). -/
def timStep (v : TimVar) (inp pin q run : Bool) (pt et dt : Nat) : Nat × Bool × Bool :=
  match v with
  | .onDelay =>
    let et := if inp && pin then min (et + dt) pt else 0
    (et, inp && decide (pt ≤ et), run)
  | .offDelay =>
    if inp then (0, true, run)
    else if pin then (0, decide (0 < pt), run)
    else if q then
      let et := min (et + dt) pt
      (et, decide (et < pt), run)
    else (et, false, run)
  | .pulse =>
    if run then
      let et := min (et + dt) pt
      let run := decide (et < pt)
      (et, run, run)
    else if inp && !pin then (0, decide (0 < pt), decide (0 < pt))
    else if !inp then (0, false, false)
    else (et, false, false)

/-- TIM (R217, R218). -/
def execTim (c : CoreId) (rd ra : GReg) (n : BitVec 14) (v : TimVar) (s : State) : Res :=
  s.primitive c rd ra n.toNat 4 true fun a w tt =>
    let pt := instWord w 0
    let last := (instWord w 2).data.toNat
    let st := (instWord w 3).data
    let inp := if holdsInput a then st.getLsbD 1 else a.data.getLsbD 0
    let dt := if !st.getLsbD 4 || decide (tt.data.toNat < last) then 0 else tt.data.toNat - last
    let r := timStep v inp (st.getLsbD 1) (st.getLsbD 0) (st.getLsbD 2) pt.data.toNat (instWord w 1).data.toNat dt
    { out := { data := boolWord r.2.1, tag := resultTag [a.tag, pt.tag, tt.tag] false }
      writes := [(1, stateWord r.1), (2, { data := tt.data, tag := 0 }),
        (3, stateWord (r.2.1.toNat + 2 * inp.toNat + 4 * r.2.2.toNat + 8 * (st.getLsbD 3).toNat + 16))] }

/-! ## EDG and CNT (R219, R220) -/

/-- EDG (R219). -/
def execEdg (c : CoreId) (rd ra : GReg) (n : BitVec 14) (v : EdgVar) (s : State) : Res :=
  s.primitive c rd ra n.toNat 1 false fun a w _ =>
    let pin := (instWord w 0).data.getLsbD 0
    let x := a.data.getLsbD 0
    let edge := match v with
      | .rising => x && !pin
      | .falling => pin && !x
      | .both => x != pin
    let tag := resultTag [a.tag] false
    if holdsInput a then { out := { data := 0, tag := tag } }
    else { out := { data := boolWord edge, tag := tag }, writes := [(0, stateWord x.toNat)] }

/-- The count after an evaluation, and whether one was lost to saturation (R220). -/
def cntStep (up down reset load : Bool) (cv pv : Int) : Int × Bool :=
  if reset then (0, false)
  else if load then (pv, false)
  else if up == down then (cv, false)
  else if up then (if cv = 2 ^ 63 - 1 then (cv, true) else (cv + 1, false))
  else if cv = -(2 ^ 63) then (cv, true) else (cv - 1, false)

/-- CNT (R220). -/
def execCnt (c : CoreId) (rd ra : GReg) (n : BitVec 14) (v : CntVar) (s : State) : Res :=
  s.primitive c rd ra n.toNat 3 false fun a w _ =>
    let pv := instWord w 1
    let st := (instWord w 2).data
    let hold := holdsInput a
    let cu := if hold then st.getLsbD 0 else a.data.getLsbD 0
    let cd := if hold then st.getLsbD 1 else a.data.getLsbD 1
    let up := cu && !st.getLsbD 0 && v != .down
    let down := cd && !st.getLsbD 1 && v != .up
    let r := cntStep up down (!hold && a.data.getLsbD 2) (!hold && a.data.getLsbD 3) (instWord w 0).data.toInt pv.data.toInt
    let tag := resultTag [a.tag, pv.tag] r.2
    { out := { data := BitVec.ofNat 64 ((decide (pv.data.toInt ≤ r.1)).toNat + 2 * (decide (r.1 ≤ 0)).toNat), tag := tag }
      writes := [(0, { data := BitVec.ofInt 64 r.1, tag := tag }), (2, stateWord (cu.toNat + 2 * cd.toNat))] }

/-! ## HYS and LIM (R221, R222) -/

/-- The switch of HYS after an evaluation (R221). -/
def hysStep (x hi lo : W64) (s : Bool) : Bool :=
  if dNan x then s
  else if dLt hi lo then dLt hi x
  else if dLt hi x then true
  else if dLt x lo then false
  else s

/-- HYS (R221). -/
def execHys (c : CoreId) (rd ra : GReg) (n : BitVec 14) (inv : Bool) (s : State) : Res :=
  s.primitive c rd ra n.toNat 3 false fun a w _ =>
    let hi := instWord w 0
    let lo := instWord w 1
    let was := (instWord w 2).data.getLsbD 0
    let now := if holdsInput a then was else hysStep a.data hi.data lo.data was
    { out := { data := boolWord (now != inv), tag := resultTag [a.tag, hi.tag, lo.tag] false }
      writes := [(2, stateWord now.toNat)] }

/-- The value of LIM (R222). -/
def limValue (int : Bool) (x lo hi : W64) : W64 :=
  if int then BitVec.ofInt 64 (min (max x.toInt lo.toInt) hi.toInt)
  else if dNan x then x
  else dMin (dMax x lo) hi

/-- LIM (R222). -/
def execLim (c : CoreId) (rd ra : GReg) (n : BitVec 14) (int : Bool) (s : State) : Res :=
  s.primitive c rd ra n.toNat 2 false fun a w _ =>
    let lo := instWord w 0
    let hi := instWord w 1
    let r := limValue int a.data lo.data hi.data
    { out := { data := r, tag := resultTag [a.tag, lo.tag, hi.tag] (r != a.data) } }

/-! ## RMP (R223) -/

/-- 8.0e−9 as binary64. DEDUCED: log entry 38. -/
def tickSeconds : W64 := 0x3E412E0BE826D695#64

/-- +∞ as binary64. -/
def dInf : W64 := 0x7FF0000000000000#64

/-- limit(r, dt) of R223. -/
def rampLimit (r : W64) (dt : Nat) : FRes :=
  if r = dInf then { bits := dInf.toNat }
  else if dNan r || dLt r 0 then { bits := 0 }
  else mulFp f64 .rne (unp r) (unpack f64 dt)

/-- OUT after an evaluation with a valid input of a ramp that has run: its value, the flags raised, whether it was limited, and whether the
addition that gave it failed (R173, R223). -/
def rampStep (x out rup rdn : W64) (ticks : Nat) : W64 × Nat × Bool × Bool :=
  let secs := roundFp f64 .rne false ticks 0
  let dt := mulFp f64 .rne (unpack f64 secs.bits) (unp tickSeconds)
  let up := rampLimit rup dt.bits
  let dn := rampLimit rdn dt.bits
  let d := addFp f64 .rne (unp x) (unp out).negated
  let flags := secs.flags ||| dt.flags ||| up.flags ||| dn.flags ||| d.flags
  let done := fun (r : FRes) => (asW64 r, flags ||| r.flags, true, fpFails [unp x, unp out, unp rup, unp rdn] (unpack f64 r.bits))
  if dLt (asW64 up) (asW64 d) then done (addFp f64 .rne (unp out) (unpack f64 up.bits))
  else if dLt (asW64 d) (dNeg (asW64 dn)) then done (addFp f64 .rne (unp out) (unpack f64 dn.bits).negated)
  else (x, flags, false, false)

/-- RMP (R223). -/
def execRmp (c : CoreId) (rd ra : GReg) (n : BitVec 14) (s : State) : Res :=
  s.primitive c rd ra n.toNat 5 true fun a w tt =>
    let out := (instWord w 0).data
    let rup := instWord w 1
    let rdn := instWord w 2
    let last := (instWord w 3).data.toNat
    let ticks := if tt.data.toNat < last then 0 else tt.data.toNat - last
    let r : W64 × Nat × Bool × Bool :=
      if holdsInput a || dNan a.data then (out, 0, false, false)
      else if !(instWord w 4).data.getLsbD 0 then (a.data, 0, false, false)
      else rampStep a.data out rup.data rdn.data ticks
    let tag := failTag (resultTag [a.tag, rup.tag, rdn.tag, tt.tag] r.2.2.1) r.2.2.2
    { out := { data := r.1, tag := tag }, flags := r.2.1
      writes := [(0, { data := r.1, tag := tag }), (3, { data := tt.data, tag := 0 }), (4, stateWord 1)] }

end Sys2Proof.Machine
end

