-- ==== Sys2Proof/Machine/Frame.lean ====
section
/-! DEFINITION. What happens at a loop frame boundary (R254) and at the start of a field period (R341), over all chapters. -/

namespace Sys2Proof.Machine

/-- The buffer that closes at boundary `g`: its words 0 and 1 (R234, R351). A follower takes the holder's (R460). -/
def State.closeBuffer (s : State) (g : W64) : State :=
  if s.boot.image.isSome && s.domState 6 == 2 && !s.follower then
    let b := s.frameBuffer (g - 1)
    (s.setTpmData b (g - 1) 0).setTpmData (b + 1) s.time.ltb 0
  else s

/-- The region of a group goes from the buffer that closes at boundary `g` into the one that opens, which holds the last accepted values
(R234). In twin sync, where a buffer opens 4 µs before, the latest values of the link do (R460). -/
def State.carryRegion (s : State) (g : W64) (k : Nat) : State :=
  if !(s.grp k).link.shown then s
  else if s.twinSync then
    if (s.grp k).link.timedOut then s.putStale k else s.putRegion k
  else
    let src := s.frameBuffer (g - 1) + 64 + 64 * k
    let dst := s.frameBuffer g + 64 + 64 * k
    (List.range 64).foldl (fun s i => s.copyTpm (src + i) (dst + i)) s

/-- The buffer of frame `g` opens with the last accepted values (R234). -/
def State.openFrame (s : State) (g : W64) : State :=
  if s.boot.image.isSome && s.domState 6 == 2 then (List.range 57).foldl (fun s k => s.carryRegion g k) s else s

/-- At each boundary the claim takes SCORE from PROOF (R454). -/
def State.takeScore (s : State) : State := s.setFld Reg.CLAIM_OWN 4 10 (s.fld Reg.PROOF_SCORE 0 10)

/-- The runtime finds LOOP.STAT.READY at 0 and marks the loops' output words itself (R285). -/
def State.runtimeMarks (s : State) : State :=
  match s.boot.image with
  | some i =>
    if s.boot.running && !s.flag (rk 0x040 Reg.STAT) 0 then
      (imageLoopOuts i).foldl (fun s w => let v := s.tpmAt w; s.setTpmData w v.data (badTag 7 v.tag)) s
    else s
  | none => s

/-- A write of the holder from outside is carried out as master 0x1C. One of CTRL.SRST of a core counts as the source that it had on the holder,
and is denied where that one was (R102, R460). -/
def State.mirroredWrite (s : State) (p off : Nat) (v : W32) (src : Master) : State :=
  let w : Writer := { master := .twin, tag := 0 }
  let t :=
    if 0x010 ≤ p ∧ p ≤ 0x013 ∧ off = Reg.CTRL ∧ v.getLsbD 1 = true ∧ s.gate .twin p off = .okay then
      if coreResetDenied src (p - 0x010) then s.logRst (p - 0x010) 0x22
      else (s.writeReg w p off (v &&& 5)).requestCoreReset src (p - 0x010)
    else (s.writeReg w p off v).afterWrite p
  { t with bus := s.bus }

/-- The writes of the holder from outside that are due at boundary `g`, and the requests for field domains (R87, R460). -/
def State.mirroredDue (s : State) (g : W64) : State :=
  let regs := s.pair.mirrored.filter fun e => notAfter e.1 g
  let words := s.pair.mirroredTpm.filter fun e => notAfter e.1 g
  let doms := s.pair.domReq.filter fun e => notAfter e.1 g
  let s := { s with pair := { s.pair with
    mirrored := s.pair.mirrored.filter fun e => !notAfter e.1 g
    mirroredTpm := s.pair.mirroredTpm.filter fun e => !notAfter e.1 g
    domReq := s.pair.domReq.filter fun e => !notAfter e.1 g } }
  let s := doms.foldl (fun (s : State) e => s.domainRequest .twin e.2.1 e.2.2) s
  let s := regs.foldl (fun (s : State) e => s.mirroredWrite e.2.1 e.2.2.1 e.2.2.2.1 e.2.2.2.2) s
  words.foldl (fun (s : State) e => if e.2.1 < tpmWords then s.setTpm e.2.1 e.2.2 else s) s

/-- The index and the cycles since the boundary, and SYS.IRQ_RAW bit 6 for one cycle (R254, R255). -/
def State.countFrame (s : State) (g : W64) : State :=
  ((s.setReg64 Reg.SYS_LFI_LO g).setFld Reg.SYS_LFI_CYC 0 14 0).pulseIrq 0x000 6

/-- Tasks and loops start, and the claim is raised (R131). -/
def State.startAtBoundary (s : State) : State := (if s.boot.starting then s.startRunning else s).raiseClaim

/-- Lockstep at boundary `g`: the hash of the frame that ends, and receipts still owed (R460, R464). -/
def State.lockstepBoundary (s : State) (g : W64) : State :=
  let s := ((s.joinBoundary g).closeHash g).compareHash g
  let s := if s.owedDue then s.endTwinSync 5 else s
  { s with pair := { s.pair with stretch := 0 } }

/-- LOOP_FRAME_BOUNDARY: frame `g` begins (R254). `die` is the hottest die sensor in 0.0625 °C, which Proof reads. -/
def State.frameBoundary (s : State) (die : BitVec 16) : State :=
  let g := s.lfi + 1
  let s := s.snapBoundary.closeBuffer g
  let s := (s.countFrame g).openFrame g
  let s := (s.startAtBoundary.latchSelects g).releaseTasks g
  let s := ((s.mirroredDue g).mirrorBoundary g).loopFrame g
  let s := ((s.runtimeMarks.lockstepBoundary g).proofBoundary g die).takeScore
  s.watchTests.finishShutdown

/-- SYS is released and has its clock: the loop frame generator runs (R254, R623). -/
def State.sysRuns (s : State) : Bool :=
  (s.rst.phase == .running || s.rst.phase == .sysReleased) && (s.pwr.power == .run || s.pwr.power == .hold)

/-- LOOP_FRAME_BOUNDARY (R254). -/
def execLoopFrameBoundary (die : BitVec 16) (s : State) : Res := .next (if s.sysRuns then s.frameBoundary die else s)

/-- FIELD_PERIOD_START (R341); a test or request of Proof that has lost what it needs ends with it (R489, R636). In HOLD and SAVE the module sends no burst (R623). -/
def execFieldPeriodStart (s : State) : Res :=
  .next (if s.logicRuns then (s.fieldPeriod.watchTests).watchRequest else s)

end Sys2Proof.Machine
end

