-- ==== Sys2Proof/Machine/Sessions.lean ====
section
/-! DEFINITION. Engineering sessions of Slathe (R617, R618): opening, requests within a session's rights, idle time-out. -/

namespace Sys2Proof.Machine

/-- The number of open sessions, as SEC.SESS shows it (R630). -/
def State.showSessions (s : State) : State :=
  s.setFld Reg.SEC_SESS 0 3 (s.sec.sessions.filter fun e => e.2.isSome).length

/-- Session `n` has rights, or is closed. -/
def State.setRights (s : State) (n : Nat) (r : Option (BitVec 5)) : State :=
  ({ s with sec := { s.sec with sessions := sset (dflt none) s.sec.sessions n r } }).showSessions

/-- The boot ROM serves recovery sessions: PHASE is BOOT_FAIL, but not in SCRAPPED (R123, R615). DEDUCED: log entry 94. -/
def State.recovery (s : State) : Bool := s.phase == 8 && s.lifecycle != 4

/-- A client reaches the runtime by the host port of either switch, or the boot ROM in BOOT_FAIL (R617). -/
def State.reachable (s : State) : Bool :=
  s.sysRuns && ((decide (2 ≤ s.phase ∧ s.phase ≤ 7) && (s.ethOn 0 || s.ethOn 1)) || s.recovery)

/-- The rights of a new session, none where it is refused: by lifecycle and certificate (R609, R617). Bit 0 VIEW to bit 4 ADMIN.
DEDUCED: log entry 94. -/
def State.sessionRights (s : State) (cert : SessionCert) : Option (BitVec 5) :=
  match s.lifecycle with
  | 0 => some 0x11
  | 1 | 2 => if cert.chains then some ((cert.rights.getD 0) ||| 1) else none
  | _ => none

/-- The lowest session number that is free; at most 4 are open at once (R618). -/
def State.freeSession (s : State) : Option Nat :=
  [0, 1, 2, 3].find? fun n => (sget (dflt none) s.sec.sessions n).isNone

/-- SESSION_OPEN (R617, R618, R633). -/
def execSessionOpen (cert : SessionCert) (s : State) : Res :=
  .next <|
    if !s.reachable then s
    else match s.freeSession, s.sessionRights cert with
      | some n, some r => (s.setRights n (some r)).logSec 0x08 (r.setWidth 64)
      | _, _ => s.logSec 0x09

/-- SESSION_IDLE_TIMEOUT (R618). -/
def execSessionIdleTimeout (session : Fin 4) (s : State) : Res :=
  .next <|
    if (sget (dflt none) s.sec.sessions session.val).isSome then (s.setRights session.val none).logSec 0x0A else s

/-- The right that lets a session write a register, by its bit (R617, R575): ENGINEER but for the RTC page and the commands of switchover,
rejoin, power and restart (DEPLOY) and the SEC page (ADMIN). DEDUCED: log entry 93. -/
def pageRight (p off : Nat) : Option Nat :=
  if p = 0x022 then some 2
  else if (p = 0x000 ∧ off = 0x108) ∨ (p = 0x002 ∧ off = 0x110) ∨ (p = 0x003 ∧ off = 0x164) ∨ (p = 0x0D1 ∧ off = 0x10C)
    ∨ (p = 0x0D0 ∧ off = 0x128) then some 2
  else if p = 0x004 then some 4
  else some 1

/-- The right that a request needs, by its bit; none where no right allows it (R617). DEDUCED: log entry 93. -/
def sessionRight (req : SessionReq) : Option Nat :=
  match req with
  | .view => some 0
  | .loopWord _ _ _ | .fix _ _ | .taskWord _ _ => some 1
  | .regWrite p off _ => pageRight p off
  | .taskRestart _ | .rejoin | .switchOver | .shutdown _ | .release | .restart => some 2
  | .staging _ _ => some 3
  | .customerCa _ | .opCert _ => some 4

/-- Requests that their own rules give to a module that does not hold the claim: out of STOP (R129, R133), out of HOLD (R624), out of a third
failed join (R476), and those of a recovery session (R123). -/
def State.withoutClaim (s : State) (req : SessionReq) : Bool :=
  match req with
  | .view => true
  | .release => s.phase == 6
  | .shutdown _ => s.phase == 6
  | .rejoin => s.role == 4
  | .regWrite p off _ =>
    (s.pwr.power == .hold && p == 0x003 && off == 0x164) || (s.recovery && (pageRight p off == some 2 || pageRight p off == some 4))
  | .restart | .customerCa _ | .opCert _ => s.recovery
  | _ => false

/-- A session's request is carried out: its right allows it, and the module is the holder (R618). DEDUCED: log entry 95. -/
def State.sessionAllowed (s : State) (r : BitVec 5) (req : SessionReq) : Bool :=
  (match sessionRight req with
    | some b => r.getLsbD b
    | none => false) && (s.holder || s.withoutClaim req)

/-- Who makes a session's writes: the runtime, on ECORE0 (R617). DEDUCED: log entry 92. -/
def runtimeWriter : Writer := { master := .core 0, tag := 0 }

/-- What a request does (R129, R133, R249, R304, R306, R440, R468, R476, R617). DEDUCED: log entry 92. -/
def State.sessionDo (s : State) (req : SessionReq) : Res :=
  match req with
  | .view => .next s
  | .loopWord k w v =>
    .next (if s.domState 6 = 2 then (s.landWrite k.val w.toNat v 0 s.loopBoundary !s.twinSync).2 else s)
  | .fix k opt => .next (if s.domState 6 = 2 then s.landFix k.val opt.toNat s.loopBoundary (!s.twinSync) 0 else s)
  | .taskWord w v => .next (s.setTpm w.toNat v)
  | .regWrite p off v => execRegisterWrite runtimeWriter p off v s
  | .staging off bytes =>
    .next (s.setMramBytes (0x2000 + off.toNat) (bytes.take (928 - off.toNat)))
  | .customerCa h => .next { s with sec := { s.sec with caHash := some h } }
  | .opCert h => .next { s with sec := { s.sec with opCert := some h } }
  | .taskRestart t => execTaskRestart t s
  | .rejoin => execRejoin runtimeWriter 0x524A0001 s
  | .switchOver => execSwitchRequest runtimeWriter 0x53570001 s
  | .shutdown force => execShutdown runtimeWriter (if force then 0x53440003 else 0x53440001) s
  | .release => execSlatheRelease s
  | .restart => execSwreq runtimeWriter 0x52530001 s

/-- SESSION_COMMAND: a request outside the session's rights, or on a module that is not the holder, gets a session error and does nothing
(R618). -/
def execSessionCommand (session : Fin 4) (req : SessionReq) (s : State) : Res :=
  match sget (dflt none) s.sec.sessions session.val with
  | some r => if s.sessionAllowed r req && s.reachable then s.sessionDo req else .next s
  | none => .next s

end Sys2Proof.Machine
end

