-- ==== Sys2Proof/Machine/Tap.lean ====
section
/-! DEFINITION. The test access port (R619, R621, R625, R642, R643). -/

namespace Sys2Proof.Machine

/-- The port has power (R625). -/
def State.tapPowered (s : State) : Bool := s.pwr.power == .run || s.pwr.power == .hold

/-- What the instruction register selected captures in its data register, and what drives the pins (R642). -/
def State.tap (s : State) (d : PinDrive) (tdo : BitVec 120) : State :=
  if s.tapPowered then { s with test := { s.test with drive := d, tdo := tdo } } else s

/-- BYPASS, and what acts as it: an unlisted code, and an instruction whose level is not reached (R642). PRESUMED: log entry 96. -/
def State.tapBypass (s : State) : State := s.tap .normal 0

/-- The debug level is FULL (R621). -/
def State.tapFull (s : State) : Bool := s.tapPowered && s.debugLevel == 3

/-! ## The boundary register (R33, R642) -/

/-- The level at pin CTk. -/
def State.ctLevel (s : State) (k : Nat) : Bool := if k < 32 then s.ctIn0.getLsbD k else s.mapBit Reg.SYS_CT_IN0 k

/-- The module drives pin CTk: the open-drain pins where they are low, CLMO while it runs, and the general-purpose pins as their MODE says
(R33, R37, R49). -/
def State.ctDrives (s : State) (k : Nat) : Bool :=
  if k = 3 ∨ k = 11 ∨ k = 12 then !s.ctLevel k
  else if k = 4 then s.carrier.clmo.isSome
  else if 16 ≤ k ∧ k < 40 then
    match s.fld (Reg.SYS_GP_CFG + 4 * (k - 16)) 0 2 with
    | 1 => true
    | 2 => !s.ctLevel k
    | _ => false
  else false

/-- The three cells of pin CTk: output data, output enable, input. The level behind a driver that is off, and the drivers of CID_SCL and
CID_SDA, whose waveforms no register shows, are free. DESIGN CHOICE: log entry 97. -/
def State.ctCells (s : State) (k : Nat) : Nat :=
  let f := s.freeVal.getLsbD k
  let data := if s.ctDrives k then s.ctLevel k else f
  let en := if k = 8 ∨ k = 9 then f else s.ctDrives k
  data.toNat + 2 * en.toNat + 4 * (s.ctLevel k).toNat

/-- The boundary register as it captures the pins (R642). DESIGN CHOICE: log entry 97. -/
def State.boundaryCapture (s : State) : BitVec 120 :=
  BitVec.ofNat 120 ((List.range 40).foldl (fun n k => n + s.ctCells k * 8 ^ k) 0)

/-- A boundary instruction that loads the register. -/
def State.tapBoundary (s : State) (d : PinDrive) (cells : BitVec 120) : State :=
  if s.tapFull then
    let t := s.tap d s.boundaryCapture
    { t.drawn with test := { t.test with boundary := cells } }
  else s.tapBypass

/-- EXTEST (R642). -/
def execExtest (cells : BitVec 120) (s : State) : Res := .next (s.tapBoundary .extest cells)

/-- SAMPLE/PRELOAD (R642). -/
def execSamplePreload (cells : BitVec 120) (s : State) : Res := .next (s.tapBoundary .normal cells)

/-- IDCODE (R642). -/
def execIdcode (s : State) : Res := .next (s.tap .normal 0x2580838F)

/-- CLAMP (R642). -/
def execClamp (s : State) : Res := .next (if s.tapFull then s.tap .clamp 0 else s.tapBypass)

/-- HIGHZ (R642). -/
def execHighz (s : State) : Res := .next (if s.tapFull then s.tap .highz 0 else s.tapBypass)

/-- BYPASS (R642). PRESUMED: log entry 96. -/
def execBypass (s : State) : Res := .next s.tapBypass

/-! ## The debug access port (R619, R621) -/

/-- The level does not allow the access: nothing at NONE; at OBSERVE no write but to the DBG page (R619, R621).
DEDUCED: log entry 98. -/
def State.dapRefused (s : State) (write : Bool) (r : Option Region) (a : W64) : Bool :=
  s.debugLevel == 0
    || (write && s.debugLevel == 1 && !(r == some .page && (a.toNat - 0x10000000) / 4096 == 7))

/-- One 32-bit access as master 0x08: its response and data. DEDUCED: log entry 98. -/
def State.dapAccess (s : State) (write : Bool) (a : W64) (v : W32) : Resp × State × W32 :=
  let r := regionOf a
  if s.dapRefused write r a then (.errPriv, s, 0)
  else match s.place a 4 write with
    | (.okay, some r) =>
      if write then
        let x := s.memWrite { master := .dbg, tag := 0 } r a 4 (v.setWidth 64)
        (x.1, x.2, 0)
      else
        let x := s.memRead .dbg r a 4
        (x.1, x.2.1, x.2.2.data.setWidth 32)
    | (e, _) => (e, s, 0)

/-- The data register of DAPACC as it captures the previous access: data in [35:4], response in [2:0] (R619). -/
def State.dapCapture (s : State) : BitVec 120 :=
  BitVec.ofNat 120 ((s.test.dap.data.toNat % 2 ^ 32) * 16 + s.test.dap.resp.num)

/-- DAPACC (R619). -/
def execDapacc (op : BitVec 2) (addr : W64) (data : W32) (s : State) : Res :=
  .next <|
    let t := s.tap .normal s.dapCapture
    if !s.tapPowered || !s.sysRuns || !(op == 1 || op == 2) then t
    else
      let x := t.dapAccess (op == 2) addr data
      { x.2.1 with test := { x.2.1.test with dap := { resp := x.1, data := x.2.2.setWidth 64 } } }

/-! ## Fuses (R643, R645) -/

/-- FUSEPROG reaches the fuse; what locks it, where something does. -/
def State.fuseLocked (s : State) (i : Nat) : Bool :=
  if i < 0xA0 ∨ (0x100 ≤ i ∧ i < 0x280) then s.sec.prodLock
  else if i < 0xE9 then decide (1 ≤ s.lifecycle)
  else i != 0x280

/-- The fuse is blown: by FUSEPROG, or before. -/
def State.fuseBlown (s : State) (i : Nat) : Bool :=
  s.sec.fuses.contains i ||
    (match fuseBit i with
      | some r => s.flag r.1 r.2
      | none => if i = 0x280 then s.sec.prodLock else (sget (dflt 0) s.sec.keys 0).getLsbD (i - 0x100))

/-- RESULT and VALUE of FUSEREAD. -/
def State.fuseShow (s : State) (r : BitVec 3) (v : Bool) : State := { s with test := { s.test with fuseResult := r, fuseValue := v } }

/-- A fuse operation fails (R645). DESIGN CHOICE: log entry 99. -/
def State.fuseFails (s : State) (i : Nat) (r : BitVec 3) (v : Bool) : State :=
  (s.fuseShow r v).logEvt 0x006 i 0x11 (r.setWidth 64)

/-- A read of a fuse at margin; VALUE of one that fails is open. DESIGN CHOICE: log entry 99. -/
def State.fuseMargin (s : State) (i : Nat) (marginOk : Bool) : State :=
  if marginOk then s.fuseShow 1 (s.fuseBlown i) else (s.fuseFails i 2 (s.freeVal.getLsbD 0)).drawn

/-- What FUSEPROG does in production test mode. -/
def State.fuseOp (s : State) (op i : Nat) (marginOk : Bool) : State :=
  match op with
  | 1 =>
    if s.fuseLocked i then s.fuseFails i 3 s.test.fuseValue
    else if s.fuseBlown i then s.fuseShow 1 true
    else ({ s with test := { s.test with fuseBusy := some i } }).fuseShow 4 s.test.fuseValue
  | 2 =>
    if 0xE9 ≤ i ∧ i < 0x100 ∨ 0x280 < i then s.fuseFails i 3 s.test.fuseValue else s.fuseMargin i marginOk
  | _ => s

/-- FUSEPROG (R643); the data register's own capture is open. -/
def execFuseprog (dr : BitVec 16) (marginOk : Bool) (s : State) : Res :=
  .next <|
    if s.tapFull && s.rst.production then
      let t := (s.tap .normal (s.freeVal.setWidth 16 |>.setWidth 120)).drawn
      if t.test.fuseBusy.isSome then t else t.fuseOp (dr.toNat / 2 ^ 14) (dr.toNat % 2 ^ 14) marginOk
    else s.tapBypass

/-- FUSE_BLOW_COMPLETE: the fuse is read at margin (R643). Whether one that fails there is blown is open. -/
def execFuseBlowComplete (marginOk : Bool) (s : State) : Res :=
  .next <|
    match s.test.fuseBusy with
    | none => s
    | some i =>
      let t := { s with test := { s.test with fuseBusy := none } }
      let blown := { t with sec := { t.sec with fuses := insertNew t.sec.fuses i } }
      if marginOk then (blown.fuseShow 1 true).logEvt 0x006 i 0x10
      else
        let t := if s.freeVal.getLsbD 1 then blown else t
        (t.fuseFails i 2 (s.freeVal.getLsbD 0)).drawn

/-- FUSEREAD (R643): BUSY, VALUE and RESULT. -/
def execFuseread (s : State) : Res :=
  .next <|
    if s.tapFull then
      s.tap .normal (BitVec.ofNat 120 (s.test.fuseBusy.isSome.toNat * 128 + s.test.fuseValue.toNat * 64 + s.test.fuseResult.toNat))
    else s.tapBypass

end Sys2Proof.Machine
end

