-- ==== Sys2Proof/Machine/Dispatch.lean ====
section
/-! DEFINITION. The meaning of every command: one arm per row of spec/opcode_table.json. -/

namespace Sys2Proof.Machine

/-- What a command does to everything but the queue. -/
def exec (i : Instr) (s : State) : Host.Outcome State Fault Refusal :=
  match i with
  | .feedLost feed => Sys2Proof.Machine.execFeedLost feed s
  | .feedRecovered feed => Sys2Proof.Machine.execFeedRecovered feed s
  | .overvoltageDisconnect feed => Sys2Proof.Machine.execOvervoltageDisconnect feed s
  | .overvoltageReconnect feed => Sys2Proof.Machine.execOvervoltageReconnect feed s
  | .feedMonitorChange m new mv => Sys2Proof.Machine.execFeedMonitorChange m new mv s
  | .feedMonfault m => Sys2Proof.Machine.execFeedMonfault m s
  | .holdupBackstop => Sys2Proof.Machine.execHoldupBackstop s
  | .brownoutDeclared => Sys2Proof.Machine.execBrownoutDeclared s
  | .brownoutWithdrawn feed => Sys2Proof.Machine.execBrownoutWithdrawn feed s
  | .bor => Sys2Proof.Machine.execBor s
  | .borRelease feed => Sys2Proof.Machine.execBorRelease feed s
  | .holdupMeasurement time => Sys2Proof.Machine.execHoldupMeasurement time s
  | .fieldSupplyStateChange at_ new => Sys2Proof.Machine.execFieldSupplyStateChange at_ new s
  | .domainOnRequest w page => Sys2Proof.Machine.execDomainOnRequest w page s
  | .domainOffRequest w page => Sys2Proof.Machine.execDomainOffRequest w page s
  | .domainForcedOff w page => Sys2Proof.Machine.execDomainForcedOff w page s
  | .domainOffComplete domain => Sys2Proof.Machine.execDomainOffComplete domain s
  | .domainOnComplete domain => Sys2Proof.Machine.execDomainOnComplete domain s
  | .fieldDomainTimeout domain => Sys2Proof.Machine.execFieldDomainTimeout domain s
  | .budgetWrite w value => Sys2Proof.Machine.execBudgetWrite w value s
  | .clockMonitorWindow edges => Sys2Proof.Machine.execClockMonitorWindow edges s
  | .referenceTimeout => Sys2Proof.Machine.execReferenceTimeout s
  | .pllLockLost => Sys2Proof.Machine.execPllLockLost s
  | .pllLockTimeout => Sys2Proof.Machine.execPllLockTimeout s
  | .pllLocked => Sys2Proof.Machine.execPllLocked s
  | .clkfailRunClear => Sys2Proof.Machine.execClkfailRunClear s
  | .por => Sys2Proof.Machine.execPor s
  | .pinReset low => Sys2Proof.Machine.execPinReset low s
  | .resetRelease pins => Sys2Proof.Machine.execResetRelease pins s
  | .dramInitComplete => Sys2Proof.Machine.execDramInitComplete s
  | .systemWatchdogExpiry => Sys2Proof.Machine.execSystemWatchdogExpiry s
  | .systemWatchdogKick w value inWindow => Sys2Proof.Machine.execSystemWatchdogKick w value inWindow s
  | .wdgCtrlWrite w value => Sys2Proof.Machine.execWdgCtrlWrite w value s
  | .swreq w value => Sys2Proof.Machine.execSwreq w value s
  | .coreResetRequest w core => Sys2Proof.Machine.execCoreResetRequest w core s
  | .coreResetRelease core => Sys2Proof.Machine.execCoreResetRelease core s
  | .blockReset w page => Sys2Proof.Machine.execBlockReset w page s
  | .blockResetComplete page => Sys2Proof.Machine.execBlockResetComplete page s
  | .forcedBlockReset w value => Sys2Proof.Machine.execForcedBlockReset w value s
  | .romScan => Sys2Proof.Machine.execRomScan s
  | .romVerify a b => Sys2Proof.Machine.execRomVerify a b s
  | .runtimeInit image => Sys2Proof.Machine.execRuntimeInit image s
  | .roleDecision => Sys2Proof.Machine.execRoleDecision s
  | .peerWaitExpiry => Sys2Proof.Machine.execPeerWaitExpiry s
  | .mramRestoreComplete => Sys2Proof.Machine.execMramRestoreComplete s
  | .shutdown w value => Sys2Proof.Machine.execShutdown w value s
  | .shutdownTaskAbort task => Sys2Proof.Machine.execShutdownTaskAbort task s
  | .failrunClear => Sys2Proof.Machine.execFailrunClear s
  | .slatheRelease => Sys2Proof.Machine.execSlatheRelease s
  | .cidRecordRead rec => Sys2Proof.Machine.execCidRecordRead rec s
  | .cidTransactionTimeout what => Sys2Proof.Machine.execCidTransactionTimeout what s
  | .carrierTempRead value => Sys2Proof.Machine.execCarrierTempRead value s
  | .cidAlert => Sys2Proof.Machine.execCidAlert s
  | .sideChange side => Sys2Proof.Machine.execSideChange side s
  | .presenceLost => Sys2Proof.Machine.execPresenceLost s
  | .peerSeatedChange seated => Sys2Proof.Machine.execPeerSeatedChange seated s
  | .claimLinePeriod period high => Sys2Proof.Machine.execClaimLinePeriod period high s
  | .claimLineDead => Sys2Proof.Machine.execClaimLineDead s
  | .wakeRequest => Sys2Proof.Machine.execWakeRequest s
  | .gpInputChange pin level => Sys2Proof.Machine.execGpInputChange pin level s
  | .lockArm w page => Sys2Proof.Machine.execLockArm w page s
  | .lockUnlock w page value => Sys2Proof.Machine.execLockUnlock w page value s
  | .lockRelock w page value => Sys2Proof.Machine.execLockRelock w page value s
  | .lockArmTimeout page => Sys2Proof.Machine.execLockArmTimeout page s
  | .registerWrite w page off value => Sys2Proof.Machine.execRegisterWrite w page off value s
  | .faultCauseClear w page value => Sys2Proof.Machine.execFaultCauseClear w page value s
  | .blockEnable w page value => Sys2Proof.Machine.execBlockEnable w page value s
  | .freezeWrite w page value => Sys2Proof.Machine.execFreezeWrite w page value s
  | .loggerRecordWrite => Sys2Proof.Machine.execLoggerRecordWrite s
  | .eventPost w code => Sys2Proof.Machine.execEventPost w code s
  | .lfiLoRead m => Sys2Proof.Machine.execLfiLoRead m s
  | .add c rd ra rb => Sys2Proof.Machine.execAdd c rd ra rb s
  | .sub c rd ra rb => Sys2Proof.Machine.execSub c rd ra rb s
  | .adds c rd ra rb => Sys2Proof.Machine.execAdds c rd ra rb s
  | .subs c rd ra rb => Sys2Proof.Machine.execSubs c rd ra rb s
  | .mul c rd ra rb => Sys2Proof.Machine.execMul c rd ra rb s
  | .mulh c rd ra rb => Sys2Proof.Machine.execMulh c rd ra rb s
  | .mulhu c rd ra rb => Sys2Proof.Machine.execMulhu c rd ra rb s
  | .div c rd ra rb => Sys2Proof.Machine.execDiv c rd ra rb s
  | .divu c rd ra rb => Sys2Proof.Machine.execDivu c rd ra rb s
  | .rem c rd ra rb => Sys2Proof.Machine.execRem c rd ra rb s
  | .remu c rd ra rb => Sys2Proof.Machine.execRemu c rd ra rb s
  | .addi c rd ra imm => Sys2Proof.Machine.execAddi c rd ra imm s
  | .and c rd ra rb => Sys2Proof.Machine.execAnd c rd ra rb s
  | .or c rd ra rb => Sys2Proof.Machine.execOr c rd ra rb s
  | .xor c rd ra rb => Sys2Proof.Machine.execXor c rd ra rb s
  | .sll c rd ra count => Sys2Proof.Machine.execSll c rd ra count s
  | .srl c rd ra count => Sys2Proof.Machine.execSrl c rd ra count s
  | .sra c rd ra count => Sys2Proof.Machine.execSra c rd ra count s
  | .andi c rd ra imm => Sys2Proof.Machine.execAndi c rd ra imm s
  | .ori c rd ra imm => Sys2Proof.Machine.execOri c rd ra imm s
  | .xori c rd ra imm => Sys2Proof.Machine.execXori c rd ra imm s
  | .seth c rd imm k z => Sys2Proof.Machine.execSeth c rd imm k z s
  | .fadd c rd ra rb rm p => Sys2Proof.Machine.execFadd c rd ra rb rm p s
  | .fsub c rd ra rb rm p => Sys2Proof.Machine.execFsub c rd ra rb rm p s
  | .fmul c rd ra rb rm p => Sys2Proof.Machine.execFmul c rd ra rb rm p s
  | .fdiv c rd ra rb rm p => Sys2Proof.Machine.execFdiv c rd ra rb rm p s
  | .fmac c rd ra rb rm p => Sys2Proof.Machine.execFmac c rd ra rb rm p s
  | .fsqrt c rd ra rm p => Sys2Proof.Machine.execFsqrt c rd ra rm p s
  | .fmin c rd ra rb p => Sys2Proof.Machine.execFmin c rd ra rb p s
  | .fmax c rd ra rb p => Sys2Proof.Machine.execFmax c rd ra rb p s
  | .fsgn c rd ra op p => Sys2Proof.Machine.execFsgn c rd ra op p s
  | .fcvt c rd ra rm p => Sys2Proof.Machine.execFcvt c rd ra rm p s
  | .f2i c rd ra rm p uns => Sys2Proof.Machine.execF2i c rd ra rm p uns s
  | .i2f c rd ra rm p uns => Sys2Proof.Machine.execI2f c rd ra rm p uns s
  | .cmpeq c rd ra rb => Sys2Proof.Machine.execCmpeq c rd ra rb s
  | .cmplt c rd ra rb => Sys2Proof.Machine.execCmplt c rd ra rb s
  | .cmpltu c rd ra rb => Sys2Proof.Machine.execCmpltu c rd ra rb s
  | .fcmp c rd ra rb cond p => Sys2Proof.Machine.execFcmp c rd ra rb cond p s
  | .sel c rd ra rb => Sys2Proof.Machine.execSel c rd ra rb s
  | .cmpi c rd ra cond imm => Sys2Proof.Machine.execCmpi c rd ra cond imm s
  | .br c disp lnk => Sys2Proof.Machine.execBr c disp lnk s
  | .bz c ra disp => Sys2Proof.Machine.execBz c ra disp s
  | .bnz c ra disp => Sys2Proof.Machine.execBnz c ra disp s
  | .jr c rd ra => Sys2Proof.Machine.execJr c rd ra s
  | .fcall c ri disp => Sys2Proof.Machine.execFcall c ri disp s
  | .fcallr c ra rb => Sys2Proof.Machine.execFcallr c ra rb s
  | .fret c => Sys2Proof.Machine.execFret c s
  | .eret c keepIE => Sys2Proof.Machine.execEret c keepIE s
  | .ld c rd rb at_ => Sys2Proof.Machine.execLd c rd rb at_ s
  | .lw c rd rb at_ => Sys2Proof.Machine.execLw c rd rb at_ s
  | .lwu c rd rb at_ => Sys2Proof.Machine.execLwu c rd rb at_ s
  | .lbu c rd rb at_ => Sys2Proof.Machine.execLbu c rd rb at_ s
  | .st c rd rb disp => Sys2Proof.Machine.execSt c rd rb disp s
  | .sw c rd rb disp => Sys2Proof.Machine.execSw c rd rb disp s
  | .sb c rd rb disp => Sys2Proof.Machine.execSb c rd rb disp s
  | .cas c rd ra rb => Sys2Proof.Machine.execCas c rd ra rb s
  | .gtag c rd ra => Sys2Proof.Machine.execGtag c rd ra s
  | .stag c rd ra rb => Sys2Proof.Machine.execStag c rd ra rb s
  | .tmrg c rd ra rb => Sys2Proof.Machine.execTmrg c rd ra rb s
  | .tsub c rd ra rb thr qs => Sys2Proof.Machine.execTsub c rd ra rb thr qs s
  | .stagi c rd ra tag => Sys2Proof.Machine.execStagi c rd ra tag s
  | .ttst c rd ra test => Sys2Proof.Machine.execTtst c rd ra test s
  | .tim c rd ra n v => Sys2Proof.Machine.execTim c rd ra n v s
  | .edg c rd ra n v => Sys2Proof.Machine.execEdg c rd ra n v s
  | .cnt c rd ra n v => Sys2Proof.Machine.execCnt c rd ra n v s
  | .hys c rd ra n inv => Sys2Proof.Machine.execHys c rd ra n inv s
  | .lim c rd ra n int => Sys2Proof.Machine.execLim c rd ra n int s
  | .rmp c rd ra n => Sys2Proof.Machine.execRmp c rd ra n s
  | .lxw c rd rb disp => Sys2Proof.Machine.execLxw c rd rb disp s
  | .lxr c rd rb disp => Sys2Proof.Machine.execLxr c rd rb disp s
  | .lxf c opt rb disp => Sys2Proof.Machine.execLxf c opt rb disp s
  | .svc c code => Sys2Proof.Machine.execSvc c code s
  | .interruptEntry c => Sys2Proof.Machine.execInterruptEntry c s
  | .taskBudgetExpiry c => Sys2Proof.Machine.execTaskBudgetExpiry c s
  | .coreWatchdogFirstExpiry c => Sys2Proof.Machine.execCoreWatchdogFirstExpiry c s
  | .coreWatchdogReset c => Sys2Proof.Machine.execCoreWatchdogReset c s
  | .coreWatchdogKick w c value => Sys2Proof.Machine.execCoreWatchdogKick w c value s
  | .cwdgCtrlWrite w c value => Sys2Proof.Machine.execCwdgCtrlWrite w c value s
  | .icacheInvalidate w c value => Sys2Proof.Machine.execIcacheInvalidate w c value s
  | .excActiveClear w c value => Sys2Proof.Machine.execExcActiveClear w c value s
  | .lxCommandAccept c => Sys2Proof.Machine.execLxCommandAccept c s
  | .tpmScrub word found => Sys2Proof.Machine.execTpmScrub word found s
  | .pmcScrub unit found => Sys2Proof.Machine.execPmcScrub unit found s
  | .tpmTagWrite w value => Sys2Proof.Machine.execTpmTagWrite w value s
  | .loopFrameBoundary die => Sys2Proof.Machine.execLoopFrameBoundary die s
  | .taskCycleStart task => Sys2Proof.Machine.execTaskCycleStart task s
  | .taskCommit task => Sys2Proof.Machine.execTaskCommit task s
  | .trigger c => Sys2Proof.Machine.execTrigger c s
  | .backgroundSlice c => Sys2Proof.Machine.execBackgroundSlice c s
  | .retainRecordWrite => Sys2Proof.Machine.execRetainRecordWrite s
  | .taskRestart task => Sys2Proof.Machine.execTaskRestart task s
  | .loopEngineStop w value => Sys2Proof.Machine.execLoopEngineStop w value s
  | .ldPeakClear w value => Sys2Proof.Machine.execLdPeakClear w value s
  | .fixKeep loop => Sys2Proof.Machine.execFixKeep loop s
  | .fixRescale loop => Sys2Proof.Machine.execFixRescale loop s
  | .fixCheck loop => Sys2Proof.Machine.execFixCheck loop s
  | .fixCancel loop => Sys2Proof.Machine.execFixCancel loop s
  | .bracketAnalysis loop => Sys2Proof.Machine.execBracketAnalysis loop s
  | .captureArm w session nsig => Sys2Proof.Machine.execCaptureArm w session nsig s
  | .captureStop w session nsig => Sys2Proof.Machine.execCaptureStop w session nsig s
  | .captureSoftwareTrigger w session nsig => Sys2Proof.Machine.execCaptureSoftwareTrigger w session nsig s
  | .captureRecord => Sys2Proof.Machine.execCaptureRecord s
  | .inputFilterAccept dch samples => Sys2Proof.Machine.execInputFilterAccept dch samples s
  | .outputShortCutoff dch => Sys2Proof.Machine.execOutputShortCutoff dch s
  | .outputOverload dch => Sys2Proof.Machine.execOutputOverload dch s
  | .outputShed group => Sys2Proof.Machine.execOutputShed group s
  | .outputRetry dch => Sys2Proof.Machine.execOutputRetry dch s
  | .readbackDisagree dch differs => Sys2Proof.Machine.execReadbackDisagree dch differs s
  | .fieldPeriodStart => Sys2Proof.Machine.execFieldPeriodStart s
  | .fgcBurstReceive group slot rx => Sys2Proof.Machine.execFgcBurstReceive group slot rx s
  | .fgcPeriodEnd group => Sys2Proof.Machine.execFgcPeriodEnd group s
  | .safeStateTimeout group => Sys2Proof.Machine.execSafeStateTimeout group s
  | .groupRelease group => Sys2Proof.Machine.execGroupRelease group s
  | .fgcReport group offset counted => Sys2Proof.Machine.execFgcReport group offset counted s
  | .reportReceive group rx => Sys2Proof.Machine.execReportReceive group rx s
  | .reportTimeout group => Sys2Proof.Machine.execReportTimeout group s
  | .loopbackEnd group => Sys2Proof.Machine.execLoopbackEnd group s
  | .outClearWrite w page value => Sys2Proof.Machine.execOutClearWrite w page value s
  | .fgcPowerOnReset group tied => Sys2Proof.Machine.execFgcPowerOnReset group tied s
  | .conversion group chan result => Sys2Proof.Machine.execConversion group chan result s
  | .spareVisitStart group refBad => Sys2Proof.Machine.execSpareVisitStart group refBad s
  | .spareVisitEnd group d => Sys2Proof.Machine.execSpareVisitEnd group d s
  | .outputOpen ach => Sys2Proof.Machine.execOutputOpen ach s
  | .outputDisagree ach differs => Sys2Proof.Machine.execOutputDisagree ach differs s
  | .valueBurstReceive group rx => Sys2Proof.Machine.execValueBurstReceive group rx s
  | .counterInputError cch phase => Sys2Proof.Machine.execCounterInputError cch phase s
  | .counterInputFault cch input present => Sys2Proof.Machine.execCounterInputFault cch input present s
  | .indexEvent cch samples => Sys2Proof.Machine.execIndexEvent cch samples s
  | .ssiRead cch dataHigh => Sys2Proof.Machine.execSsiRead cch dataHigh s
  | .ssiReadEnd cch frame => Sys2Proof.Machine.execSsiReadEnd cch frame s
  | .counterLatch group counted => Sys2Proof.Machine.execCounterLatch group counted s
  | .counterClear w page value => Sys2Proof.Machine.execCounterClear w page value s
  | .homeArm w page value => Sys2Proof.Machine.execHomeArm w page value s
  | .positionSet w page chan value => Sys2Proof.Machine.execPositionSet w page chan value s
  | .shutterCapture chan rising => Sys2Proof.Machine.execShutterCapture chan rising s
  | .shutterPop w value => Sys2Proof.Machine.execShutterPop w value s
  | .snapshotArm w value => Sys2Proof.Machine.execSnapshotArm w value s
  | .snapshotCancel w value => Sys2Proof.Machine.execSnapshotCancel w value s
  | .snapshotComplete slot => Sys2Proof.Machine.execSnapshotComplete slot s
  | .snapshotLatchTimeout slot => Sys2Proof.Machine.execSnapshotLatchTimeout slot s
  | .laneCycle lane raw rbIn rbMid rbOut => Sys2Proof.Machine.execLaneCycle lane raw rbIn rbMid rbOut s
  | .crosslinkFrame lane good period => Sys2Proof.Machine.execCrosslinkFrame lane good period s
  | .crosslinkTimeout lane => Sys2Proof.Machine.execCrosslinkTimeout lane s
  | .safetyInputFilter lane input samples => Sys2Proof.Machine.execSafetyInputFilter lane input samples s
  | .pairDiscrepancy lane pair => Sys2Proof.Machine.execPairDiscrepancy lane pair s
  | .couplerTest lane input passed => Sys2Proof.Machine.execCouplerTest lane input passed s
  | .sfsStateChange lane new => Sys2Proof.Machine.execSfsStateChange lane new s
  | .outputHeartbeatMissing lane output => Sys2Proof.Machine.execOutputHeartbeatMissing lane output s
  | .readbackFailure lane output => Sys2Proof.Machine.execReadbackFailure lane output s
  | .outputFault lane output => Sys2Proof.Machine.execOutputFault lane output s
  | .switchTest lane output passed => Sys2Proof.Machine.execSwitchTest lane output passed s
  | .tableCrcCheck lane readBack => Sys2Proof.Machine.execTableCrcCheck lane readBack s
  | .laneWatchdog lane => Sys2Proof.Machine.execLaneWatchdog lane s
  | .lockoutRecordWrite lane => Sys2Proof.Machine.execLockoutRecordWrite lane s
  | .resetPress durX durY split => Sys2Proof.Machine.execResetPress durX durY split s
  | .laneSelfTest failX failY => Sys2Proof.Machine.execLaneSelfTest failX failY s
  | .configEntry => Sys2Proof.Machine.execConfigEntry s
  | .stagingRead lane => Sys2Proof.Machine.execStagingRead lane s
  | .matrixStore okX okY => Sys2Proof.Machine.execMatrixStore okX okY s
  | .configAbandon => Sys2Proof.Machine.execConfigAbandon s
  | .laneStart lane fail bridgeClosed => Sys2Proof.Machine.execLaneStart lane fail bridgeClosed s
  | .takeupBypassAssert => Sys2Proof.Machine.execTakeupBypassAssert s
  | .takeupComplete => Sys2Proof.Machine.execTakeupComplete s
  | .laneStop lane => Sys2Proof.Machine.execLaneStop lane s
  | .mirrorUpdate lane => Sys2Proof.Machine.execMirrorUpdate lane s
  | .mirrorStale lane => Sys2Proof.Machine.execMirrorStale lane s
  | .heartbeatSend => Sys2Proof.Machine.execHeartbeatSend s
  | .twinHeartbeat lane hb => Sys2Proof.Machine.execTwinHeartbeat lane hb s
  | .twinLaneDown lane => Sys2Proof.Machine.execTwinLaneDown lane s
  | .twinLaneUp lane rtt => Sys2Proof.Machine.execTwinLaneUp lane rtt s
  | .peerLost => Sys2Proof.Machine.execPeerLost s
  | .claimLineVerdict => Sys2Proof.Machine.execClaimLineVerdict s
  | .offLineWaitExit => Sys2Proof.Machine.execOffLineWaitExit s
  | .relayCellReceive next bursts => Sys2Proof.Machine.execRelayCellReceive next bursts s
  | .mirrorCellReceive m => Sys2Proof.Machine.execMirrorCellReceive m s
  | .controlCellReceive m => Sys2Proof.Machine.execControlCellReceive m s
  | .networkReceipt r => Sys2Proof.Machine.execNetworkReceipt r s
  | .bulkCellReceive m => Sys2Proof.Machine.execBulkCellReceive m s
  | .switchRequest w value => Sys2Proof.Machine.execSwitchRequest w value s
  | .autoSwitchover => Sys2Proof.Machine.execAutoSwitchover s
  | .switchoverEffect => Sys2Proof.Machine.execSwitchoverEffect s
  | .withdrawal => Sys2Proof.Machine.execWithdrawal s
  | .groupReturn group => Sys2Proof.Machine.execGroupReturn group s
  | .reintegrationCheck sameOrder digest peerMatrix => Sys2Proof.Machine.execReintegrationCheck sameOrder digest peerMatrix s
  | .reintegrationAlign => Sys2Proof.Machine.execReintegrationAlign s
  | .bulkPass dirty => Sys2Proof.Machine.execBulkPass dirty s
  | .delta g => Sys2Proof.Machine.execDelta g s
  | .catchUp => Sys2Proof.Machine.execCatchUp s
  | .taskJoin task cycle prevTT => Sys2Proof.Machine.execTaskJoin task cycle prevTT s
  | .joinProof => Sys2Proof.Machine.execJoinProof s
  | .joinFail => Sys2Proof.Machine.execJoinFail s
  | .rejoin w value => Sys2Proof.Machine.execRejoin w value s
  | .coreSelfTestSlice core last ok => Sys2Proof.Machine.execCoreSelfTestSlice core last ok s
  | .goldenVectorSet wrong => Sys2Proof.Machine.execGoldenVectorSet wrong s
  | .mramScan => Sys2Proof.Machine.execMramScan s
  | .norImageCheck same => Sys2Proof.Machine.execNorImageCheck same s
  | .pulseTestEnd group outcome => Sys2Proof.Machine.execPulseTestEnd group outcome s
  | .healthReportPublish => Sys2Proof.Machine.execHealthReportPublish s
  | .proofReqCoreTest w side target => Sys2Proof.Machine.execProofReqCoreTest w side target s
  | .proofReqGoldenVectors w side target => Sys2Proof.Machine.execProofReqGoldenVectors w side target s
  | .proofReqSpareVisit w side target => Sys2Proof.Machine.execProofReqSpareVisit w side target s
  | .proofReqPulseTest w side target => Sys2Proof.Machine.execProofReqPulseTest w side target s
  | .proofReqCalibration w side target => Sys2Proof.Machine.execProofReqCalibration w side target s
  | .proofReqLinkTest w side target => Sys2Proof.Machine.execProofReqLinkTest w side target s
  | .proofReqHoldup w side target => Sys2Proof.Machine.execProofReqHoldup w side target s
  | .proofReqClearPulse w side target => Sys2Proof.Machine.execProofReqClearPulse w side target s
  | .proofRequestRun found => Sys2Proof.Machine.execProofRequestRun found s
  | .canEnable w ctrl value => Sys2Proof.Machine.execCanEnable w ctrl value s
  | .canFrameReceive ctrl frame stamps => Sys2Proof.Machine.execCanFrameReceive ctrl frame stamps s
  | .canFramePost ctrl => Sys2Proof.Machine.execCanFramePost ctrl s
  | .canStagingDiscard ctrl => Sys2Proof.Machine.execCanStagingDiscard ctrl s
  | .canPost ctrl obj => Sys2Proof.Machine.execCanPost ctrl obj s
  | .canAbort ctrl obj => Sys2Proof.Machine.execCanAbort ctrl obj s
  | .canRelease ctrl obj => Sys2Proof.Machine.execCanRelease ctrl obj s
  | .canObjectDisable ctrl obj => Sys2Proof.Machine.execCanObjectDisable ctrl obj s
  | .canTransmitStart ctrl => Sys2Proof.Machine.execCanTransmitStart ctrl s
  | .canTransmitComplete ctrl stamps delay => Sys2Proof.Machine.execCanTransmitComplete ctrl stamps delay s
  | .canErrorFrame ctrl error sending worse => Sys2Proof.Machine.execCanErrorFrame ctrl error sending worse s
  | .canBusOff ctrl => Sys2Proof.Machine.execCanBusOff ctrl s
  | .canBusOffRecovery ctrl => Sys2Proof.Machine.execCanBusOffRecovery ctrl s
  | .canBusStuck ctrl => Sys2Proof.Machine.execCanBusStuck ctrl s
  | .canTransmitDominantTimeout ctrl => Sys2Proof.Machine.execCanTransmitDominantTimeout ctrl s
  | .canReceiveTimeout ctrl obj => Sys2Proof.Machine.execCanReceiveTimeout ctrl obj s
  | .ethLinkChange sw port speed => Sys2Proof.Machine.execEthLinkChange sw port speed s
  | .ethFrameReceive sw port bytes fcsOk qfull residence stamps => Sys2Proof.Machine.execEthFrameReceive sw port bytes fcsOk qfull residence stamps s
  | .ethReceiveRelease sw => Sys2Proof.Machine.execEthReceiveRelease sw s
  | .ethStagingDiscard sw => Sys2Proof.Machine.execEthStagingDiscard sw s
  | .macAgeOut sw address => Sys2Proof.Machine.execMacAgeOut sw address s
  | .ddEntryAge pair => Sys2Proof.Machine.execDdEntryAge pair s
  | .ringTailWrite w sw ring value => Sys2Proof.Machine.execRingTailWrite w sw ring value s
  | .ethTransmitComplete sw ring stamps => Sys2Proof.Machine.execEthTransmitComplete sw ring stamps s
  | .dcIncWrite w n value => Sys2Proof.Machine.execDcIncWrite w n value s
  | .dcSlew w n value => Sys2Proof.Machine.execDcSlew w n value s
  | .dcSet w n value => Sys2Proof.Machine.execDcSet w n value s
  | .dcKick w value => Sys2Proof.Machine.execDcKick w value s
  | .servoWatchdogExpiry n => Sys2Proof.Machine.execServoWatchdogExpiry n s
  | .otsSourceSwitch w value => Sys2Proof.Machine.execOtsSourceSwitch w value s
  | .otsStep => Sys2Proof.Machine.execOtsStep s
  | .otsAbsorbComplete => Sys2Proof.Machine.execOtsAbsorbComplete s
  | .domCfgWrite w n value => Sys2Proof.Machine.execDomCfgWrite w n value s
  | .tsfPop w n value => Sys2Proof.Machine.execTsfPop w n value s
  | .pdelayReqSend port => Sys2Proof.Machine.execPdelayReqSend port s
  | .timeServiceSync n offset rate => Sys2Proof.Machine.execTimeServiceSync n offset rate s
  | .announceTimeout n => Sys2Proof.Machine.execAnnounceTimeout n s
  | .tpoPulse => Sys2Proof.Machine.execTpoPulse s
  | .tpoPulseEnd => Sys2Proof.Machine.execTpoPulseEnd s
  | .tpiCapture edge => Sys2Proof.Machine.execTpiCapture edge s
  | .tpiLost => Sys2Proof.Machine.execTpiLost s
  | .tpiPop w value => Sys2Proof.Machine.execTpiPop w value s
  | .timeLoRead m which => Sys2Proof.Machine.execTimeLoRead m which s
  | .oscillatorStopped => Sys2Proof.Machine.execOscillatorStopped s
  | .rtcFreqWindow ppm => Sys2Proof.Machine.execRtcFreqWindow ppm s
  | .cellMeasurement mv => Sys2Proof.Machine.execCellMeasurement mv s
  | .cellMonfault => Sys2Proof.Machine.execCellMonfault s
  | .rtcTime0Read m => Sys2Proof.Machine.execRtcTime0Read m s
  | .rtcShadowExpiry m => Sys2Proof.Machine.execRtcShadowExpiry m s
  | .rtcSet w value => Sys2Proof.Machine.execRtcSet w value s
  | .rtcSetFromOts utcOffset => Sys2Proof.Machine.execRtcSetFromOts utcOffset s
  | .backupRecordClear w value => Sys2Proof.Machine.execBackupRecordClear w value s
  | .aonBackupSwitch => Sys2Proof.Machine.execAonBackupSwitch s
  | .aonBackupExhausted => Sys2Proof.Machine.execAonBackupExhausted s
  | .aonPowerOn => Sys2Proof.Machine.execAonPowerOn s
  | .logicSupplyReturn => Sys2Proof.Machine.execLogicSupplyReturn s
  | .panelStart w => Sys2Proof.Machine.execPanelStart w s
  | .panelRailReady => Sys2Proof.Machine.execPanelRailReady s
  | .panelRailFault => Sys2Proof.Machine.execPanelRailFault s
  | .panelOn => Sys2Proof.Machine.execPanelOn s
  | .panelStop w => Sys2Proof.Machine.execPanelStop w s
  | .panelFlip w value => Sys2Proof.Machine.execPanelFlip w value s
  | .flipEffect => Sys2Proof.Machine.execFlipEffect s
  | .crackTest ohm => Sys2Proof.Machine.execCrackTest ohm s
  | .lampTest w value => Sys2Proof.Machine.execLampTest w value s
  | .lampTestEnd => Sys2Proof.Machine.execLampTestEnd s
  | .patternStep an => Sys2Proof.Machine.execPatternStep an s
  | .bridgeTemperature an temp => Sys2Proof.Machine.execBridgeTemperature an temp s
  | .lineProbe an mohm => Sys2Proof.Machine.execLineProbe an mohm s
  | .overcurrentTrip an => Sys2Proof.Machine.execOvercurrentTrip an s
  | .annunciatorRestart an => Sys2Proof.Machine.execAnnunciatorRestart an s
  | .tripCountClear an => Sys2Proof.Machine.execTripCountClear an s
  | .challengeRead m => Sys2Proof.Machine.execChallengeRead m s
  | .auth w value => Sys2Proof.Machine.execAuth w value s
  | .authResult sigOk => Sys2Proof.Machine.execAuthResult sigOk s
  | .debugLevelRequest w value => Sys2Proof.Machine.execDebugLevelRequest w value s
  | .debugLevelExpiry => Sys2Proof.Machine.execDebugLevelExpiry s
  | .debugDrop w value => Sys2Proof.Machine.execDebugDrop w value s
  | .dbgreq w value => Sys2Proof.Machine.execDbgreq w value s
  | .coreHalt w value => Sys2Proof.Machine.execCoreHalt w value s
  | .coreStep w value => Sys2Proof.Machine.execCoreStep w value s
  | .breakpointHit bp => Sys2Proof.Machine.execBreakpointHit bp s
  | .debugCoverOpen => Sys2Proof.Machine.execDebugCoverOpen s
  | .lifecycleAdvance w value => Sys2Proof.Machine.execLifecycleAdvance w value s
  | .returnedWipe => Sys2Proof.Machine.execReturnedWipe s
  | .keySlotProgram w value => Sys2Proof.Machine.execKeySlotProgram w value s
  | .keySlotRevoke w value => Sys2Proof.Machine.execKeySlotRevoke w value s
  | .rollbackCommit w value => Sys2Proof.Machine.execRollbackCommit w value s
  | .sessionOpen cert => Sys2Proof.Machine.execSessionOpen cert s
  | .sessionCommand session req => Sys2Proof.Machine.execSessionCommand session req s
  | .sessionIdleTimeout session => Sys2Proof.Machine.execSessionIdleTimeout session s
  | .norErase w value => Sys2Proof.Machine.execNorErase w value s
  | .norEraseComplete bankB => Sys2Proof.Machine.execNorEraseComplete bankB s
  | .norProgram w value marginOk => Sys2Proof.Machine.execNorProgram w value marginOk s
  | .norProgramComplete => Sys2Proof.Machine.execNorProgramComplete s
  | .psreqRun w key => Sys2Proof.Machine.execPsreqRun w key s
  | .psreqHold w key => Sys2Proof.Machine.execPsreqHold w key s
  | .psreqSave w key => Sys2Proof.Machine.execPsreqSave w key s
  | .testSessionStart w session => Sys2Proof.Machine.execTestSessionStart w session s
  | .testSessionStop w session bits errors => Sys2Proof.Machine.execTestSessionStop w session bits errors s
  | .testSessionDone session => Sys2Proof.Machine.execTestSessionDone session s
  | .testSecond target bits errors => Sys2Proof.Machine.execTestSecond target bits errors s
  | .extest cells => Sys2Proof.Machine.execExtest cells s
  | .samplePreload cells => Sys2Proof.Machine.execSamplePreload cells s
  | .idcode => Sys2Proof.Machine.execIdcode s
  | .clamp => Sys2Proof.Machine.execClamp s
  | .highz => Sys2Proof.Machine.execHighz s
  | .dapacc op addr data => Sys2Proof.Machine.execDapacc op addr data s
  | .fuseprog dr marginOk => Sys2Proof.Machine.execFuseprog dr marginOk s
  | .fuseBlowComplete marginOk => Sys2Proof.Machine.execFuseBlowComplete marginOk s
  | .fuseread => Sys2Proof.Machine.execFuseread s
  | .bypass => Sys2Proof.Machine.execBypass s
  | .unassignedEncoding c word => Sys2Proof.Machine.execUnassignedEncoding c word s
  | .fgcHeldInReset group => Sys2Proof.Machine.execFgcHeldInReset group s
  | .fieldDomainStagesReady group => Sys2Proof.Machine.execFieldDomainStagesReady group s
  | .displayFrameBoundary => Sys2Proof.Machine.execDisplayFrameBoundary s
  | .panelStopComplete => Sys2Proof.Machine.execPanelStopComplete s
  | .supercapacitorFull => Sys2Proof.Machine.execSupercapacitorFull s
  | .twinCellDiscarded lane fault mirrorOrControl => Sys2Proof.Machine.execTwinCellDiscarded lane fault mirrorOrControl s
  | .blockLockChange lane locked => Sys2Proof.Machine.execBlockLockChange lane locked s
  | .checkerSyncChange target sync => Sys2Proof.Machine.execCheckerSyncChange target sync s
  | .canBusIntegrated ctrl => Sys2Proof.Machine.execCanBusIntegrated ctrl s

end Sys2Proof.Machine
end

