-- ==== Sys2Proof/Machine/Tick.lean ====
section
/-! DEFINITION. What 8 ns of time do where no command waits: one tick of CLK_NET, which the table has no row for (log entry 2). -/

namespace Sys2Proof.Machine

/-- A unit of a countdown passes: the count runs down to `least`; what its end does is a command of its own. -/
def State.countDown (s : State) (k lo w least : Nat) : State :=
  let n := s.fld k lo w
  if least < n then s.setFld k lo w (n - 1) else s

/-- A microsecond for core `c`: its watchdog and its task budget (R182, R183). -/
def State.coreMicrosecond (s : State) (c : Nat) : State :=
  if s.coreRuns c then
    let s := if s.flag (coreKey c 0x130) 16 then s.countDown (coreKey c 0x138) 16 16 0 else s
    s.countDown (coreKey c 0x140) 0 32 1
  else s

/-- A millisecond for the system watchdog, which pauses while a debugger halts a core (R104). -/
def State.watchdogMillisecond (s : State) : State :=
  if s.watchdogOn && s.fld Reg.DBG_RUNCTL 0 4 == 0 then
    ({ s.countDown Reg.RST_WDG_STAT 16 16 0 with rst := { s.rst with sinceKick := s.rst.sinceKick + 1 } }).irqUpdate 0x002
  else s

/-- The counters of the logic side (R104, R182, R183, R255, R547, R548). -/
def State.logicTick (s : State) : State :=
  let s := s.tickTime
  let s := s.setFld Reg.SYS_LFI_CYC 0 14 (min 15624 (s.fld Reg.SYS_LFI_CYC 0 14 + 2))
  let s := if s.time.ltb.toNat % 125 = 0 then [0, 1, 2, 3].foldl State.coreMicrosecond s else s
  if s.time.ltb.toNat % 125000 = 0 then s.watchdogMillisecond else s

/-- A crystal cycle in the units of `aon.frac` (R569). -/
def crystalCycle : Nat := 125000000 * 2 ^ 20

/-- 8 ns of the crystal, trimmed by TRIM × 2^−20 (R569). -/
def State.crystalTick (s : State) : State :=
  let trim : Int := (BitVec.ofNat 8 (s.fld Reg.RTC_CAL 0 8)).toInt
  let n := s.aon.frac + 32768 * ((2 ^ 20 + trim).toNat)
  let s := { s with aon := { s.aon with frac := n % crystalCycle } }
  if crystalCycle ≤ n then s.rtcCycle else s

/-- One tick of time. DESIGN CHOICE: log entry 2. -/
def State.tick (s : State) : State :=
  let s := if s.aon.stopped then s else s.crystalTick
  if s.sysRuns then s.logicTick else s

end Sys2Proof.Machine
end

