-- ==== Sys2Proof/WellFormed.lean ====
section
/-! DEFINITION. Well-formed commands: what the type of an operand does not say and the spec does. The meanings are total, and
give an ill-formed command a state too; the statements do not ask for well-formedness unless they say so. -/

namespace Sys2Proof

/-- A page index of the register space (R140). -/
def pageOk (p : Nat) : Bool := decide (p < 0x400)

/-- An offset of a register within its page: a multiple of 4 below 0x1000 (R140, R144). -/
def offsetOk (o : Nat) : Bool := decide (o < 0x1000) && o % 4 == 0

/-- The page of a field group: 0x080 to 0x0B8 (R143). -/
def groupPage (p : Nat) : Bool := decide (0x080 ≤ p ∧ p ≤ 0x0B8)

/-- The page of a counter group: 0x0B4 to 0x0B7 (R143). -/
def counterPage (p : Nat) : Bool := decide (0x0B4 ≤ p ∧ p ≤ 0x0B7)

/-- A counter group, by group slot. -/
def counterGroup (k : Nat) : Bool := decide (52 ≤ k ∧ k < 56)

/-- A group whose channels have converters: analogue or temperature, by group slot (R359, R379). -/
def converterGroup (k : Nat) : Bool := decide (32 ≤ k ∧ k < 52)

/-- The groups that AFS-1, AFS-2 and their OR supply (R72): analogue groups, temperature groups and counter groups. -/
def supplyPointOk : SupplyPoint → Bool
  | .afs1 g => decide (32 ≤ g ∧ g < 57)
  | .afs2 g => decide (32 ≤ g ∧ g < 57)
  | .afsOr g => decide (32 ≤ g ∧ g < 57)
  | .dg _ => true
  | .ans => true
  | .sfs _ => true

/-- Counted channels in rising order, each once. -/
def risingChans : List Counted → Bool
  | [] => true
  | [_] => true
  | a :: b :: l => decide (a.chan < b.chan) && risingChans (b :: l)

/-- An image names tasks 0 to 31, at most once each, in rising order (R227). -/
def risingTasks : List (Nat × TaskDesc) → Bool
  | [] => true
  | [a] => decide (a.1 < 32)
  | a :: b :: l => decide (a.1 < b.1) && risingTasks (b :: l)

/-- An image (R121, R227): its tasks, and its domains among PD00 to PD79. -/
def imageOk (i : ImageDesc) : Bool := risingTasks i.tasks && i.domains.all fun d => decide (d < 80)

/-- The number of data bytes that a DLC stands for (R508). -/
def dlcLength (fdf : Bool) (dlc : BitVec 4) : Nat :=
  match fdf, dlc.toNat with
  | false, n => min n 8
  | true, 9 => 12
  | true, 10 => 16
  | true, 11 => 20
  | true, 12 => 24
  | true, 13 => 32
  | true, 14 => 48
  | true, 15 => 64
  | true, n => n

/-- A CAN frame (R498, R504, R508): an 11-bit identifier where IDE is 0, no remote request with FDF, and as many data bytes as DLC says. -/
def canFrameOk (f : CanFrame) : Bool :=
  (f.ide || decide (f.id.toNat < 2048)) && !(f.rtr && f.fdf) &&
    f.data.length == (if f.rtr then 0 else dlcLength f.fdf f.dlc)

/-- The bursts of a relay cell: at most one for a group, in rising order of the groups (R461). -/
def burstsOk : List (Fin 57 × List Byte) → Bool
  | [] => true
  | [_] => true
  | a :: b :: l => decide (a.1 < b.1) && burstsOk (b :: l)

/-- A receipt (R460): a twin header has 10 bytes, and only a frame of a switch has one. -/
def receiptOk (r : Receipt) : Bool :=
  match r.iface with
  | .can _ => r.header.isEmpty && decide (r.dest < 128)
  | .eth _ => (r.header.isEmpty || r.header.length == 10) && decide (r.dest < 8)

/-- A control cell: a register write names a register (R460). -/
def controlOk : ControlMsg → Bool
  | .regWrite page off _ _ _ => pageOk page && offsetOk off
  | _ => true

/-- A bulk cell: its CAN frame is one (R475). -/
def bulkOk : BulkMsg → Bool
  | .canPayload _ _ frame _ _ => canFrameOk frame
  | _ => true

/-- A session's request: a register write names a register, and bytes for the staging region end within it (R440, R617). -/
def requestOk : SessionReq → Bool
  | .regWrite page off _ => pageOk page && offsetOk off
  | .staging off bytes => decide (off.toNat + bytes.length ≤ 928)
  | _ => true

/-- A command that a source of the block can send: every operand lies in the range that the spec gives it. -/
def Instr.wf (i : Instr) : Bool :=
  match i with
  | .feedLost _ => true
  | .feedRecovered _ => true
  | .overvoltageDisconnect _ => true
  | .overvoltageReconnect _ => true
  | .feedMonitorChange _ _ _ => true
  | .feedMonfault _ => true
  | .holdupBackstop => true
  | .brownoutDeclared => true
  | .brownoutWithdrawn _ => true
  | .bor => true
  | .borRelease _ => true
  | .holdupMeasurement _ => true
  | .fieldSupplyStateChange at_ _ => supplyPointOk at_
  | .domainOnRequest _ page => pageOk page
  | .domainOffRequest _ page => pageOk page
  | .domainForcedOff _ page => pageOk page
  | .domainOffComplete _ => true
  | .domainOnComplete _ => true
  | .fieldDomainTimeout _ => true
  | .budgetWrite _ _ => true
  | .clockMonitorWindow _ => true
  | .referenceTimeout => true
  | .pllLockLost => true
  | .pllLockTimeout => true
  | .pllLocked => true
  | .clkfailRunClear => true
  | .por => true
  | .pinReset _ => true
  | .resetRelease _ => true
  | .dramInitComplete => true
  | .systemWatchdogExpiry => true
  | .systemWatchdogKick _ _ _ => true
  | .wdgCtrlWrite _ _ => true
  | .swreq _ _ => true
  | .coreResetRequest _ _ => true
  | .coreResetRelease _ => true
  | .blockReset _ page => pageOk page
  | .blockResetComplete page => pageOk page
  | .forcedBlockReset _ _ => true
  | .romScan => true
  | .romVerify _ _ => true
  | .runtimeInit image => imageOk image
  | .roleDecision => true
  | .peerWaitExpiry => true
  | .mramRestoreComplete => true
  | .shutdown _ _ => true
  | .shutdownTaskAbort _ => true
  | .failrunClear => true
  | .slatheRelease => true
  | .cidRecordRead rec => rec.length == 32
  | .cidTransactionTimeout _ => true
  | .carrierTempRead _ => true
  | .cidAlert => true
  | .sideChange _ => true
  | .presenceLost => true
  | .peerSeatedChange _ => true
  | .claimLinePeriod period high => decide (high ≤ period)
  | .claimLineDead => true
  | .wakeRequest => true
  | .gpInputChange _ _ => true
  | .lockArm _ page => pageOk page
  | .lockUnlock _ page _ => pageOk page
  | .lockRelock _ page _ => pageOk page
  | .lockArmTimeout page => pageOk page
  | .registerWrite _ page off _ => pageOk page && offsetOk off
  | .faultCauseClear _ page _ => pageOk page
  | .blockEnable _ page _ => pageOk page
  | .freezeWrite _ page _ => pageOk page
  | .loggerRecordWrite => true
  | .eventPost _ _ => true
  | .lfiLoRead _ => true
  | .add _ _ _ _ => true
  | .sub _ _ _ _ => true
  | .adds _ _ _ _ => true
  | .subs _ _ _ _ => true
  | .mul _ _ _ _ => true
  | .mulh _ _ _ _ => true
  | .mulhu _ _ _ _ => true
  | .div _ _ _ _ => true
  | .divu _ _ _ _ => true
  | .rem _ _ _ _ => true
  | .remu _ _ _ _ => true
  | .addi _ _ _ _ => true
  | .and _ _ _ _ => true
  | .or _ _ _ _ => true
  | .xor _ _ _ _ => true
  | .sll _ _ _ _ => true
  | .srl _ _ _ _ => true
  | .sra _ _ _ _ => true
  | .andi _ _ _ _ => true
  | .ori _ _ _ _ => true
  | .xori _ _ _ _ => true
  | .seth _ _ _ _ _ => true
  | .fadd _ _ _ _ _ _ => true
  | .fsub _ _ _ _ _ _ => true
  | .fmul _ _ _ _ _ _ => true
  | .fdiv _ _ _ _ _ _ => true
  | .fmac _ _ _ _ _ _ => true
  | .fsqrt _ _ _ _ _ => true
  | .fmin _ _ _ _ _ => true
  | .fmax _ _ _ _ _ => true
  | .fsgn _ _ _ _ _ => true
  | .fcvt _ _ _ _ _ => true
  | .f2i _ _ _ _ _ _ => true
  | .i2f _ _ _ _ _ _ => true
  | .cmpeq _ _ _ _ => true
  | .cmplt _ _ _ _ => true
  | .cmpltu _ _ _ _ => true
  | .fcmp _ _ _ _ _ _ => true
  | .sel _ _ _ _ => true
  | .cmpi _ _ _ _ _ => true
  | .br _ _ _ => true
  | .bz _ _ _ => true
  | .bnz _ _ _ => true
  | .jr _ _ _ => true
  | .fcall _ _ _ => true
  | .fcallr _ _ _ => true
  | .fret _ => true
  | .eret _ _ => true
  | .ld _ _ _ _ => true
  | .lw _ _ _ _ => true
  | .lwu _ _ _ _ => true
  | .lbu _ _ _ _ => true
  | .st _ _ _ _ => true
  | .sw _ _ _ _ => true
  | .sb _ _ _ _ => true
  | .cas _ _ _ _ => true
  | .gtag _ _ _ => true
  | .stag _ _ _ _ => true
  | .tmrg _ _ _ _ => true
  | .tsub _ _ _ _ _ _ => true
  | .stagi _ _ _ _ => true
  | .ttst _ _ _ _ => true
  | .tim _ _ _ _ _ => true
  | .edg _ _ _ _ _ => true
  | .cnt _ _ _ _ _ => true
  | .hys _ _ _ _ _ => true
  | .lim _ _ _ _ _ => true
  | .rmp _ _ _ _ => true
  | .lxw _ _ _ _ => true
  | .lxr _ _ _ _ => true
  | .lxf _ _ _ _ => true
  | .svc _ _ => true
  | .interruptEntry _ => true
  | .taskBudgetExpiry _ => true
  | .coreWatchdogFirstExpiry _ => true
  | .coreWatchdogReset _ => true
  | .coreWatchdogKick _ _ _ => true
  | .cwdgCtrlWrite _ _ _ => true
  | .icacheInvalidate _ _ _ => true
  | .excActiveClear _ _ _ => true
  | .lxCommandAccept _ => true
  | .tpmScrub _ _ => true
  | .pmcScrub _ _ => true
  | .tpmTagWrite _ _ => true
  | .loopFrameBoundary _ => true
  | .taskCycleStart _ => true
  | .taskCommit _ => true
  | .trigger _ => true
  | .backgroundSlice _ => true
  | .retainRecordWrite => true
  | .taskRestart _ => true
  | .loopEngineStop _ _ => true
  | .ldPeakClear _ _ => true
  | .fixKeep _ => true
  | .fixRescale _ => true
  | .fixCheck _ => true
  | .fixCancel _ => true
  | .bracketAnalysis _ => true
  | .captureArm _ _ _ => true
  | .captureStop _ _ _ => true
  | .captureSoftwareTrigger _ _ _ => true
  | .captureRecord => true
  | .inputFilterAccept _ _ => true
  | .outputShortCutoff _ => true
  | .outputOverload _ => true
  | .outputShed _ => true
  | .outputRetry _ => true
  | .readbackDisagree _ _ => true
  | .fieldPeriodStart => true
  | .fgcBurstReceive _ _ _ => true
  | .fgcPeriodEnd _ => true
  | .safeStateTimeout _ => true
  | .groupRelease _ => true
  | .fgcReport group _ counted => (counted.isEmpty || counterGroup group.val) && risingChans counted
  | .reportReceive _ _ => true
  | .reportTimeout _ => true
  | .loopbackEnd _ => true
  | .outClearWrite _ page _ => groupPage page
  | .fgcPowerOnReset _ _ => true
  | .conversion group _ _ => converterGroup group.val
  | .spareVisitStart _ _ => true
  | .spareVisitEnd _ _ => true
  | .outputOpen _ => true
  | .outputDisagree _ _ => true
  | .valueBurstReceive _ _ => true
  | .counterInputError _ _ => true
  | .counterInputFault _ _ _ => true
  | .indexEvent _ _ => true
  | .ssiRead _ _ => true
  | .ssiReadEnd _ _ => true
  | .counterLatch _ counted => risingChans counted
  | .counterClear _ page _ => counterPage page
  | .homeArm _ page _ => counterPage page
  | .positionSet _ page _ _ => counterPage page
  | .shutterCapture _ _ => true
  | .shutterPop _ _ => true
  | .snapshotArm _ _ => true
  | .snapshotCancel _ _ => true
  | .snapshotComplete _ => true
  | .snapshotLatchTimeout _ => true
  | .laneCycle _ _ _ _ _ => true
  | .crosslinkFrame _ _ _ => true
  | .crosslinkTimeout _ => true
  | .safetyInputFilter _ _ _ => true
  | .pairDiscrepancy _ _ => true
  | .couplerTest _ _ _ => true
  | .sfsStateChange _ _ => true
  | .outputHeartbeatMissing _ _ => true
  | .readbackFailure _ _ => true
  | .outputFault _ _ => true
  | .switchTest _ _ _ => true
  | .tableCrcCheck _ _ => true
  | .laneWatchdog _ => true
  | .lockoutRecordWrite _ => true
  | .resetPress _ _ _ => true
  | .laneSelfTest _ _ => true
  | .configEntry => true
  | .stagingRead _ => true
  | .matrixStore _ _ => true
  | .configAbandon => true
  | .laneStart _ _ _ => true
  | .takeupBypassAssert => true
  | .takeupComplete => true
  | .laneStop _ => true
  | .mirrorUpdate _ => true
  | .mirrorStale _ => true
  | .heartbeatSend => true
  | .twinHeartbeat _ _ => true
  | .twinLaneDown _ => true
  | .twinLaneUp _ _ => true
  | .peerLost => true
  | .claimLineVerdict => true
  | .offLineWaitExit => true
  | .relayCellReceive _ bursts => burstsOk bursts
  | .mirrorCellReceive _ => true
  | .controlCellReceive m => controlOk m
  | .networkReceipt r => receiptOk r
  | .bulkCellReceive m => bulkOk m
  | .switchRequest _ _ => true
  | .autoSwitchover => true
  | .switchoverEffect => true
  | .withdrawal => true
  | .groupReturn _ => true
  | .reintegrationCheck _ _ _ => true
  | .reintegrationAlign => true
  | .bulkPass _ => true
  | .delta _ => true
  | .catchUp => true
  | .taskJoin _ _ _ => true
  | .joinProof => true
  | .joinFail => true
  | .rejoin _ _ => true
  | .coreSelfTestSlice _ _ _ => true
  | .goldenVectorSet _ => true
  | .mramScan => true
  | .norImageCheck _ => true
  | .pulseTestEnd _ _ => true
  | .healthReportPublish => true
  | .proofReqCoreTest _ _ _ => true
  | .proofReqGoldenVectors _ _ _ => true
  | .proofReqSpareVisit _ _ _ => true
  | .proofReqPulseTest _ _ _ => true
  | .proofReqCalibration _ _ _ => true
  | .proofReqLinkTest _ _ _ => true
  | .proofReqHoldup _ _ _ => true
  | .proofReqClearPulse _ _ _ => true
  | .proofRequestRun _ => true
  | .canEnable _ _ _ => true
  | .canFrameReceive _ frame _ => canFrameOk frame
  | .canFramePost _ => true
  | .canStagingDiscard _ => true
  | .canPost _ _ => true
  | .canAbort _ _ => true
  | .canRelease _ _ => true
  | .canObjectDisable _ _ => true
  | .canTransmitStart _ => true
  | .canTransmitComplete _ _ _ => true
  | .canErrorFrame _ _ _ _ => true
  | .canBusOff _ => true
  | .canBusOffRecovery _ => true
  | .canBusStuck _ => true
  | .canTransmitDominantTimeout _ => true
  | .canReceiveTimeout _ _ => true
  | .ethLinkChange _ _ _ => true
  | .ethFrameReceive _ _ _ _ _ _ _ => true
  | .ethReceiveRelease _ => true
  | .ethStagingDiscard _ => true
  | .macAgeOut _ _ => true
  | .ddEntryAge _ => true
  | .ringTailWrite _ _ _ _ => true
  | .ethTransmitComplete _ _ _ => true
  | .dcIncWrite _ _ _ => true
  | .dcSlew _ _ _ => true
  | .dcSet _ _ _ => true
  | .dcKick _ _ => true
  | .servoWatchdogExpiry _ => true
  | .otsSourceSwitch _ _ => true
  | .otsStep => true
  | .otsAbsorbComplete => true
  | .domCfgWrite _ _ _ => true
  | .tsfPop _ _ _ => true
  | .pdelayReqSend _ => true
  | .timeServiceSync _ _ _ => true
  | .announceTimeout _ => true
  | .tpoPulse => true
  | .tpoPulseEnd => true
  | .tpiCapture _ => true
  | .tpiLost => true
  | .tpiPop _ _ => true
  | .timeLoRead _ _ => true
  | .oscillatorStopped => true
  | .rtcFreqWindow _ => true
  | .cellMeasurement _ => true
  | .cellMonfault => true
  | .rtcTime0Read _ => true
  | .rtcShadowExpiry _ => true
  | .rtcSet _ _ => true
  | .rtcSetFromOts _ => true
  | .backupRecordClear _ _ => true
  | .aonBackupSwitch => true
  | .aonBackupExhausted => true
  | .aonPowerOn => true
  | .logicSupplyReturn => true
  | .panelStart _ => true
  | .panelRailReady => true
  | .panelRailFault => true
  | .panelOn => true
  | .panelStop _ => true
  | .panelFlip _ _ => true
  | .flipEffect => true
  | .crackTest _ => true
  | .lampTest _ _ => true
  | .lampTestEnd => true
  | .patternStep _ => true
  | .bridgeTemperature _ _ => true
  | .lineProbe _ _ => true
  | .overcurrentTrip _ => true
  | .annunciatorRestart _ => true
  | .tripCountClear _ => true
  | .challengeRead _ => true
  | .auth _ _ => true
  | .authResult _ => true
  | .debugLevelRequest _ _ => true
  | .debugLevelExpiry => true
  | .debugDrop _ _ => true
  | .dbgreq _ _ => true
  | .coreHalt _ _ => true
  | .coreStep _ _ => true
  | .breakpointHit _ => true
  | .debugCoverOpen => true
  | .lifecycleAdvance _ _ => true
  | .returnedWipe => true
  | .keySlotProgram _ _ => true
  | .keySlotRevoke _ _ => true
  | .rollbackCommit _ _ => true
  | .sessionOpen _ => true
  | .sessionCommand _ req => requestOk req
  | .sessionIdleTimeout _ => true
  | .norErase _ _ => true
  | .norEraseComplete _ => true
  | .norProgram _ _ _ => true
  | .norProgramComplete => true
  | .psreqRun _ _ => true
  | .psreqHold _ _ => true
  | .psreqSave _ _ => true
  | .testSessionStart _ _ => true
  | .testSessionStop _ _ _ _ => true
  | .testSessionDone _ => true
  | .testSecond _ _ _ => true
  | .extest _ => true
  | .samplePreload _ => true
  | .idcode => true
  | .clamp => true
  | .highz => true
  | .dapacc _ _ _ => true
  | .fuseprog _ _ => true
  | .fuseBlowComplete _ => true
  | .fuseread => true
  | .bypass => true
  | .unassignedEncoding _ _ => true
  | .fgcHeldInReset _ => true
  | .fieldDomainStagesReady _ => true
  | .displayFrameBoundary => true
  | .panelStopComplete => true
  | .supercapacitorFull => true
  | .twinCellDiscarded _ _ _ => true
  | .blockLockChange _ _ => true
  | .checkerSyncChange _ _ => true
  | .canBusIntegrated _ => true

end Sys2Proof
end

