-- ==== Sys2Proof/Safety.lean ====
section
/-! DEFINITION. What the statements are made of: a command that completes, what a step keeps, the conditions under which a register access
and an instruction take effect, and the canonical form that every state of a run has. -/

namespace Sys2Proof.Machine

/-! ## Completion and frames -/

/-- The command completes on `s`: it answers a next state, and `P` holds of it. -/
def Completes (c : Instr) (s : State) (P : State → Prop) : Prop := ∃ t, exec c s = .next t ∧ P t

/-- The register pages of `pages` aside, every register is as it was. -/
def KeepsPages (pages : List Nat) (s t : State) : Prop := ∀ k, pages.contains (k / 4096) = false → t.reg k = s.reg k

/-- Every word and byte of every memory reads as before (R140). -/
def KeepsMemory (s t : State) : Prop :=
  ∀ a, t.tpmAt a = s.tpmAt a ∧ t.pmByte a = s.pmByte a ∧ t.mramByte a = s.mramByte a ∧ t.norByte a = s.norByte a ∧
    t.capByte a = s.capByte a ∧ t.canByte a = s.canByte a

/-- The cores hold what they held: registers, PC and queues (R165, R169, R188). -/
def KeepsCores (s t : State) : Prop := ∀ c, t.core c = s.core c

/-- The loop records read as before (R258). -/
def KeepsLoops (s t : State) : Prop := ∀ k w, t.lw k w = s.lw k w

/-- The field groups hold what they held (R331 to R404). -/
def KeepsGroups (s t : State) : Prop := ∀ g, t.grp g = s.grp g

/-- The memories, the cores, the loop records and the field groups are as before. -/
def KeepsRest (s t : State) : Prop := KeepsMemory s t ∧ KeepsCores s t ∧ KeepsLoops s t ∧ KeepsGroups s t

/-- Only group `k` has changed: every other group, the registers, the memories, the cores and the loop records are as before. -/
def KeepsAllButGroup (k : Nat) (s t : State) : Prop :=
  (∀ j, j ≠ k → t.grp j = s.grp j) ∧ t.regs = s.regs ∧ KeepsMemory s t ∧ KeepsCores s t ∧ KeepsLoops s t

/-- No core runs a task, and the loop engine is off: EN of LOOP.CTRL is 0 or its domain is not ON. -/
def State.atRest (s : State) : Bool :=
  ([0, 1, 2, 3].all fun c => (s.running c).isNone) && (s.isolated 0x040 || !s.flag (rk 0x040 Reg.CTRL) 0)

/-- Tasks and loops stop with their state kept (R451, R472, R478): no core runs a task, EN of LOOP.CTRL is 0 where LOOP is on; of the cores only
PCs differ, of the memories only tags of TPM words, and neither where tasks and loops were at rest. -/
def StopsAll (s t : State) : Prop :=
  t.boot.running = false ∧ (∀ c, t.running c = none) ∧ (s.isolated 0x040 = false → t.flag (rk 0x040 Reg.CTRL) 0 = false) ∧
    (∀ c, t.core c = { s.core c with pc := (t.core c).pc }) ∧
    (∀ a, (t.tpmAt a).data = (s.tpmAt a).data ∧ t.pmByte a = s.pmByte a ∧ t.mramByte a = s.mramByte a ∧ t.norByte a = s.norByte a ∧
      t.capByte a = s.capByte a ∧ t.canByte a = s.canByte a) ∧
    KeepsLoops s t ∧ KeepsGroups s t ∧ (s.atRest = true → KeepsMemory s t ∧ KeepsCores s t)

/-! ## Register accesses -/

/-- A register write passes every check of R141, R144 and R157: it takes effect. -/
def State.admits (s : State) (w : Writer) (p off : Nat) : Bool :=
  s.gate w.master p off == .okay && !s.tagRefused p off (writeTag w)

/-- The logger takes an event of any severity, and its queue has room for 16 records (R162, R163). -/
def State.logOpen (s : State) : Bool := s.fld Reg.SYS_EVLOG_CTRL 0 8 == 0 && decide (s.log.queue.length ≤ 48)

/-- A record of this event is in the logger's queue (R158, R162). -/
def State.shows (t : State) (src chan cause : Nat) : Bool := t.log.queue.any fun r => r.code == eventCode src chan cause

/-! ## Instructions -/

/-- Core `c` executes its next instruction with nothing else to do: it runs, no debugger steps it, no command to the loop engine is
outstanding, no exception waits, and the instruction at its PC can be fetched with no check error to treat. -/
def State.ready (s : State) (c : CoreId) : Bool :=
  s.retires c.val && !s.sec.stepping.contains c.val && (s.core c.val).lxq.isEmpty && (s.fetchFault c).isNone
    && s.fetchPlain c && !(s.core c.val).wdogPend && !(s.core c.val).overrunPend

/-- Core `c` goes on at `pc`, with everything else as it is. -/
def State.goTo (s : State) (c : CoreId) (pc : W64) : State := s.setCore c.val { s.core c.val with pc := pc }

/-- An instruction of core `c` has written `v` to its destination, and the core goes on with the next instruction (R201). -/
def State.wrote (s : State) (c : CoreId) (rd : GReg) (v : TWord) : State := (s.setGreg c.val rd.val v).goTo c (s.pcNext c)

/-! ## The canonical form -/

/-- The memories list their words and bytes in rising order, and none that reads as an unlisted one does. -/
def MemState.canon (m : MemState) : Bool :=
  swf (dflt m.tpmFill) m.tpm && swf (dflt none) m.pm && swf mramDflt m.mram && swf norDflt m.nor && swf (dflt none) m.cap
    && swf (dflt 0) m.can

/-- What holds in every state of a run: registers and memories are canonical, and the logger's queue holds at most its 64 records
(R162). -/
def State.sound (s : State) : Bool := swf regDefault s.regs && s.mem.canon && decide (s.log.queue.length ≤ 64)

/-- A safe run: it goes on, in sound states. The meanings are total, so no run of the block ends in a fault or a refusal. -/
def SafeStep (s : State) : Prop := ∃ t, step s = .next t ∧ (s.sound = true → t.sound = true)

end Sys2Proof.Machine
end

