-- ==== Sys2Proof/Certificates/Slice0/Obligations.lean ====
section
/-! DEFINITION. The statements for the provers, one definition each: what every command of the table does, stated over all states in which
it takes effect, and what holds of the machine as a whole. -/

open Sys2Proof Sys2Proof.Machine

/-- One step takes the command at the front of the queue: it is `exec` of that command on the state with the rest of the queue. With an
empty queue the block lets one tick of time pass (the model's choice: log entry 2). -/
def Obligations.StepTakesTheFrontCommand : Prop :=
  (∀ (c : Instr) (rest : List Instr) (s : State), step { s with pending := c :: rest } = exec c { s with pending := rest }) ∧
  (∀ s : State, step { s with pending := [] } = .next (State.tick { s with pending := [] }))

/-- G0 reads 0 with tag 0x00 and a write to it has no effect; a write to any other register is read back, and changes no other register of
any core (R169). -/
def Obligations.RegisterZeroReadsZeroAndDiscards : Prop :=
  (∀ (s : State) (c : Nat), s.greg c 0 = { data := 0, tag := 0 }) ∧
  (∀ (s : State) (c : Nat) (v : TWord), s.setGreg c 0 v = s) ∧
  (∀ (s : State) (c r : Nat) (v : TWord), r ≠ 0 → (s.setGreg c r v).greg c r = v) ∧
  (∀ (s : State) (c r d q : Nat) (v : TWord), (d ≠ c ∨ q ≠ r) → (s.setGreg c r v).greg d q = s.greg d q)

/-- The tag of a result from its operands in order (R172): Q is the worst of them, CAUSE that of the first operand with that Q, F and S of
any, and L only where the instruction clamped; an immediate, which stands last, and G0 count as operands with tag 0x00. -/
def Obligations.ResultTagsFollowTheOperands : Prop :=
  (∀ (ops : List Tag) (l : Bool), ops ≠ [] →
    let r := resultTag ops l
    (∀ (before after : List Tag) (w : Tag), ops = before ++ w :: after → (∀ x ∈ before, tagQ x < tagQ w) → (∀ x ∈ after, tagQ x ≤ tagQ w) →
      tagQ r = tagQ w ∧ r.extractLsb' 3 3 = w.extractLsb' 3 3) ∧
    r.getLsbD 2 = ops.any (fun x => x.getLsbD 2) ∧ r.getLsbD 1 = ops.any (fun x => x.getLsbD 1) ∧ r.getLsbD 0 = l ∧
    resultTag (ops ++ [0]) l = r) ∧
  (∀ l : Bool, resultTag [0] l = if l then 1 else 0) ∧
  (∀ (s : State) (c : Nat), (s.greg c 0).tag = 0)

/-- TAGBAD (R202): a core that is ready, with TAGBAD_EN 1, raises it with the tag of the first operand whose Q is ABSENT, and the
instruction does nothing else. -/
def Obligations.AbsentOperandsRaiseTagbad : Prop :=
  ∀ (s : State) (c : CoreId) (rd ra rb : GReg) (imm : BitVec 14) (h : BitVec 16) (k : Fin 4) (disp : BitVec 20) (rm : Rounding) (p : Prec),
    s.ready c = true → s.flag (coreKey c.val 0x12C) 8 = true →
    let ta := (s.greg c.val ra.val).tag
    let tb := (s.greg c.val rb.val).tag
    let d := s.greg c.val rd.val
    let raises := fun (ops : List Tag) (l : List Instr) =>
      ∀ t, ops.find? (fun x => tagQ x == 3) = some t → ∀ i ∈ l, exec i s = .next (s.raise c.val { code := 1, tag := some t })
    raises [ta, tb] [.add c rd ra rb, .sub c rd ra rb, .adds c rd ra rb, .subs c rd ra rb, .mul c rd ra rb, .mulh c rd ra rb, .mulhu c rd ra rb,
      .div c rd ra rb, .divu c rd ra rb, .rem c rd ra rb, .remu c rd ra rb, .and c rd ra rb, .or c rd ra rb, .xor c rd ra rb,
      .sll c rd ra (.reg rb), .srl c rd ra (.reg rb), .sra c rd ra (.reg rb), .cmpeq c rd ra rb, .cmplt c rd ra rb, .cmpltu c rd ra rb,
      .fadd c rd ra rb rm p, .fsub c rd ra rb rm p, .fmul c rd ra rb rm p, .fdiv c rd ra rb rm p, .fmin c rd ra rb p, .fmax c rd ra rb p,
      .fsgn c rd ra (.copy rb) p, .fcmp c rd ra rb .eq p, .fcmp c rd ra rb .lt p, .fcmp c rd ra rb .le p, .fcmp c rd ra rb .unord p] ∧
    raises [ta] [.addi c rd ra imm, .andi c rd ra imm, .ori c rd ra imm, .xori c rd ra imm, .cmpi c rd ra .eq imm, .cmpi c rd ra .lt imm,
      .cmpi c rd ra .ltu imm, .fsqrt c rd ra rm p, .fsgn c rd ra .abs p, .fsgn c rd ra .neg p, .fcvt c rd ra rm p, .f2i c rd ra rm p false,
      .f2i c rd ra rm p true, .i2f c rd ra rm p false, .i2f c rd ra rm p true, .bz c ra disp, .bnz c ra disp] ∧
    raises [ta, tb, d.tag] [.fmac c rd ra rb rm p] ∧ raises [d.tag] [.seth c rd h k false] ∧
    raises [d.tag, if d.data ≠ 0 then ta else tb] [.sel c rd ra rb]

/-- The integer instructions of a core that is ready, with no operand that raises TAGBAD, write their result with the tag of R172 and go
on with the next instruction; nothing else changes (R203). Forms that answer a next state here: add, sub, adds, subs, mul, mulh, mulhu. -/
def Obligations.IntegerInstructionsCompute : Prop :=
  ∀ (s : State) (c : CoreId) (rd ra rb : GReg), s.ready c = true →
    let a := (s.greg c.val ra.val).data
    let b := (s.greg c.val rb.val).data
    let ta := (s.greg c.val ra.val).tag
    let tb := (s.greg c.val rb.val).tag
    let gives := fun (v : W64) (l : Bool) => s.wrote c rd { data := v, tag := resultTag [ta, tb] l }
    let sat := fun (n : Int) => BitVec.ofInt 64 (max (-(2 ^ 63)) (min n (2 ^ 63 - 1)))
    let clamped := fun (n : Int) => decide (n < -(2 ^ 63) ∨ 2 ^ 63 ≤ n)
    s.tagBad c [ta, tb] = none →
      exec (.add c rd ra rb) s = .next (gives (BitVec.ofNat 64 (a.toNat + b.toNat)) false) ∧
      exec (.sub c rd ra rb) s = .next (gives (BitVec.ofInt 64 (a.toNat - b.toNat)) false) ∧
      exec (.adds c rd ra rb) s = .next (gives (sat (a.toInt + b.toInt)) (clamped (a.toInt + b.toInt))) ∧
      exec (.subs c rd ra rb) s = .next (gives (sat (a.toInt - b.toInt)) (clamped (a.toInt - b.toInt))) ∧
      exec (.mul c rd ra rb) s = .next (gives (BitVec.ofNat 64 (a.toNat * b.toNat)) false) ∧
      exec (.mulh c rd ra rb) s = .next (gives (BitVec.ofInt 64 ((a.toInt * b.toInt).fdiv (2 ^ 64))) false) ∧
      exec (.mulhu c rd ra rb) s = .next (gives (BitVec.ofNat 64 (a.toNat * b.toNat / 2 ^ 64)) false)

/-- Division and remainder (R203, R204): with a divisor other than 0 the quotient is truncated towards zero and the remainder has the sign
of the dividend, −2^63 by −1 gives −2^63 and 0; by 0 DIV0 is raised at DIV0_EN 1, and at 0 the result is 0 with the tag of R173. Forms
that answer a next state here: div, divu, rem, remu. -/
def Obligations.DivisionAndDivisionByZero : Prop :=
  ∀ (s : State) (c : CoreId) (rd ra rb : GReg), s.ready c = true →
    let a := (s.greg c.val ra.val).data
    let b := (s.greg c.val rb.val).data
    let tag := resultTag [(s.greg c.val ra.val).tag, (s.greg c.val rb.val).tag] false
    let failed : Tag := if tagQ tag < 2 then 0xA8 ||| (tag &&& 7) else tag
    let div0 := s.flag (coreKey c.val 0x12C) 5
    s.tagBad c [(s.greg c.val ra.val).tag, (s.greg c.val rb.val).tag] = none →
      (b ≠ 0 →
        exec (.div c rd ra rb) s = .next (s.wrote c rd { data := BitVec.ofInt 64 (a.toInt.tdiv b.toInt), tag := tag }) ∧
        exec (.divu c rd ra rb) s = .next (s.wrote c rd { data := BitVec.ofNat 64 (a.toNat / b.toNat), tag := tag }) ∧
        exec (.rem c rd ra rb) s = .next (s.wrote c rd { data := BitVec.ofInt 64 (a.toInt.tmod b.toInt), tag := tag }) ∧
        exec (.remu c rd ra rb) s = .next (s.wrote c rd { data := BitVec.ofNat 64 (a.toNat % b.toNat), tag := tag })) ∧
      (b = 0 → ∀ i ∈ [Instr.div c rd ra rb, .divu c rd ra rb, .rem c rd ra rb, .remu c rd ra rb],
        exec i s = .next (if div0 then s.raise c.val { code := 6 } else s.wrote c rd { data := 0, tag := failed }))

/-- The immediate, logic, shift, compare and select instructions of a core that is ready write their result and its tag (R203, R205,
R209). A shift counts modulo 64; SEL reads only the register that it selects. SETH writes one quarter of the destination: with Z the
others are cleared and the tag is 0x00, without Z they are kept and the destination is an operand (R205). Forms that answer a next state
here: addi, and, or, xor, sll, srl, sra, andi, ori, xori, seth, cmpeq, cmplt, cmpltu, sel, cmpi. -/
def Obligations.LogicShiftCompareAndSethCompute : Prop :=
  (∀ (s : State) (c : CoreId) (rd ra rb : GReg) (imm : BitVec 14), s.ready c = true →
     let a := (s.greg c.val ra.val).data
     let b := (s.greg c.val rb.val).data
     let ta := (s.greg c.val ra.val).tag
     let tb := (s.greg c.val rb.val).tag
     let two := fun (v : W64) => Host.Outcome.next (φ := Fault) (ρ := Refusal) (s.wrote c rd { data := v, tag := resultTag [ta, tb] false })
     let one := fun (v : W64) => Host.Outcome.next (φ := Fault) (ρ := Refusal) (s.wrote c rd { data := v, tag := resultTag [ta] false })
     (s.tagBad c [ta, tb] = none →
       exec (.and c rd ra rb) s = two (a &&& b) ∧ exec (.or c rd ra rb) s = two (a ||| b) ∧ exec (.xor c rd ra rb) s = two (a ^^^ b) ∧
       exec (.sll c rd ra (.reg rb)) s = two (a <<< (b.toNat % 64)) ∧ exec (.srl c rd ra (.reg rb)) s = two (a >>> (b.toNat % 64)) ∧
       exec (.sra c rd ra (.reg rb)) s = two (BitVec.ofInt 64 (a.toInt / 2 ^ (b.toNat % 64))) ∧
       exec (.cmpeq c rd ra rb) s = two (if a = b then 1 else 0) ∧
       exec (.cmplt c rd ra rb) s = two (if a.toInt < b.toInt then 1 else 0) ∧
       exec (.cmpltu c rd ra rb) s = two (if a.toNat < b.toNat then 1 else 0)) ∧
     (s.tagBad c [ta] = none →
       exec (.addi c rd ra imm) s = one (BitVec.ofInt 64 (a.toInt + imm.toInt)) ∧
       exec (.andi c rd ra imm) s = one (a &&& imm.setWidth 64) ∧ exec (.ori c rd ra imm) s = one (a ||| imm.setWidth 64) ∧
       exec (.xori c rd ra imm) s = one (a ^^^ imm.setWidth 64) ∧
       (∀ n : BitVec 6, exec (.sll c rd ra (.imm n)) s = one (a <<< n.toNat) ∧ exec (.srl c rd ra (.imm n)) s = one (a >>> n.toNat) ∧
         exec (.sra c rd ra (.imm n)) s = one (BitVec.ofInt 64 (a.toInt / 2 ^ n.toNat))) ∧
       exec (.cmpi c rd ra .eq imm) s = one (if a = imm.signExtend 64 then 1 else 0) ∧
       exec (.cmpi c rd ra .lt imm) s = one (if a.toInt < imm.toInt then 1 else 0) ∧
       exec (.cmpi c rd ra .ltu imm) s = one (if a.toNat < (imm.signExtend 64).toNat then 1 else 0)) ∧
     (let d := s.greg c.val rd.val
      let v := if d.data ≠ 0 then s.greg c.val ra.val else s.greg c.val rb.val
      s.tagBad c [d.tag, v.tag] = none →
       exec (.sel c rd ra rb) s = .next (s.wrote c rd { data := v.data, tag := resultTag [d.tag, v.tag] false }))) ∧
  (∀ (s : State) (c : CoreId) (rd : GReg) (imm : BitVec 16) (k : Fin 4), s.ready c = true →
     exec (.seth c rd imm k true) s = .next (s.wrote c rd { data := imm.setWidth 64 <<< (16 * k.val), tag := 0 }) ∧
     (s.tagBad c [(s.greg c.val rd.val).tag] = none →
       ∃ v : W64, exec (.seth c rd imm k false) s = .next (s.wrote c rd { data := v, tag := (s.greg c.val rd.val).tag &&& 0xFE }) ∧
         v.extractLsb' (16 * k.val) 16 = imm ∧
         ∀ j : Fin 4, j ≠ k → v.extractLsb' (16 * j.val) 16 = (s.greg c.val rd.val).data.extractLsb' (16 * j.val) 16))

/-- The tag operations of a core that is ready write the value and tag of R215; none raises TAGBAD, whatever the operands' tags. Forms
that answer a next state here: gtag, stag, tmrg, tsub, stagi, ttst. -/
def Obligations.TagOperationsNeverRaise : Prop :=
  ∀ (s : State) (c : CoreId) (rd ra rb : GReg), s.ready c = true →
    let a := s.greg c.val ra.val
    let b := s.greg c.val rb.val
    exec (.gtag c rd ra) s = .next (s.wrote c rd { data := a.tag.setWidth 64, tag := 0 }) ∧
    exec (.stag c rd ra rb) s = .next (s.wrote c rd { data := a.data, tag := b.data.setWidth 8 }) ∧
    exec (.tmrg c rd ra rb) s = .next (s.wrote c rd { data := a.data, tag := resultTag [a.tag, b.tag] false }) ∧
    (∀ (thr : Threshold) (qs : BitVec 2), exec (.tsub c rd ra rb thr qs) s = .next (s.wrote c rd
      (if thresholdQ thr ≤ tagQ a.tag then
        { data := b.data, tag := (qs.setWidth 8 <<< 6) ||| 0x20 ||| ((a.tag ||| b.tag) &&& 0x06) }
      else a))) ∧
    (∀ tag : Tag, exec (.stagi c rd ra tag) s = .next (s.wrote c rd { data := a.data, tag := tag })) ∧
    (∀ q : BitVec 2, exec (.ttst c rd ra (.qAtLeast q)) s =
      .next (s.wrote c rd { data := if q.toNat ≤ tagQ a.tag then 1 else 0, tag := 0 })) ∧
    (∀ m : BitVec 8, exec (.ttst c rd ra (.mask m)) s = .next (s.wrote c rd { data := if a.tag &&& m = 0 then 0 else 1, tag := 0 }))

/-- The floating-point instructions of a core that is ready, with no operand that raises TAGBAD and no flag that FPX_EN enables, write
their result, rounded once, with the tag of R172 and R173 (R206 to R209). FSGN changes only the sign bit of its operand in the precision
of P, raises no flag, and clears [63:32] in binary32 (R170, R207, R208). Forms that answer a next state here: fadd, fsub, fmul, fdiv,
fmac, fsqrt, fmin, fmax, fsgn, fcvt, f2i, i2f, fcmp. -/
def Obligations.FloatingPointInstructionsCompute : Prop :=
  (∀ (s : State) (c : CoreId) (rd ra rb : GReg) (rm : Rounding) (p : Prec), s.ready c = true →
     let f := fmtOf p
     let a := s.greg c.val ra.val
     let b := s.greg c.val rb.val
     let d := s.greg c.val rd.val
     let xa := fpArg p a.data
     let xb := fpArg p b.data
     let xd := fpArg p d.data
     let quiet := fun (ops : List Tag) (r : FRes) => s.tagBad c ops = none ∧ r.flags &&& s.fld (coreKey c.val 0x12C) 0 5 = 0
     let gives := fun (i : Instr) (ops : List Tag) (r : FRes) (limited fail : Bool) => quiet ops r →
       exec i s = .next (s.wrote c rd { data := BitVec.ofNat 64 r.bits, tag := failTag (resultTag ops limited) fail })
     let made := fun (l : List Fp) (r : FRes) => fpFails l (unpack f r.bits)
     let two := [a.tag, b.tag]
     gives (.fadd c rd ra rb rm p) two (addFp f rm xa xb) false (made [xa, xb] (addFp f rm xa xb)) ∧
     gives (.fsub c rd ra rb rm p) two (addFp f rm xa xb.negated) false (made [xa, xb] (addFp f rm xa xb.negated)) ∧
     gives (.fmul c rd ra rb rm p) two (mulFp f rm xa xb) false (made [xa, xb] (mulFp f rm xa xb)) ∧
     gives (.fdiv c rd ra rb rm p) two (divFp f rm xa xb) false (made [xa, xb] (divFp f rm xa xb)) ∧
     gives (.fmac c rd ra rb rm p) [a.tag, b.tag, d.tag] (fmaFp f rm xa xb xd) false (made [xa, xb, xd] (fmaFp f rm xa xb xd)) ∧
     gives (.fsqrt c rd ra rm p) [a.tag] (sqrtFp f rm xa) false (made [xa] (sqrtFp f rm xa)) ∧
     (let r := minMaxFp f true (precBits p a.data) (precBits p b.data)
      gives (.fmin c rd ra rb p) two r false (made [xa, xb] r)) ∧
     (let r := minMaxFp f false (precBits p a.data) (precBits p b.data)
      gives (.fmax c rd ra rb p) two r false (made [xa, xb] r)) ∧
     (∀ uns : Bool,
       (let r := toInteger rm uns xa
        gives (.f2i c rd ra rm p uns) [a.tag] r.1 r.2.1 r.2.2) ∧
       (let n : Int := if uns then a.data.toNat else a.data.toInt
        gives (.i2f c rd ra rm p uns) [a.tag] (roundFp f rm (decide (n < 0)) n.natAbs 0) false false)) ∧
     (let x := fpArg (match p with | .binary64 => .binary32 | .binary32 => .binary64) a.data
      gives (.fcvt c rd ra rm p) [a.tag] (convertFp f rm x) false (made [x] (convertFp f rm x))) ∧
     (∀ cond : FCond, gives (.fcmp c rd ra rb cond p) two (compareFp cond xa xb) false false)) ∧
  (∀ (s : State) (c : CoreId) (rd ra rb : GReg), s.ready c = true →
     let a := s.greg c.val ra.val
     let b := s.greg c.val rb.val
     let lo := a.data.setWidth 32
     let gives := fun (v : W64) (ops : List Tag) =>
       Host.Outcome.next (φ := Fault) (ρ := Refusal) (s.wrote c rd { data := v, tag := resultTag ops false })
     (s.tagBad c [a.tag] = none →
       exec (.fsgn c rd ra .abs .binary64) s = gives (a.data &&& 0x7FFFFFFFFFFFFFFF) [a.tag] ∧
       exec (.fsgn c rd ra .neg .binary64) s = gives (a.data ^^^ 0x8000000000000000) [a.tag] ∧
       exec (.fsgn c rd ra .abs .binary32) s = gives ((lo &&& 0x7FFFFFFF).setWidth 64) [a.tag] ∧
       exec (.fsgn c rd ra .neg .binary32) s = gives ((lo ^^^ 0x80000000).setWidth 64) [a.tag]) ∧
     (s.tagBad c [a.tag, b.tag] = none →
       exec (.fsgn c rd ra (.copy rb) .binary64) s =
         gives ((a.data &&& 0x7FFFFFFFFFFFFFFF) ||| (b.data &&& 0x8000000000000000)) [a.tag, b.tag] ∧
       exec (.fsgn c rd ra (.copy rb) .binary32) s =
         gives (((lo &&& 0x7FFFFFFF) ||| (b.data.setWidth 32 &&& 0x80000000)).setWidth 64) [a.tag, b.tag]))

/-- Branches and jumps of a core that is ready (R210): a displacement counts in words from the PC; BR with LNK and JR leave the return
address with tag 0x00; a jump to an address that is no multiple of 4 raises ALIGN with that address and writes no register. Forms that
answer a next state here: br, bz, bnz, jr. -/
def Obligations.BranchesGoWhereTheySay : Prop :=
  ∀ (s : State) (c : CoreId) (rd ra : GReg) (disp : BitVec 20), s.ready c = true →
    let a := s.greg c.val ra.val
    let pc := (s.core c.val).pc
    let target := pc + BitVec.ofInt 64 (4 * disp.toInt)
    exec (.br c disp false) s = .next (s.goTo c target) ∧
    exec (.br c disp true) s = .next ((s.setGreg c.val 30 { data := pc + 4, tag := 0 }).goTo c target) ∧
    (s.tagBad c [a.tag] = none →
      exec (.bz c ra disp) s = .next (s.goTo c (if a.data = 0 then target else pc + 4)) ∧
      exec (.bnz c ra disp) s = .next (s.goTo c (if a.data = 0 then pc + 4 else target))) ∧
    (a.data.toNat % 4 = 0 → exec (.jr c rd ra) s = .next ((s.setGreg c.val rd.val { data := pc + 4, tag := 0 }).goTo c a.data)) ∧
    (a.data.toNat % 4 ≠ 0 → exec (.jr c rd ra) s = .next (s.raise c.val { code := 2, addr := some a.data }))

/-- Loads of a core that is ready, from TPM (R166, R174, R213): a 64-bit word comes with its tag; nothing but the register and the PC
changes. The word has no check error, is aligned, and the core may read it; caches hold no TPM, so a finding there changes nothing. Loads
of a core that is ready, from program memory (R140, R174, R213): least significant byte first, sign- or zero-extended, with tag 0x00. A
cache check error that is not in a dirty line of L2 changes nothing of this; one in a dirty line, a line stored to, raises ACCESS with SUB
5 and is logged (R168, R179, R194). Forms that answer a next state here: ld, lw, lwu, lbu. -/
def Obligations.LoadsReadTheirMemory : Prop :=
  (∀ (s : State) (c : CoreId) (rd rb : GReg) (at_ : LoadAt), s.ready c = true →
     let a := s.memAddr c rb at_.disp
     let w := (a.toNat - 0x100000000) / 8
     0x100000000 ≤ a.toNat → a.toNat ≤ 0x103FFFFFF → a.toNat % 8 = 0 → s.allowed c.val a 31 = true → sget (dflt 0) s.mem.tpmErr w = 0 →
       exec (.ld c rd rb at_) s = .next (s.wrote c rd (s.tpmAt w))) ∧
  (∀ (s : State) (c : CoreId) (rd rb : GReg) (disp : BitVec 16), s.ready c = true →
     let k := coreKey c.val
     let a := s.memAddr c rb disp
     let o := a.toNat - 0x200000000
     let b := fun i => s.pmByte (o + i)
     let w32 : W32 := b 3 ++ b 2 ++ b 1 ++ b 0
     let hi : W32 := b 7 ++ b 6 ++ b 5 ++ b 4
     let clean : LoadAt := { disp := disp }
     let gives := fun (v : W64) => Host.Outcome.next (φ := Fault) (ρ := Refusal) (s.wrote c rd { data := v, tag := 0 })
     0x200000000 ≤ a.toNat → a.toNat ≤ 0x23FFFFFFF → s.allowed c.val a 31 = true →
       (sget (dflt 0) s.mem.pmErr (o / 8) = 0 → sget (dflt 0) s.mem.cacheErr (a.toNat / 64) = 0 →
         (a.toNat % 8 = 0 → exec (.ld c rd rb clean) s = gives (hi ++ w32)) ∧
         (a.toNat % 4 = 0 → exec (.lw c rd rb clean) s = gives (w32.signExtend 64) ∧ exec (.lwu c rd rb clean) s = gives (w32.setWidth 64)) ∧
         exec (.lbu c rd rb clean) s = gives ((b 0).setWidth 64)) ∧
       (sget (dflt 0) s.mem.pmErr (o / 8) = 0 → a.toNat % 8 = 0 → ∀ f ∈ [CacheFinding.parity, .correctable, .l1Data, .l2Clean],
         Completes (.ld c rd rb { disp := disp, found := f }) s fun t =>
           (rd ≠ 0 → t.greg c.val rd.val = { data := hi ++ w32, tag := 0 }) ∧ (t.core c.val).pc = s.pcNext c ∧ t.regs = s.regs ∧
             sget (dflt 0) t.mem.cacheErr (a.toNat / 64) = 0 ∧ KeepsMemory s t) ∧
       (s.mem.dirty.contains (o / 64) = true → s.excActive c.val = false → s.logOpen = true → a.toNat % 8 = 0 →
         Completes (.ld c rd rb { disp := disp, found := .l2Dirty }) s fun t =>
           t.reg64 (k 0x114) = (s.core c.val).pc ∧ t.fld (k 0x11C) 0 16 = 0x0503 ∧ t.reg64 (k 0x120) = a ∧ t.excActive c.val = true ∧
             (t.core c.val).pc = s.reg64 (k 0x10C) + 0xC0 ∧ t.shows (ecorePage c.val) 0xFFF 0x13 = true ∧
             (∀ r, t.greg c.val r = s.greg c.val r)))

/-- Stores of a core that is ready (R174, R213): to TPM the word with the register's tag, to program memory the low bytes, least
significant first. The stored bytes read back as stored, every other byte and word of memory reads as before, and the core's registers are
kept. CAS of a core that is ready, on a word of TPM without a check error (R213, R214): the old word and its tag go to the destination,
and the word takes Gb with its tag exactly where the old value equals the destination's. Forms that answer a next state here: st, sw, sb,
cas. -/
def Obligations.StoresAndCasWriteOnlyTheirBytes : Prop :=
  (∀ (s : State) (c : CoreId) (rd rb : GReg) (disp : BitVec 16), s.ready c = true →
     let a := s.memAddr c rb disp
     let v := s.greg c.val rd.val
     s.allowed c.val a 30 = true →
     (0x100000000 ≤ a.toNat → a.toNat ≤ 0x103FFFFFF → a.toNat % 8 = 0 →
       ∃ t, exec (.st c rd rb disp) s = .next t ∧ t.tpmAt ((a.toNat - 0x100000000) / 8) = v ∧
         (∀ w, w ≠ (a.toNat - 0x100000000) / 8 → t.tpmAt w = s.tpmAt w) ∧
         (∀ o, t.pmByte o = s.pmByte o ∧ t.mramByte o = s.mramByte o) ∧
         (∀ d r, t.greg d r = s.greg d r) ∧ (t.core c.val).pc = s.pcNext c ∧ t.regs = s.regs) ∧
     (0x200000000 ≤ a.toNat → a.toNat ≤ 0x23FFFFFFF →
       ∀ e ∈ [(Instr.st c rd rb disp, 8), (.sw c rd rb disp, 4), (.sb c rd rb disp, 1)], a.toNat % e.2 = 0 →
         ∃ t, exec e.1 s = .next t ∧
           (∀ i, i < e.2 → t.pmByte (a.toNat - 0x200000000 + i) = v.data.extractLsb' (8 * i) 8) ∧
           (∀ o, (o < a.toNat - 0x200000000 ∨ a.toNat - 0x200000000 + e.2 ≤ o) → t.pmByte o = s.pmByte o) ∧
           (∀ w, t.tpmAt w = s.tpmAt w ∧ t.mramByte w = s.mramByte w) ∧
           (∀ d r, t.greg d r = s.greg d r) ∧ (t.core c.val).pc = s.pcNext c ∧ t.regs = s.regs)) ∧
  (∀ (s : State) (c : CoreId) (rd ra rb : GReg), s.ready c = true →
     let a := (s.greg c.val ra.val).data
     let w := (a.toNat - 0x100000000) / 8
     0x100000000 ≤ a.toNat → a.toNat ≤ 0x103FFFFFF → a.toNat % 8 = 0 → s.allowed c.val a 31 = true → s.allowed c.val a 30 = true →
     sget (dflt 0) s.mem.tpmErr w = 0 →
       let old := s.tpmAt w
       exec (.cas c rd ra rb) s = .next
         (((if old.data = (s.greg c.val rd.val).data then s.setTpm w (s.greg c.val rb.val) else s).setGreg c.val rd.val old).goTo c (s.pcNext c)))

/-- Function-block calls and returns (R211) of a core that is ready, whose stack lies in program memory, aligned, readable, writable and
free of check errors: the call puts LK and IB below SP, and the return takes them back. Forms that answer a next state here: fcall,
fcallr, fret. -/
def Obligations.CallsPushAndReturnsPop : Prop :=
  ∀ (s : State) (c : CoreId) (ra ri : GReg) (disp : BitVec 21), s.ready c = true →
    let sp := s.greg c.val 31
    let lk := s.greg c.val 30
    let ib := s.greg c.val 28
    let pc := (s.core c.val).pc
    let o := sp.data.toNat - 0x200000000
    (0x200000010 ≤ sp.data.toNat → sp.data.toNat ≤ 0x240000000 → sp.data.toNat % 8 = 0 →
      s.allowed c.val (sp.data - 16) 30 = true → s.allowed c.val (sp.data - 8) 30 = true →
      ∀ e ∈ [(Instr.fcall c ri disp, pc + BitVec.ofInt 64 (4 * disp.toInt)), (.fcallr c ra ri, (s.greg c.val ra.val).data)],
        e.2.toNat % 4 = 0 →
        exec e.1 s = .next (((((((s.setPm (o - 16) 8 lk.data.toNat).setPm (o - 8) 8 ib.data.toNat).setGreg c.val 31
          { sp with data := sp.data - 16 })).setGreg c.val 28 (s.greg c.val ri.val)).setGreg c.val 30 { data := pc + 4, tag := 0 }).goTo c e.2)) ∧
    (0x200000000 ≤ sp.data.toNat → sp.data.toNat ≤ 0x23FFFFFF0 → sp.data.toNat % 8 = 0 → lk.data.toNat % 4 = 0 →
      s.allowed c.val sp.data 31 = true → s.allowed c.val (sp.data + 8) 31 = true →
      sget (dflt 0) s.mem.pmErr (o / 8) = 0 → sget (dflt 0) s.mem.pmErr (o / 8 + 1) = 0 →
      sget (dflt 0) s.mem.cacheErr (sp.data.toNat / 64) = 0 → sget (dflt 0) s.mem.cacheErr ((sp.data.toNat + 8) / 64) = 0 →
        exec (.fret c) s = .next ((((s.setGreg c.val 30 { data := BitVec.ofNat 64 (leNat s.pmByte o 8), tag := 0 }).setGreg c.val 28
          { data := BitVec.ofNat 64 (leNat s.pmByte (o + 8) 8), tag := 0 }).setGreg c.val 31 { sp with data := sp.data + 16 }).goTo c lk.data))

/-- What a core's exceptions do (R180): EPC takes the return address and ECAUSE the code; PLEV takes LEVEL, LEVEL becomes P, IE 0 and
EXC_ACTIVE 1; the PC goes to EVBASE + 0x40 × code. SVC returns after itself; an encoding that selects no instruction raises ILLEGAL, as
does ERET at level T. An interrupt is entered between instructions (R180, R185, R186): the core runs with IE 1 and EXC_ACTIVE 0, and the
slot of the highest priority among the pending ones, and of those the lowest, is taken. The words of the worked examples of the
instruction set, written out from their encodings (R198, R199): each selects its instruction, and a word that none has selects none
(R200). Forms that answer a next state here: svc, interruptEntry, unassignedEncoding. -/
def Obligations.ExceptionsAndInterruptsAreEntered : Prop :=
  (∀ (s : State) (c : CoreId), s.ready c = true → s.excActive c.val = false →
     let k := coreKey c.val
     let entered := fun (code : Nat) (epc : W64) (t : State) =>
       t.reg64 (k 0x114) = epc ∧ t.fld (k 0x11C) 0 8 = code ∧ t.flag (k 0x100) 5 = s.levelP c.val ∧ t.levelP c.val = true ∧
         t.intsOn c.val = false ∧ t.excActive c.val = true ∧ (t.core c.val).pc = s.reg64 (k 0x10C) + BitVec.ofNat 64 (0x40 * code) ∧
         (∀ r, t.greg c.val r = s.greg c.val r) ∧ KeepsMemory s t
     (∀ code : BitVec 16, Completes (.svc c code) s (entered 0x0A ((s.core c.val).pc + 4))) ∧
     (∀ word : W32, assignedWord word = false → Completes (.unassignedEncoding c word) s (entered 0x05 (s.core c.val).pc)) ∧
     (∀ keep : Bool, s.levelP c.val = false → Completes (.eret c keep) s (entered 0x05 (s.core c.val).pc))) ∧
  (∀ (s : State) (c : CoreId) (n : Nat), s.coreRuns c.val = true → s.intsOn c.val = true → s.excActive c.val = false →
     s.irqSlot c.val = some n →
     let k := coreKey c.val
     Completes (.interruptEntry c) s (fun t =>
       t.reg64 (k 0x114) = (s.core c.val).pc ∧ t.fld (k 0x11C) 0 8 = 0x80 + n ∧ t.intsOn c.val = false ∧ t.excActive c.val = true ∧
         t.levelP c.val = true ∧ (t.core c.val).pc = s.reg64 (k 0x10C) + BitVec.ofNat 64 (0x800 + 0x40 * n)) ∧
     (s.slotPending c.val n = true ∧ ∀ m < 32, s.slotPending c.val m = true →
       s.fld (k (0x200 + 4 * m)) 26 2 < s.fld (k (0x200 + 4 * n)) 26 2 ∨
         (s.fld (k (0x200 + 4 * m)) 26 2 = s.fld (k (0x200 + 4 * n)) 26 2 ∧ n ≤ m))) ∧
  (∀ c : CoreId, decodeWord c 0x60BD0120 = some (.ld c 5 29 { disp := 0x120 }) ∧ decodeWord c 0x4CC54002 = some (.hys c 6 5 2 true) ∧
     decodeWord c 0x40E60005 = some (.tim c 7 6 5 .onDelay) ∧ decodeWord c 0 = none ∧ decodeWord c 0xFFFFFFFF = none)

/-- ERET at level P (R212): PC from EPC, or, where the handler of an overrun has ended the cycle that was cut, the address that the core
runs next (R246); LEVEL from PLEV, EXC_ACTIVE 0, and IE 1, or 0 where IMM16 [0] is 1. Forms that answer a next state here: eret. -/
def Obligations.EretReturns : Prop :=
  ∀ (s : State) (c : CoreId) (keep : Bool), s.ready c = true → s.levelP c.val = true →
    let k := coreKey c.val
    Completes (.eret c keep) s fun t =>
      (t.core c.val).pc = (s.core c.val).nextPc.getD (s.reg64 (k 0x114)) ∧ t.levelP c.val = s.flag (k 0x100) 5 ∧ t.excActive c.val = false ∧
        t.intsOn c.val = !keep ∧ (∀ r, t.greg c.val r = s.greg c.val r) ∧ KeepsMemory s t ∧
        (∀ x, x ≠ k 0x100 → t.reg x = s.reg x)

/-- The process primitives of a core that is ready, with their instance block in TPM, aligned and free of check errors, at level P, and no
operand that raises TAGBAD (R216 to R223): the destination takes the output with its tag, the words of the block that the primitive writes
take theirs, and every other word of TPM keeps its value. The primitives that use task time (R217, R218, R223), under the same conditions
with TB at a word of TPM outside the block: they record the time, and an input with Q BAD or ABSENT is held: TIM goes on with its last
input, RMP keeps its output. Forms that answer a next state here: tim, edg, cnt, hys, lim, rmp. -/
def Obligations.PrimitivesUpdateTheirBlock : Prop :=
  (∀ (s : State) (c : CoreId) (rd ra : GReg) (n : BitVec 14), s.ready c = true → s.levelP c.val = true →
     let a := s.greg c.val ra.val
     let ib := (s.greg c.val 28).data
     let w := (ib.toNat - 0x100000000) / 8 + n.toNat
     let x := fun i => s.tpmAt (w + i)
     let only := fun (len : Nat) (i : Instr) (out : TWord) (writes : List (Nat × TWord)) =>
       ib.toNat % 8 = 0 → 0x100000000 ≤ ib.toNat → w + len ≤ 8388608 → (∀ j < len, sget (dflt 0) s.mem.tpmErr (w + j) = 0) →
       s.tagBad c [a.tag] = none →
       exec i s = .next ((writes.foldl (fun (s : State) e => s.setTpm (w + e.1) e.2) s).wrote c rd out)
     (∀ v : EdgVar,
       let p := (x 0).data.getLsbD 0
       let b := a.data.getLsbD 0
       let edge := match v with
         | .rising => b && !p
         | .falling => p && !b
         | .both => b != p
       only 1 (.edg c rd ra n v)
         { data := if 2 ≤ tagQ a.tag then 0 else if edge then 1 else 0, tag := a.tag &&& 0xFE }
         (if 2 ≤ tagQ a.tag then [] else [(0, { data := if b then 1 else 0, tag := 0 })])) ∧
     (∀ inv : Bool,
       let was := (x 2).data.getLsbD 0
       let now := if 2 ≤ tagQ a.tag then was else hysStep a.data (x 0).data (x 1).data was
       only 3 (.hys c rd ra n inv)
         { data := if now != inv then 1 else 0, tag := resultTag [a.tag, (x 0).tag, (x 1).tag] false }
         [(2, { data := if now then 1 else 0, tag := 0 })]) ∧
     (∀ int : Bool,
       let r := limValue int a.data (x 0).data (x 1).data
       only 2 (.lim c rd ra n int) { data := r, tag := resultTag [a.tag, (x 0).tag, (x 1).tag] (r != a.data) } []) ∧
     (∀ v : CntVar, tagQ a.tag < 2 → a.data.getLsbD 2 = false → a.data.getLsbD 3 = false →
       let up := a.data.getLsbD 0 && !(x 2).data.getLsbD 0 && v != .down
       let down := a.data.getLsbD 1 && !(x 2).data.getLsbD 1 && v != .up
       let r := cntStep up down false false (x 0).data.toInt (x 1).data.toInt
       let tag := resultTag [a.tag, (x 1).tag] r.2
       only 3 (.cnt c rd ra n v)
         { data := (if (x 1).data.toInt ≤ r.1 then 1 else 0) + (if r.1 ≤ 0 then 2 else 0), tag := tag }
         [(0, { data := BitVec.ofInt 64 r.1, tag := tag }), (2, { data := a.data &&& 3, tag := 0 })])) ∧
  (∀ (s : State) (c : CoreId) (rd ra : GReg) (n : BitVec 14), s.ready c = true → s.levelP c.val = true →
     let a := s.greg c.val ra.val
     let ib := (s.greg c.val 28).data
     let tb := (s.greg c.val 29).data
     let w := (ib.toNat - 0x100000000) / 8 + n.toNat
     let x := fun i => s.tpmAt (w + i)
     let tt := s.tpmAt ((tb.toNat - 0x100000000) / 8)
     ib.toNat % 8 = 0 → 0x100000000 ≤ ib.toNat → w + 5 ≤ 8388608 → (∀ j < 5, sget (dflt 0) s.mem.tpmErr (w + j) = 0) →
     tb.toNat % 8 = 0 → 0x100000000 ≤ tb.toNat → tb.toNat ≤ 0x103FFFFFF → sget (dflt 0) s.mem.tpmErr ((tb.toNat - 0x100000000) / 8) = 0 →
     s.tagBad c [a.tag] = none →
     (∀ v : TimVar,
       let st := (x 3).data
       let inp := if 2 ≤ tagQ a.tag then st.getLsbD 1 else a.data.getLsbD 0
       let dt := if !st.getLsbD 4 || decide (tt.data.toNat < (x 2).data.toNat) then 0 else tt.data.toNat - (x 2).data.toNat
       let r := timStep v inp (st.getLsbD 1) (st.getLsbD 0) (st.getLsbD 2) (x 0).data.toNat (x 1).data.toNat dt
       Completes (.tim c rd ra n v) s fun t =>
         (rd ≠ 0 → t.greg c.val rd.val = { data := if r.2.1 then 1 else 0, tag := resultTag [a.tag, (x 0).tag, tt.tag] false }) ∧
         t.tpmAt (w + 1) = { data := BitVec.ofNat 64 r.1, tag := 0 } ∧ t.tpmAt (w + 2) = { data := tt.data, tag := 0 } ∧
         (t.tpmAt (w + 3)).data.getLsbD 0 = r.2.1 ∧ (t.tpmAt (w + 3)).data.getLsbD 1 = inp ∧
         (t.tpmAt (w + 3)).data.getLsbD 2 = r.2.2 ∧ (t.tpmAt (w + 3)).data.getLsbD 4 = true ∧
         (∀ i, (i < w + 1 ∨ w + 4 ≤ i) → t.tpmAt i = s.tpmAt i)) ∧
     (let r : W64 × Nat × Bool × Bool :=
        if 2 ≤ tagQ a.tag ∨ dNan a.data = true then ((x 0).data, 0, false, false)
        else if (x 4).data.getLsbD 0 = false then (a.data, 0, false, false)
        else rampStep a.data (x 0).data (x 1).data (x 2).data (tt.data.toNat - (x 3).data.toNat)
      let tag := failTag (resultTag [a.tag, (x 1).tag, (x 2).tag, tt.tag] r.2.2.1) r.2.2.2
      r.2.1 &&& s.fld (coreKey c.val 0x12C) 0 5 = 0 →
       Completes (.rmp c rd ra n) s fun t =>
         (rd ≠ 0 → t.greg c.val rd.val = { data := r.1, tag := tag }) ∧ t.tpmAt w = { data := r.1, tag := tag } ∧
         t.tpmAt (w + 3) = { data := tt.data, tag := 0 } ∧ t.tpmAt (w + 4) = { data := 1, tag := 0 } ∧
         (∀ i, (i < w ∨ w + 5 ≤ i ∨ i = w + 1 ∨ i = w + 2) → t.tpmAt i = s.tpmAt i)))

/-- The loop-engine instructions of a core that is ready (R187, R188, R224) issue their command: it joins the core's queue with its
address, and LX_ISSUED counts it. LX_COMMAND_ACCEPT then carries out the oldest, at the core's turn: an LXR of a word delivers it, and
LX_DONE counts it. Forms that answer a next state here: lxw, lxr, lxf, lxCommandAccept. -/
def Obligations.LoopCommandsAreQueuedAndCarriedOut : Prop :=
  ∀ (s : State) (c : CoreId),
    let k := coreKey c.val
    (∀ (rd rb : GReg) (disp : BitVec 16) (opt : BitVec 2), s.ready c = true →
      let a := s.memAddr c rb disp
      let issued := fun (x : LxCmd) (t : State) =>
        (t.core c.val).lxq = [x] ∧ t.fld (k 0x304) 0 32 = (s.fld (k 0x304) 0 32 + 1) % 2 ^ 32 ∧ (t.liveCore c.val 0x300).map (fun v => fieldOf v 0 5) = some 1 ∧
          (t.core c.val).pc = s.pcNext c ∧ KeepsMemory s t ∧ KeepsLoops s t
      Completes (.lxw c rd rb disp) s (issued (.write a (s.greg c.val rd.val))) ∧
      Completes (.lxr c rd rb disp) s (issued (.read a rd)) ∧
      Completes (.lxf c opt rb disp) s (issued (.fix a opt))) ∧
    (∀ (a : W64) (d : GReg) (l : List LxCmd), (s.core c.val).lxq = .read a d :: l → s.lxTurn = some c.val → d ≠ 0 →
      0x20000000 ≤ a.toNat → a.toNat ≤ 0x200FFFFF → s.isolated 0x040 = false →
      Completes (.lxCommandAccept c) s fun t =>
        (t.core c.val).lxq = l ∧ t.greg c.val d.val = s.landed ((a.toNat - 0x20000000) / 0x800) (a.toNat % 0x800 / 8) ∧
          t.fld (k 0x308) 0 32 = (s.fld (k 0x308) 0 32 + 1) % 2 ^ 32 ∧ KeepsLoops s t)

/-- The core watchdog and the task budget (R182, R183): the first expiry sets STAGE 1, reloads the count and raises WDOG; the second
resets the core; a budget that expires is shown as 0 and raises OVERRUN. While an exception is being handled, the exceptions wait. Forms
that answer a next state here: taskBudgetExpiry, coreWatchdogFirstExpiry, coreWatchdogReset. -/
def Obligations.CoreWatchdogAndBudgetExpire : Prop :=
  ∀ (s : State) (c : CoreId), s.excActive c.val = true →
    let k := coreKey c.val
    (s.cwdgStage c.val = some 0 → Completes (.coreWatchdogFirstExpiry c) s fun t =>
      t.fld (k 0x138) 0 2 = 1 ∧ t.fld (k 0x138) 16 16 = s.fld (k 0x130) 0 16 ∧ (t.core c.val).wdogPend = true) ∧
    (s.cwdgStage c.val = some 1 → Completes (.coreWatchdogReset c) s fun t => (t.core c.val).inReset = true) ∧
    (s.coreRuns c.val = true → s.reg (k 0x140) ≠ 0 → Completes (.taskBudgetExpiry c) s fun t =>
      t.reg (k 0x140) = 0 ∧ (t.core c.val).overrunPend = true ∧ KeepsMemory s t)

/-- The logic feeds and the hold-up bus (R66, R70, R92, R93): a comparator or the clamp puts a feed in LOST, its tag then 0x88; MONFAULT
has tag 0x98, LOW and HIGH 0x48, OK 0x00; a change sets the feed's event and is logged. A hold-up time below 20 ms sets HOLDUP_SHORT
(R71). Brown-out (R67, R68, R134): with both feeds lost BROWNOUT is shown, logged and its event set; a feed back before BOR withdraws it.
An ACTIVE module with a ready peer plans a switch-over when it is declared, and the runtime begins a retain record, unless one is under
way. Forms that answer a next state here: feedLost, feedRecovered, overvoltageDisconnect, overvoltageReconnect, feedMonitorChange,
feedMonfault, brownoutDeclared, brownoutWithdrawn, holdupMeasurement. -/
def Obligations.FeedsAndBrownOut : Prop :=
  (∀ (s : State) (f : Feed),
     let n := feedNum f
     let was := s.fld Reg.PWR_SUP_STAT (3 * n) 3
     let lit := fun (code tag : Nat) (t : State) =>
       t.fld Reg.PWR_SUP_STAT (3 * n) 3 = code ∧ t.fld (Reg.PWR_LSA_MON + 4 * n) 24 8 = tag ∧
         (was ≠ code → t.flag Reg.PWR_SUP_EVT n = true) ∧ KeepsPages [0, 3] s t ∧ KeepsRest s t
     let band : BandState → Nat × Nat := fun b => match b with
       | .ok => (0, 0x00)
       | .low => (1, 0x48)
       | .high => (3, 0x48)
     let free := if (s.feed f).monFault then (4, 0x98) else band (s.feed f).band
     Completes (.feedLost f) s (lit 2 0x88) ∧
     Completes (.overvoltageDisconnect f) s (lit 2 0x88) ∧
     ((s.feed f).clamped = false → Completes (.feedRecovered f) s (lit free.1 free.2)) ∧
     ((s.feed f).tripped = false → Completes (.overvoltageReconnect f) s (lit free.1 free.2)) ∧
     ((s.feed f).lost = false →
       (∀ (b : BandState) (mv : BitVec 16), Completes (.feedMonitorChange (match f with | .lsA => .lsA | .lsB => .lsB) b mv) s fun t =>
         lit (band b).1 (band b).2 t ∧ t.fld (Reg.PWR_LSA_MON + 4 * n) 0 16 = mv.toNat) ∧
       Completes (.feedMonfault (match f with | .lsA => .lsA | .lsB => .lsB)) s (lit 4 0x98)) ∧
     (∀ (b : BandState) (mv : BitVec 16), s.pwr.hold.lost = false → Completes (.feedMonitorChange .hold b mv) s fun t =>
       t.fld Reg.PWR_HOLD_MON 24 8 = (band b).2 ∧ t.fld Reg.PWR_HOLD_MON 0 16 = mv.toNat ∧ KeepsPages [3] s t ∧ KeepsRest s t) ∧
     (∀ tenths : BitVec 16, Completes (.holdupMeasurement tenths) s fun t =>
       t.fld Reg.PWR_HOLDUP_MEAS 0 16 = tenths.toNat ∧ t.flag Reg.PWR_SUP_STAT 9 = decide (tenths.toNat < 200) ∧
         (tenths.toNat < 200 → t.flag Reg.PWR_SUP_EVT 3 = true ∧ (s.logOpen = true → t.shows 0x003 0xFFF 0x07 = true)) ∧
         KeepsPages [0, 3] s t ∧ KeepsRest s t)) ∧
  (∀ s : State,
     (s.bothLost = true → s.flag Reg.PWR_SUP_STAT 8 = false → Completes .brownoutDeclared s fun t =>
       t.flag Reg.PWR_SUP_STAT 8 = true ∧ t.flag Reg.PWR_SUP_EVT 2 = true ∧ (s.logOpen = true → t.shows 0x003 0xFFF 0x05 = true) ∧
         (s.peerReady = true → s.pair.peerBrownout = false → s.pair.sched = none → s.pair.withdraw = false →
           t.pair.sched = some (s.boundaryAfter 5000, .given)) ∧
         t.pwr.brownAt = some s.time.ltb ∧
         (s.boot.retain = none → s.phase = 6 → (∃ k < 32, (s.desc k).cls ≠ .unused ∧ (s.task k).active = true) → t.boot.retain.isSome = true) ∧
         (∀ w, t.tpmAt w = s.tpmAt w ∧ t.pmByte w = s.pmByte w) ∧ KeepsCores s t ∧ KeepsLoops s t ∧ KeepsGroups s t) ∧
     (∀ f : Feed, s.flag Reg.PWR_SUP_STAT 8 = true → (s.feed f).lost = false → Completes (.brownoutWithdrawn f) s fun t =>
       t.flag Reg.PWR_SUP_STAT 8 = false ∧ t.flag Reg.PWR_SUP_EVT 2 = true ∧ (s.logOpen = true → t.shows 0x003 0xFFF 0x06 = true) ∧
         KeepsPages [0, 3] s t ∧ KeepsRest s t))

/-- Power domains (R79, R81 to R87, R90, R92): an accepted request of a logic domain starts its rise or its drain, is held through a
transition, or is denied for the budget with DENY_CAUSE 2, which BUDGET 0 does for every on-request; the end of a transition is shown; a
field domain's request is held for the FGC, in twin sync from its boundary on, and a timeout shows TMO. BUDGET stores at most 0x118. Forms
that answer a next state here: domainOnRequest, domainOffRequest, domainForcedOff, domainOffComplete, domainOnComplete,
fieldDomainTimeout, budgetWrite. -/
def Obligations.PowerDomainsSwitch : Prop :=
  ∀ (s : State) (w : Writer) (page : Nat) (domain : Fin 80),
    let d := pageDomain page
    let budget := s.fld Reg.PWR_BUDGET 0 12
    let fits := budget != 0 && (s.charged d || decide (s.loadEst + domainFigure d ≤ budget))
    (s.admits w page Reg.PWR_REQ = true →
      (fieldDomain d = false → [0, 1, 20, 21, 79].contains d = false →
        (s.domState d = 0 → fits = true → Completes (.domainOnRequest w page) s fun t => t.domState d = 1 ∧ KeepsRest s t) ∧
        (s.domState d = 0 → fits = false → Completes (.domainOnRequest w page) s fun t =>
          t.domState d = 0 ∧ t.flag (rk page Reg.PWR_REQ) 8 = true ∧ t.fld (rk page Reg.PWR_REQ) 10 3 = 2 ∧ KeepsRest s t) ∧
        (s.domState d = 3 → fits = true → Completes (.domainOnRequest w page) s fun t =>
          t.domState d = 3 ∧ sget (dflt 0) t.pwr.held d = 1 ∧ KeepsRest s t) ∧
        (s.domState d = 2 → s.offDenied w.master d = 0 → Completes (.domainOffRequest w page) s fun t => t.domState d = 3) ∧
        (s.domState d = 2 → s.offDenied w.master d = 0 → Completes (.domainForcedOff w page) s fun t =>
          t.domState d = 3 ∧ t.pwr.onWire.contains d = false)) ∧
      (fieldDomain d = true → s.domainWaits w.master page = true →
        Completes (.domainOffRequest w page) s fun t =>
          t.pair.domReq = s.pair.domReq ++ [(s.boundaryAfter 1250, page, 2)] ∧ t.pwr.fieldReq = s.pwr.fieldReq ∧ t.domState d = s.domState d) ∧
      (fieldDomain d = true → s.domainWaits w.master page = false →
        (s.domState d ≠ 2 → fits = true → Completes (.domainOnRequest w page) s fun t =>
          sget (dflt 0) t.pwr.fieldReq d = 1 ∧ t.domState d = s.domState d) ∧
        (s.domState d ≠ 0 → Completes (.domainOffRequest w page) s fun t =>
          sget (dflt 0) t.pwr.fieldReq d = 2 ∧ t.domState d = s.domState d))) ∧
    (fieldDomain domain.val = false → [0, 1, 20, 21, 79].contains domain.val = false → sget (dflt 0) s.pwr.held domain.val = 0 →
      (s.domState domain.val = 3 → Completes (.domainOffComplete domain) s fun t => t.domState domain.val = 0) ∧
      (s.domState domain.val = 1 → Completes (.domainOnComplete domain) s fun t => t.domState domain.val = 2)) ∧
    (fieldDomain domain.val = true → sget (dflt 0) s.pwr.fieldReq domain.val ≠ 0 → Completes (.fieldDomainTimeout domain) s fun t =>
      (∀ p ∈ domainPages domain.val, t.flag (rk p Reg.PWR_REQ) 9 = true) ∧ KeepsRest s t) ∧
    (∀ value : W32, s.admits w 0x003 0x118 = true → s.locked 0x003 = false → Completes (.budgetWrite w value) s fun t =>
      t.fld Reg.PWR_BUDGET 0 12 = min (fieldOf value 0 12) 0x118 ∧ t.fld Reg.PWR_LOAD_EST 0 12 = s.loadEst % 4096 ∧
        t.flag Reg.PWR_SUP_STAT 10 = decide (t.fld Reg.PWR_BUDGET 0 12 < s.loadEst) ∧ KeepsPages [0, 3] s t ∧ KeepsRest s t)

/-- Every source of a whole-logic reset (R67, R98 to R102, R105, R106, R108, R627): the reset is asserted and CAUSE takes the source's
flag; the cores and the time base are at reset values; MRAM is kept by all, TPM by all but POR and BOR, program memory by all but POR, BOR
and CLKFAIL, outside the lines that the caches had not written back. A source that comes while the reset is asserted sets its flag as
well. A clock window in range is shown, and one out of range sets FREQ_ERR and its event (R98, R101). A cause that ends, ten windows in
range, the PLL and the run of clock failures move the release on; the reset's own record is the first once MRAM is released (R69, R98,
R100, R102, R111, R112, R162). Forms that answer a next state here: holdupBackstop, bor, borRelease, clockMonitorWindow, referenceTimeout,
pllLockLost, pllLockTimeout, pllLocked, clkfailRunClear, por, pinReset, resetRelease, dramInitComplete, systemWatchdogExpiry, swreq,
dbgreq. -/
def Obligations.ResetsAreAssertedAndReleased : Prop :=
  (∀ (s : State),
     let down := fun (src : Nat) (t : State) =>
       t.rst.phase = .asserted ∧ t.flag Reg.RST_CAUSE src = true ∧ (∀ c, t.core c = {}) ∧ t.time.ltb = 0 ∧
         (∀ a, t.mramByte a = s.mramByte a) ∧ (2 ≤ src → ∀ w, t.tpmAt w = s.tpmAt w) ∧
         ([2, 3, 4, 5].contains src = true → ∀ a, s.mem.dirty.contains (a / 64) = false → t.pmByte a = s.pmByte a) ∧
         (s.rst.phase ≠ .asserted → s.sound = true → t.fld Reg.RST_CAUSE 8 4 = src ∧
           t.fld Reg.RST_COUNT 16 16 = min (s.fld Reg.RST_COUNT 16 16 + 1) 0xFFFF)
     Completes .por s (down 0) ∧
     Completes .holdupBackstop s (down 1) ∧
     (s.flag Reg.PWR_SUP_STAT 8 = true → Completes .bor s (down 1)) ∧
     (s.rst.causes.contains 2 = false → s.unpowered = false → Completes (.pinReset true) s (down 2)) ∧
     (s.watchdogOn = true → s.fld Reg.DBG_RUNCTL 0 4 = 0 → s.fld Reg.RST_WDG_STAT 16 16 = 0 → Completes .systemWatchdogExpiry s (down 3)) ∧
     (∀ (w : Writer) (v : W32), s.admits w 0x002 0x110 = true → keyed v 0x5253 = true → v.getLsbD 0 = true →
       Completes (.swreq w v) s (down 4)) ∧
     (∀ (w : Writer) (v : W32), s.admits w 0x007 0x10C = true → keyed v 0x4452 = true → fieldOf v 0 3 = 7 → 2 ≤ s.debugLevel →
       Completes (.dbgreq w v) s (down 5)) ∧
     ((s.rst.phase ≠ .asserted ∨ s.rst.causes.contains 6 = false) →
       Completes .referenceTimeout s (down 6) ∧ Completes .pllLockLost s (down 6) ∧
       (∀ edges : BitVec 12, (edges.toNat < 2300 ∨ 2710 < edges.toNat) → s.rst.badWindow = true →
         Completes (.clockMonitorWindow edges) s (down 6)))) ∧
  (∀ (s : State),
     (∀ edges : BitVec 12, s.rst.phase = .running → 2300 ≤ edges.toNat → edges.toNat ≤ 2710 → Completes (.clockMonitorWindow edges) s fun t =>
       t.fld Reg.CLK_REF_CNT 0 12 = edges.toNat ∧ t.flag Reg.CLK_CLK_STAT 3 = false ∧ t.rst.badWindow = false ∧
         t.rst.goodWindows = min 10 (s.rst.goodWindows + 1) ∧ KeepsPages [1] s t ∧ KeepsRest s t) ∧
     (∀ edges : BitVec 12, s.rst.phase = .waitPll ∨ s.rst.phase = .asserted → 2300 ≤ edges.toNat → edges.toNat ≤ 2710 →
       Completes (.clockMonitorWindow edges) s fun t =>
         t.rst.goodWindows = min 10 (s.rst.goodWindows + 1) ∧ t.rst.causes.contains 6 = false ∧ t.regs = s.regs ∧ t.mem = s.mem) ∧
     (∀ edges : BitVec 12, s.rst.phase = .running → edges.toNat < 2300 ∨ 2710 < edges.toNat → s.rst.badWindow = false →
       Completes (.clockMonitorWindow edges) s fun t =>
       t.fld Reg.CLK_REF_CNT 0 12 = edges.toNat ∧ t.flag Reg.CLK_CLK_STAT 3 = true ∧ t.flag Reg.CLK_CLK_EVT 0 = true ∧ t.rst.badWindow = true ∧
         t.rst.goodWindows = 0 ∧ KeepsPages [0, 1] s t ∧ KeepsRest s t) ∧
     (∀ f : Feed, (s.feed f).lost = false → Completes (.borRelease f) s fun t =>
       t.rst.causes.contains 1 = false ∧ t.regs = s.regs ∧ t.mem = s.mem) ∧
     Completes (.pinReset false) s (fun t => t.rst.causes.contains 2 = false ∧ t.flag Reg.SYS_CT_IN0 2 = true ∧
       (∀ k, k ≠ Reg.SYS_CT_IN0 → t.reg k = s.reg k) ∧ t.mem = s.mem) ∧
     (∀ pins : ReleasePins, s.rst.phase = .asserted → s.rst.causes = [] → s.rst.cfStay = false → s.unpowered = false →
       Completes (.resetRelease pins) s fun t =>
         t.rst.phase = (if s.rst.cold then .waitPll else .sysReleased) ∧ t.fld Reg.SYS_CT_ID 0 2 = (pins.side.map (·.toNat)).getD 0 ∧
           t.fld Reg.SYS_CT_ID 6 1 = (pins.tmode.getD false).toNat ∧
           (s.flag Reg.OTP_PINMODE 0 = false → t.reg Reg.SYS_CT_IN1 = pins.ct1.setWidth 32) ∧
           (s.rst.cold = false → s.logOpen = true → t.shows 0x002 0xFFF (s.fld Reg.RST_CAUSE 8 4 + 1) = true) ∧ KeepsMemory s t) ∧
     (s.rst.phase = .waitPll → Completes .pllLockTimeout s (fun t => t.rst.phase = .waitPll ∧ t.regs = s.regs ∧ t.mem = s.mem) ∧
       (s.rst.goodWindows = 10 → Completes .pllLocked s (fun t =>
         t.rst.phase = .sysReleased ∧ t.rst.sinceKick = 0 ∧ t.flag (rk 0x021 Reg.STAT) 0 = false ∧
           (s.logOpen = true → t.shows 0x002 0xFFF (s.fld Reg.RST_CAUSE 8 4 + 1) = true) ∧ KeepsMemory s t))) ∧
     (s.rst.phase = .sysReleased → Completes .dramInitComplete s fun t =>
       t.rst.phase = .running ∧ t.flag (rk 0x021 Reg.STAT) 0 = true ∧ (t.core 0).pc = 0 ∧ (t.core 0).inReset = false ∧
         t.flag (coreKey 0 0x100) 0 = true ∧ KeepsMemory s t) ∧
     (s.rst.phase = .running → Completes .clkfailRunClear s fun t =>
       t.fld Reg.RST_COUNT 4 4 = 0 ∧ (∀ k, k ≠ Reg.RST_COUNT → t.reg k = s.reg k) ∧ KeepsRest s t))

/-- The system watchdog (R104, R105): the first kick word opens the window; the second in it restarts the countdown, or resets when it
comes before WIN, and does nothing while EN is 0 (that REMAIN then stays is the model's choice, assumption 124); any other word is
counted. Enabling it loads TIMEOUT, and below HALT it cannot be disabled. Core and block resets (R102, R106, R113, R115 to R117): a core
reset keeps the queue to the loop engine, and its release starts the core at its reset vector; a block reset closes the port, and its end
leaves EN 0 and the page locked. Forms that answer a next state here: systemWatchdogKick, wdgCtrlWrite, coreResetRequest,
coreResetRelease, blockReset, blockResetComplete, forcedBlockReset. -/
def Obligations.WatchdogCoreAndBlockResets : Prop :=
  (∀ (s : State) (w : Writer) (inWindow : Bool),
     let wdg := s.fld Reg.RST_WDG_CTRL 0 16
     (s.admits w 0x002 0x128 = true →
       Completes (.systemWatchdogKick w 0x0000A5C3 inWindow) s (fun t => t.rst.kickOpen = some s.time.ltb ∧ KeepsPages [2] s t ∧ KeepsRest s t) ∧
       (s.rst.kickOpen.isSome = true → s.flag Reg.RST_WDG_CTRL 16 = true →
         (s.fld Reg.RST_WDG_WIN 0 16 ≤ s.rst.sinceKick → Completes (.systemWatchdogKick w 0x00003C5A true) s fun t =>
           t.fld Reg.RST_WDG_STAT 16 16 = wdg ∧ t.rst.sinceKick = 0 ∧ t.rst.kickOpen = none ∧ KeepsPages [2] s t ∧ KeepsRest s t) ∧
         (s.rst.sinceKick < s.fld Reg.RST_WDG_WIN 0 16 → Completes (.systemWatchdogKick w 0x00003C5A true) s fun t =>
           t.rst.phase = .asserted ∧ t.flag Reg.RST_CAUSE 3 = true ∧ t.rst.early = true)) ∧
       (s.rst.kickOpen.isSome = true → s.flag Reg.RST_WDG_CTRL 16 = false → Completes (.systemWatchdogKick w 0x00003C5A true) s fun t =>
         t.rst.kickOpen = none ∧ t.reg Reg.RST_WDG_STAT = s.reg Reg.RST_WDG_STAT ∧ KeepsPages [2] s t ∧ KeepsRest s t) ∧
       (∀ value : W32, value ≠ 0x0000A5C3 → (value ≠ 0x00003C5A ∨ s.rst.kickOpen = none ∨ inWindow = false) →
         Completes (.systemWatchdogKick w value inWindow) s fun t =>
           t.rst.kickOpen = none ∧ t.fld Reg.RST_WDG_STAT 0 8 = min (s.fld Reg.RST_WDG_STAT 0 8 + 1) 255 ∧ KeepsPages [2] s t ∧ KeepsRest s t)) ∧
     (∀ value : W32, s.admits w 0x002 0x120 = true → s.locked 0x002 = false →
       (s.flag Reg.RST_WDG_CTRL 16 = false → value.getLsbD 16 = true → Completes (.wdgCtrlWrite w value) s fun t =>
         t.flag Reg.RST_WDG_CTRL 16 = true ∧ t.fld Reg.RST_WDG_CTRL 0 16 = max 1 (fieldOf value 0 16) ∧
           t.fld Reg.RST_WDG_STAT 16 16 = max 1 (fieldOf value 0 16) ∧ t.rst.sinceKick = 0 ∧ KeepsRest s t) ∧
       (s.flag Reg.RST_WDG_CTRL 16 = true → s.debugLevel < 2 → wdg ≠ 0 → fieldOf value 0 16 = wdg → Completes (.wdgCtrlWrite w value) s fun t =>
         t.flag Reg.RST_WDG_CTRL 16 = true ∧ KeepsRest s t))) ∧
  (∀ (s : State) (w : Writer) (c : Fin 4) (page : Nat),
     (s.admits w (ecorePage c.val) Reg.CTRL = true → (s.core c.val).inReset = false → (∀ k : CoreId, w.master = .core k → k ≠ c) →
       [Master.dmaA, .dmaB, .proof].contains w.master = false → Completes (.coreResetRequest w c) s fun t =>
         (t.core c.val).inReset = true ∧ (t.core c.val).lxq = (s.core c.val).lxq ∧ (t.core c.val).g = [] ∧
           t.flag (coreKey c.val Reg.CTRL) 1 = true ∧ t.reg64 (coreKey c.val 0x10C) = s.reg64 (coreKey c.val 0x10C) ∧
           (∀ d, d ≠ c.val → t.core d = s.core d) ∧ KeepsMemory s t) ∧
     ((s.core c.val).inReset = true → s.flag (coreKey c.val Reg.CTRL) 0 = true → Completes (.coreResetRelease c) s fun t =>
       (t.core c.val).inReset = false ∧ (t.core c.val).pc = s.reg64 (coreKey c.val 0x104) ∧ t.flag (coreKey c.val 0x100) 0 = true ∧
         t.flag (coreKey c.val Reg.CTRL) 1 = false ∧ KeepsPages [ecorePage c.val] s t ∧ KeepsMemory s t) ∧
     (s.admits w page Reg.CTRL = true → s.blockResetDenied page = false → (page < 0x010 ∨ 0x013 < page) → s.flag (rk page Reg.CTRL) 1 = false →
         Completes (.blockReset w page) s fun t => t.flag (rk page Reg.CTRL) 1 = true ∧ t.flag (rk page Reg.STAT) 0 = false) ∧
     ((pageInfo page).isSome = true → (page < 0x010 ∨ 0x013 < page) → s.flag (rk page Reg.CTRL) 1 = true →
       Completes (.blockResetComplete page) s fun t =>
         t.flag (rk page Reg.CTRL) 0 = false ∧ t.flag (rk page Reg.CTRL) 1 = false ∧ t.locked page = true ∧
           t.flag (rk page Reg.STAT) 0 = false ∧ t.rst.forced.contains page = false) ∧
     (∀ value : W32, s.admits w 0x002 0x114 = true → keyed value 0x4652 = true → fieldOf value 0 10 = page → (pageInfo page).isSome = true →
       s.blockResetDenied page = false → (page < 0x010 ∨ 0x013 < page) → s.domState (pageDomain page) = 2 →
         Completes (.forcedBlockReset w value) s fun t => t.flag (rk page Reg.CTRL) 1 = true ∧ t.rst.forced.contains page = true))

/-- A register write passes the gate before it takes effect (R141, R144, R145, R157, R193, R621): an access that is refused gets its
response and changes nothing else; a tag that TAG_CFG refuses gets ERR_TAG, is counted in REFUSED and logged. An accepted write of IRQ_EN
stores the bits that have an IRQ_RAW bit, and one of IRQ_PEND clears the bits that are 1 and whose condition has gone. Forms that answer a
next state here: registerWrite. -/
def Obligations.RegisterWritesPassTheGate : Prop :=
  ∀ (s : State) (w : Writer) (page off : Nat) (value : W32), (page < 0x010 ∨ 0x013 < page) →
    (s.gate w.master page off ≠ .okay → Completes (.registerWrite w page off value) s fun t =>
      t.bus.resp = s.gate w.master page off ∧ t.regs = s.regs ∧ t.log = s.log ∧ KeepsRest s t) ∧
    (s.gate w.master page off = .okay → s.tagRefused page off (writeTag w) = true → Completes (.registerWrite w page off value) s fun t =>
      t.bus.resp = .errTag ∧ t.fld (rk page Reg.LOCK) 8 8 = min (s.fld (rk page Reg.LOCK) 8 8 + 1) 255 ∧
        (s.logOpen = true → t.shows page 0xFFF 0xF2 = true) ∧ (∀ k, k / 4096 ≠ page → k / 4096 ≠ 0 → t.reg k = s.reg k) ∧ KeepsRest s t) ∧
    (s.admits w page Reg.IRQ_EN = true → Completes (.registerWrite w page Reg.IRQ_EN value) s fun t =>
      t.bus.resp = .okay ∧ t.reg (rk page Reg.IRQ_EN) = value &&& irqBits (pageBlock page) ∧ t.fld (rk page Reg.WSEQ) 0 32 = (s.fld (rk page Reg.WSEQ) 0 32 + 1) % 2 ^ 32 ∧
        KeepsPages [page] s t ∧ KeepsRest s t) ∧
    (s.admits w page Reg.IRQ_PEND = true → Completes (.registerWrite w page Reg.IRQ_PEND value) s fun t =>
      t.reg (rk page Reg.IRQ_PEND) =
          (s.reg (rk page Reg.IRQ_PEND) &&& ~~~ value) ||| (s.irqRaw page &&& s.reg (rk page Reg.IRQ_EN)) ∧
        KeepsPages [page] s t ∧ KeepsRest s t)

/-- The lock of a page (R151, R152): the first word arms it; the second word, of the master that armed it, unlocks; any other word, a
timeout, or a write to the unlocked page leaves it locked. A write that a locked page refuses is counted and logged, and changes no field
(R153). Forms that answer a next state here: lockArm, lockUnlock, lockRelock, lockArmTimeout, registerWrite. -/
def Obligations.LocksArmUnlockAndRelock : Prop :=
  ∀ (s : State) (w : Writer) (page : Nat) (value : W32),
    let st := fun (t : State) => t.fld (rk page Reg.LOCK) 0 2
    let rest := fun (t : State) => KeepsPages [0, page] s t ∧ KeepsRest s t
    (s.admits w page Reg.LOCK = true →
      (st s = 0 → Completes (.lockArm w page) s fun t =>
        st t = 1 ∧ (sget (dflt none) t.carrier.armed page).map (·.master) = some w.master.num ∧ t.locked page = true ∧ rest t) ∧
      (st s = 1 → (sget (dflt none) s.carrier.armed page).map (·.master) = some w.master.num →
        Completes (.lockUnlock w page 0x0000ED0C) s fun t => st t = 2 ∧ t.locked page = false ∧ rest t) ∧
      (st s = 1 → value ≠ 0x0000ED0C → Completes (.lockUnlock w page value) s fun t =>
        st t = 0 ∧ t.locked page = true ∧ (s.logOpen = true → t.shows page 0xFFF 0xF0 = true) ∧ rest t) ∧
      (st s = 2 → Completes (.lockRelock w page value) s fun t => st t = 0 ∧ t.locked page = true ∧ rest t)) ∧
    ((sget (dflt none) s.carrier.armed page).isSome = true → Completes (.lockArmTimeout page) s fun t =>
      st t = 0 ∧ t.locked page = true ∧ (s.logOpen = true → t.shows page 0xFFF 0xF0 = true) ∧ rest t) ∧
    (s.admits w 0x000 0x308 = true → s.locked 0x000 = true → fieldOf value 0 8 ≤ 4 → fieldOf (value ^^^ s.reg Reg.SYS_EVLOG_CTRL) 0 8 ≠ 0 →
      Completes (.registerWrite w 0x000 0x308 value) s fun t =>
        t.reg Reg.SYS_EVLOG_CTRL = s.reg Reg.SYS_EVLOG_CTRL ∧
          t.fld (rk 0x000 Reg.LOCK) 8 8 = min (s.fld (rk 0x000 Reg.LOCK) 8 8 + 1) 255 ∧
          (s.logOpen = true → t.shows 0x000 0xFFF 0xF1 = true))

/-- CTRL and FAULT_CAUSE of a page, and the registers of a core that act (R147, R150, R167, R181, R182): EN and FREEZE take the written
value (but EN 0 on a page that is always on), a frozen register keeps what it showed, CLR clears the fault, the kick reloads the core
watchdog, IINV empties the instruction cache. Forms that answer a next state here: faultCauseClear, blockEnable, freezeWrite,
coreWatchdogKick, cwdgCtrlWrite, icacheInvalidate, excActiveClear. -/
def Obligations.CommonRegistersAct : Prop :=
  ∀ (s : State) (w : Writer) (page : Nat) (c : CoreId) (value : W32),
    let k := coreKey c.val
    (s.admits w page Reg.CTRL = true → (alwaysOn page = false ∨ page = 0x0D1 ∨ value.getLsbD 0 = true) → value.getLsbD 1 = false → pageBlock page ≠ 0xE0 →
      Completes (.blockEnable w page value) s fun t => t.flag (rk page Reg.CTRL) 0 = value.getLsbD 0) ∧
    (s.admits w page Reg.CTRL = true → value.getLsbD 1 = false → value.getLsbD 0 = s.flag (rk page Reg.CTRL) 0 → value.getLsbD 2 = true →
      s.flag (rk page Reg.CTRL) 2 = false → Completes (.freezeWrite w page value) s fun t =>
        t.flag (rk page Reg.CTRL) 2 = true ∧
          ∀ off ∈ frozenOffsets (pageBlock page), sget (dflt none) t.frozen (rk page off) = some (s.reg (rk page off))) ∧
    (s.admits w page Reg.FAULT_CAUSE = true → value.getLsbD 31 = true → Completes (.faultCauseClear w page value) s fun t =>
      t.fld (rk page Reg.FAULT_CAUSE) 0 16 = 0 ∧ t.flag (rk page Reg.STAT) 2 = false ∧ KeepsPages [page] s t ∧ KeepsRest s t) ∧
    (s.admits w (ecorePage c.val) 0x134 = true → w.master = .core c → Completes (.coreWatchdogKick w c 0x0000A55A) s fun t =>
      t.fld (k 0x138) 16 16 = s.fld (k 0x130) 0 16 ∧ t.fld (k 0x138) 0 2 = 0 ∧ KeepsPages [ecorePage c.val] s t ∧ KeepsRest s t) ∧
    (s.admits w (ecorePage c.val) 0x130 = true → s.locked (ecorePage c.val) = false → s.flag (k 0x130) 16 = false → value.getLsbD 16 = true →
      Completes (.cwdgCtrlWrite w c value) s fun t =>
        t.flag (k 0x130) 16 = true ∧ t.fld (k 0x130) 0 16 = max 1 (fieldOf value 0 16) ∧ t.fld (k 0x138) 16 16 = max 1 (fieldOf value 0 16) ∧
          t.fld (k 0x138) 0 2 = 0 ∧ KeepsPages [ecorePage c.val] s t ∧ KeepsRest s t) ∧
    (s.admits w (ecorePage c.val) 0x150 = true → value.getLsbD 0 = true → Completes (.icacheInvalidate w c value) s fun t =>
      (t.core c.val).stale = [] ∧ (∀ r, t.greg c.val r = s.greg c.val r) ∧ KeepsPages [ecorePage c.val] s t ∧ KeepsMemory s t) ∧
    (s.admits w (ecorePage c.val) 0x100 = true → value.getLsbD 3 = true → (s.core c.val).wdogPend = false → (s.core c.val).overrunPend = false →
      Completes (.excActiveClear w c value) s fun t =>
        t.excActive c.val = false ∧ t.intsOn c.val = value.getLsbD 4 ∧ KeepsPages [ecorePage c.val] s t ∧ KeepsRest s t)

/-- The carrier interface (R34 to R54): the identification record is shown or its fault is, the temperature with its tag (BAD after three
failures, but still ABSENT before a first reading), alerts, seats and pins as they change, and the claim line as its pulse width codes it.
Forms that answer a next state here: cidRecordRead, cidTransactionTimeout, carrierTempRead, cidAlert, sideChange, presenceLost,
peerSeatedChange, claimLinePeriod, claimLineDead, gpInputChange. -/
def Obligations.CarrierPinsAreFollowed : Prop :=
  ∀ (s : State),
    (∀ rec : List Byte, recordOk rec = true → Completes (.cidRecordRead rec) s fun t =>
      t.flag Reg.SYS_CT_ID 7 = true ∧ t.fld Reg.SYS_CT_ID 8 8 = byteAt rec 1 ∧ t.carrier.cidFails = 0 ∧
        (recordDisagrees s.side (byteAt rec 1) (byteAt rec 2) = true → t.carrier.mismatch = true ∧ t.flag Reg.SYS_CT_EVT 5 = true ∧
          (s.role ≠ 0 → t.role = 5)) ∧ KeepsRest s t) ∧
    (∀ rec : List Byte, recordOk rec = false → Completes (.cidRecordRead rec) s fun t =>
      t.flag Reg.SYS_CT_EVT 6 = true ∧ t.fld Reg.SYS_CT_ID 8 8 = s.fld Reg.SYS_CT_ID 8 8 ∧ KeepsPages [0] s t ∧ KeepsRest s t) ∧
    (∀ what : CidTarget, Completes (.cidTransactionTimeout what) s fun t =>
      t.flag Reg.SYS_CT_EVT 3 = true ∧ (what = .sensor → 2 ≤ s.carrier.tempFails → s.fld Reg.SYS_CT_TEMP 24 8 ≠ 0xD8 → t.fld Reg.SYS_CT_TEMP 24 8 = 0x98) ∧
        (what = .sensor → s.fld Reg.SYS_CT_TEMP 24 8 = 0xD8 → t.fld Reg.SYS_CT_TEMP 24 8 = 0xD8) ∧
        (∀ n, what = .record n → s.carrier.cidTrans = n → s.carrier.cidFails = 2 → t.flag Reg.SYS_CT_EVT 6 = true) ∧ KeepsPages [0] s t ∧ KeepsRest s t) ∧
    (∀ value : BitVec 12, Completes (.carrierTempRead value) s fun t =>
      t.fld Reg.SYS_CT_TEMP 0 12 = value.toNat ∧
        t.fld Reg.SYS_CT_TEMP 24 8 = (if value.toInt < -720 ∨ 1760 < value.toInt then 0x88 else 0) ∧
        (value.toInt < 1280 → t.flag Reg.SYS_CT_IN0 10 = true) ∧ KeepsPages [0] s t ∧ KeepsRest s t) ∧
    Completes .cidAlert s (fun t =>
      t.flag Reg.SYS_CT_IN0 10 = false ∧ t.flag Reg.SYS_CT_EVT 4 = true ∧ KeepsPages [0] s t ∧ KeepsRest s t) ∧
    (∀ side : BitVec 2, s.fld Reg.SYS_CT_IN0 0 2 ≠ side.toNat → Completes (.sideChange side) s fun t =>
      t.fld Reg.SYS_CT_IN0 0 2 = side.toNat ∧ t.flag Reg.SYS_CT_EVT 0 = true ∧ t.side = s.side ∧ KeepsPages [0] s t ∧ KeepsRest s t) ∧
    (s.rst.phase = .running → s.flag Reg.SYS_CT_ID 4 = true → Completes .presenceLost s fun t =>
      t.flag Reg.SYS_CT_ID 4 = false ∧ t.flag Reg.SYS_CT_IN0 6 = true ∧ t.flag Reg.SYS_CT_EVT 1 = true ∧ t.pair.withdraw = true ∧
        KeepsPages [0] s t ∧ KeepsRest s t) ∧
    (∀ seated : Bool, s.flag Reg.SYS_CT_ID 5 ≠ seated → Completes (.peerSeatedChange seated) s fun t =>
      t.flag Reg.SYS_CT_ID 5 = seated ∧ t.flag Reg.SYS_CT_IN0 7 = !seated ∧ t.flag Reg.SYS_CT_EVT 2 = true ∧ KeepsPages [0] s t ∧ KeepsRest s t) ∧
    (∀ period high : Nat, 800 ≤ period → period ≤ 1200 → (650 ≤ high ∧ high ≤ 850 ∨ 150 ≤ high ∧ high ≤ 350) →
      Completes (.claimLinePeriod period high) s fun t =>
        t.fld Reg.CLAIM_PEER 18 2 = (if 650 ≤ high then 1 else 2) ∧ t.carrier.clmiBad = 0 ∧ KeepsPages [0, 0x0D1] s t ∧ KeepsRest s t) ∧
    Completes .claimLineDead s (fun t => t.fld Reg.CLAIM_PEER 18 2 = 0 ∧ KeepsPages [0, 0x0D1] s t ∧ KeepsRest s t) ∧
    (∀ (pin : Fin 24) (level : Bool), Completes (.gpInputChange pin level) s fun t =>
      (if pin.val < 16 then t.flag Reg.SYS_CT_IN0 (16 + pin.val) else t.flag Reg.SYS_CT_IN1 (pin.val - 16)) = level ∧
        KeepsPages [0] s t ∧ KeepsRest s t)

/-- The event log (R158 to R164): the oldest record goes to slot NEXT of the ring, least significant byte first, and NEXT advances; a
software post enters the queue with its writer's staged data and severity; a read of LFI_LO latches the reading master's copy of LFI_HI
(R255). Forms that answer a next state here: loggerRecordWrite, eventPost, lfiLoRead. -/
def Obligations.EventsAreLoggedAndPosted : Prop :=
  ∀ (s : State),
    (∀ (r : LogRec) (l : List LogRec), s.log.queue = r :: l → s.log.drops = 0 → Completes .loggerRecordWrite s fun t =>
      t.log.queue = l ∧ t.fld Reg.SYS_EVLOG_HEAD 0 15 = (s.fld Reg.SYS_EVLOG_HEAD 0 15 + 1) % 32768 ∧
        (∀ i < 32, t.mramByte (slotOffset (s.fld Reg.SYS_EVLOG_HEAD 0 15) + i) = ((recordBytes r)[i]?).getD 0) ∧
        t.mramNat 0 4 = (t.reg Reg.SYS_EVLOG_HEAD).toNat ∧ KeepsPages [0] s t ∧ KeepsCores s t ∧ KeepsLoops s t ∧ KeepsGroups s t) ∧
    (∀ (w : Writer) (code : W32), s.admits w 0x000 0x31C = true → 0x800 ≤ fieldOf code 20 12 → fieldOf code 0 8 ≠ 0 → s.logOpen = true →
      Completes (.eventPost w code) s fun t =>
        ∃ r, t.log.queue = s.log.queue ++ [r] ∧ r.code = code ∧ r.sev = BitVec.ofNat 8 (sget (dflt 0) s.log.psev w.master.num).toNat ∧
          r.data = ((sget (dflt 0) s.log.pdata1 w.master.num ++ sget (dflt 0) s.log.pdata0 w.master.num : BitVec 64) : W64) ∧ KeepsPages [0] s t ∧ KeepsRest s t) ∧
    (∀ m : Master, s.readGate m 0x000 0x400 = .okay → Completes (.lfiLoRead m) s fun t =>
      t.bus.resp = .okay ∧ t.bus.data = (s.reg Reg.SYS_LFI_LO).setWidth 64 ∧ t.regValue m 0x000 0x404 =
          ((sget (dflt none) s.frozen Reg.SYS_LFI_HI).getD (s.reg Reg.SYS_LFI_HI)) ∧ t.regs = s.regs ∧ KeepsRest s t)

/-- The scrubbers and the tag port (R175, R176, R195): a correctable error is corrected and counted; an uncorrectable one rewrites a TPM
word as 0 with tag 0xF8, and is counted; TAGW_DATA replaces a word's tag and keeps its data. Forms that answer a next state here:
tpmScrub, pmcScrub, tpmTagWrite. -/
def Obligations.MemoryErrorsAreTreated : Prop :=
  ∀ (s : State) (word : BitVec 23) (unit : BitVec 27) (found : EccFinding),
    let w := word.toNat
    let u := unit.toNat
    (s.fld Reg.TPMC_SCRUB 0 16 ≠ 0 → sget (dflt 0) s.mem.tpmErr w = 0 → Completes (.tpmScrub word found) s fun t =>
      t.tpmAt w = (if found = .uncorrectable then { data := 0, tag := 0xF8 } else s.tpmAt w) ∧ sget (dflt 0) t.mem.tpmErr w = 0 ∧
        t.fld Reg.TPMC_CE_CNT 0 16 = min (s.fld Reg.TPMC_CE_CNT 0 16 + (if found = .correctable then 1 else 0)) 0xFFFF ∧
        t.fld Reg.TPMC_UE_CNT 0 16 = min (s.fld Reg.TPMC_UE_CNT 0 16 + (if found = .uncorrectable then 1 else 0)) 0xFFFF ∧
        (found ≠ .clean → t.fld Reg.TPMC_ERR_ADDR 0 23 = w) ∧ (∀ x, x ≠ w → t.tpmAt x = s.tpmAt x) ∧ KeepsPages [0, 0x020] s t) ∧
    (s.fld Reg.PMC_SCRUB 0 16 ≠ 0 → sget (dflt 0) s.mem.pmErr u = 0 → Completes (.pmcScrub unit found) s fun t =>
      t.fld Reg.PMC_CE_CNT 0 16 = min (s.fld Reg.PMC_CE_CNT 0 16 + (if found = .correctable then 1 else 0)) 0xFFFF ∧
        t.fld Reg.PMC_UE_CNT 0 16 = min (s.fld Reg.PMC_UE_CNT 0 16 + (if found = .uncorrectable then 1 else 0)) 0xFFFF ∧
        (found ≠ .clean → t.fld Reg.PMC_ERR_ADDR 0 27 = u) ∧ KeepsMemory s t ∧ KeepsPages [0, 0x021] s t) ∧
    (∀ (wr : Writer) (value : W32), s.admits wr 0x020 0x11C = true → Completes (.tpmTagWrite wr value) s fun t =>
      let a := s.fld Reg.TPMC_TAGW_ADDR 0 23
      t.tpmAt a = { data := (s.tpmAt a).data, tag := value.setWidth 8 } ∧ (∀ x, x ≠ a → t.tpmAt x = s.tpmAt x) ∧
        KeepsPages [0x020] s t ∧ KeepsCores s t)

/-- Start-up (R121 to R131): ROM_SCAN re-erases every incomplete sector and goes on to ROM_VERIFY, which starts the preferred good bank,
falls back to the other, or ends in BOOT_FAIL; RUNTIME_INIT clears TPM, with the reserved words of the frame buffers at 0 and tag 0x00
(R351), and waits for the role once its domains are ON and its blocks READY; a refused image stops the module. The role and the restart
(R126 to R131, R252): the module takes the role that R126 gives, with KIND of its restart; the peer wait's end makes it ACTIVE alone; once
the state is restored tasks and loops start at the next boundary. Forms that answer a next state here: romScan, romVerify, runtimeInit,
roleDecision, peerWaitExpiry, mramRestoreComplete. -/
def Obligations.StartUpGoesOnToItsRole : Prop :=
  (∀ (s : State), s.rst.phase = .running →
     (s.phase = 0 → (s.flag Reg.SEC_LCSTATE 3 = false ∨ 3 ≤ s.lifecycle) →
       Completes .romScan s fun t =>
         (if s.rst.production then t.phase = 0 ∧ t.fld Reg.DBG_DLEVEL 0 2 = 3 else t.phase = 1) ∧
           t.fld Reg.SYS_BOOT_STAT 18 2 = min 3 s.badSectors.length ∧ (∀ sec ∈ s.badSectors, t.norMarker sec = norErased) ∧
           (∀ w, t.tpmAt w = s.tpmAt w) ∧ KeepsCores s t) ∧
     (∀ a b : BankCheck, s.phase = 1 →
       let first := if s.bankBFirst then 1 else 0
       let good := fun k => s.lifecycle != 4 && s.bankGood k (if k = 0 then a else b)
       let started := fun (bank : Nat) (fallback : Bool) (t : State) =>
         t.phase = 2 ∧ t.fld Reg.NOR_NSTAT 0 1 = bank ∧ t.flag Reg.SYS_BOOT_STAT 24 = fallback ∧
           (t.core 0).pc = BitVec.ofNat 64 (s.hdr bank 0x18 8) ∧ t.boot.version = s.hdr bank 7 1
       (good first = true → Completes (.romVerify a b) s (started first false)) ∧
       (good first = false → good (1 - first) = true → Completes (.romVerify a b) s (started (1 - first) (s.headerGood first))) ∧
       (good first = false → good (1 - first) = false → Completes (.romVerify a b) s fun t =>
         t.phase = 8 ∧ (s.logOpen = true → t.shows 0x000 0xFFF 0x52 = true) ∧ KeepsRest s t)) ∧
     (∀ image : ImageDesc, s.phase = 2 →
       let i := { image with tasks := image.tasks.map fun t => (t.1, storedBudget t.2) }
       let accepted := imageAccepted i && decide ((imageRetainWords i).length * 16 ≤ 1916 * 1024)
       let spare := fun (t : State) (w : Nat) =>
         (List.range 4).any fun b => (List.range 62).any fun j => w == t.frameBuffer (BitVec.ofNat 64 b) + 2 + j
       (accepted = true → s.domainsReady i = true → s.blocksReady i = true → Completes (.runtimeInit image) s fun t =>
         t.phase = 3 ∧ t.boot.peerWait = true ∧ t.boot.image = some i ∧ t.claimRole = 0 ∧
           (∀ w, t.tpmAt w = { data := 0, tag := if spare t w then 0x00 else 0xC0 }) ∧ KeepsCores s t) ∧
       (accepted = true → s.domainsReady i = true → s.blocksReady i = false → Completes (.runtimeInit image) s fun t =>
         t.phase = 2 ∧ t.boot.image = some i ∧ t.claimRole = 0 ∧ KeepsCores s t) ∧
       (accepted = false → Completes (.runtimeInit image) s fun t =>
         t.phase = 6 ∧ t.role = 5 ∧ t.claimRole = 0 ∧ t.boot.running = false ∧ (s.logOpen = true → t.shows 0x000 0xFFF 0x6A = true)))) ∧
  (∀ (s : State) (r : Nat),
     let takes := fun (t : State) =>
       t.boot.peerWait = false ∧ t.boot.roleAt = some s.time.ltb ∧
         (r = 1 ∨ r = 2 → if 3 ≤ s.fld Reg.SYS_BOOT_STAT 20 4 then t.phase = 6 ∧ t.role = 5
           else t.role = r ∧ t.phase = 4 ∧ (t.fld Reg.SYS_BOOT_STAT 26 2 = 1 ∨ t.fld Reg.SYS_BOOT_STAT 26 2 = 2)) ∧
         (r = 4 → t.role = 4 ∧ t.phase = 4 ∧ t.fld Reg.SYS_BOOT_STAT 26 2 = 3) ∧
         (r = 5 ∨ r = 6 → t.role = r ∧ t.phase = 3)
     (s.phase = 3 → s.boot.peerWait = true →
       (s.roleChoice false = some r → Completes .roleDecision s takes ∧ Completes .peerWaitExpiry s takes) ∧
       (s.roleChoice false = none → s.roleChoice true = some r → Completes .peerWaitExpiry s takes)) ∧
     (∀ i : ImageDesc, s.boot.image = some i → s.phase = 4 → (s.fld Reg.SYS_BOOT_STAT 26 2 = 1 ∨ s.fld Reg.SYS_BOOT_STAT 26 2 = 2) →
       s.boot.running = false → s.boot.starting = false → Completes .mramRestoreComplete s fun t =>
         t.boot.starting = true ∧ t.boot.ttBase = 0 ∧ t.regs = s.regs ∧ KeepsCores s t ∧
           (s.fld Reg.SYS_BOOT_STAT 26 2 = 1 → t.boot.warm = none) ∧
           (∀ n, s.fld Reg.SYS_BOOT_STAT 26 2 = 2 → s.warmSlot = some n → t.boot.warm = some
             (BitVec.ofNat 64 (s.mramNat (retainSlot n + 0x40) 8), BitVec.ofNat 64 (s.mramNat (retainSlot n + 0x48) 8)))))

/-- Shut-down, STOP and the retain record (R129, R133, R138, R251): a keyed request in RUN or STOP stops the tasks, or switches over
first; any other is refused and logged; a task that still runs is aborted; a release from STOP starts again at RUNTIME_INIT; a record
waits for the active tasks, and is not begun in a brown-out older than 15 ms (R134). Forms that answer a next state here: shutdown,
shutdownTaskAbort, failrunClear, slatheRelease, retainRecordWrite. -/
def Obligations.ShutDownAndRetain : Prop :=
  ∀ (s : State) (w : Writer) (value : W32),
    (s.admits w 0x000 0x108 = true → value.getLsbD 0 = true →
      (keyed value 0x5344 = true → (s.phase = 5 ∨ s.phase = 6) →
        (s.role ≠ 2 → s.anyActive = true → Completes (.shutdown w value) s fun t =>
          t.phase = 7 ∧ t.boot.shut = .stopping ∧ KeepsRest s t) ∧
        (s.role = 2 → s.peerReady = true → Completes (.shutdown w value) s fun t =>
          t.phase = 7 ∧ t.boot.shut = .switching ∧ KeepsRest s t)) ∧
      ((keyed value 0x5344 = false ∨ (s.phase ≠ 5 ∧ s.phase ≠ 6)) → Completes (.shutdown w value) s fun t =>
        t.phase = s.phase ∧ (s.logOpen = true → t.shows 0x000 0xFFF 0x5A = true) ∧ KeepsRest s t)) ∧
    (∀ (task u : Fin 32), s.boot.shut = .stopping → u ≠ task → (s.task u.val).active = true →
      Completes (.shutdownTaskAbort task) s fun t => (t.task task.val).active = false ∧ (t.task u.val).active = true ∧ KeepsMemory s t) ∧
    (s.phase = 5 → Completes .failrunClear s fun t =>
      t.fld Reg.SYS_BOOT_STAT 20 4 = 0 ∧ t.boot.ran60 = true ∧ t.phase = 5 ∧ KeepsPages [0] s t ∧ KeepsRest s t) ∧
    (s.phase = 6 → Completes .slatheRelease s fun t =>
      t.phase = 2 ∧ t.fld Reg.SYS_BOOT_STAT 20 4 = 0 ∧ t.role = 0 ∧ t.claimRole = 0 ∧ StopsAll s t) ∧
    (∀ u : Fin 32, s.boot.retain = none → s.brownoutLate = false → 5 ≤ s.phase → s.phase ≤ 7 → (s.desc u.val).cls ≠ .unused → (s.task u.val).active = true →
      Completes .retainRecordWrite s fun t =>
        ∃ r, t.boot.retain = some r ∧ r.1.contains u.val = true ∧ t.regs = s.regs ∧ KeepsRest s t)

/-- Tasks (R230 to R239, R249, R250): a cycle starts in the working bank with its header, TB, SP and the call of its first function block,
and each block that returns is followed by the call of the next; the commit after the last writes the select word, with the holder's APPLY
where that has come, and frees the core; TRIGGER queues and answers in G4; a slice passes to the next BACKGROUND task; a restarted task
begins anew. Forms that answer a next state here: taskCycleStart, taskCommit, trigger, backgroundSlice, taskRestart. -/
def Obligations.TasksStartCommitAndRestart : Prop :=
  ∀ (s : State) (task : Fin 32) (c : CoreId),
    let d := s.desc task.val
    let x := s.task task.val
    let tb := blockWord d (1 - x.published)
    (s.boot.running = true → s.running d.core.val = some task.val → x.started = false → x.holderStart = none →
      (s.follower = false ∨ d.cls = .background) →
      Completes (.taskCycleStart task) s fun t =>
        (t.task task.val).started = true ∧ (t.task task.val).working = 1 - x.published ∧ (t.task task.val).cycle = x.cycle + 1 ∧
          t.tpmAt tb = { data := s.time.ltb + s.boot.ttBase, tag := 0 } ∧ t.tpmAt (tb + 3) = { data := s.lfi - 1, tag := 0 } ∧
          t.greg d.core.val 29 = { data := tpmAddr tb, tag := 0 } ∧ t.greg d.core.val 31 =
            { data := d.stackTop - (if d.fbList.isEmpty then 0 else 16), tag := 0 } ∧
          (∀ call, d.fbList.head? = some call → (t.core d.core.val).pc = call.1 ∧ t.greg d.core.val 28 = { data := call.2, tag := 0 } ∧
            t.greg d.core.val 30 = { data := runtimeAddr, tag := 0 })) ∧
    (∀ call : W64 × W64, s.boot.running = true → s.running d.core.val = some task.val → x.started = true → s.inRuntime d.core.val = true →
      d.fbList[x.calls]? = some call → Completes (.taskCycleStart task) s fun t =>
        (t.core d.core.val).pc = call.1 ∧ t.greg d.core.val 28 = { data := call.2, tag := 0 } ∧ (t.task task.val).calls = x.calls + 1 ∧
          (∀ w, t.tpmAt w = s.tpmAt w) ∧ t.regs = s.regs) ∧
    (s.cycleDone task.val = true → d.cls ≠ .background → s.follower = false → s.boot.retain = none → Completes (.taskCommit task) s fun t =>
        t.tpmAt d.select = { data := selectWord (x.holderApply.getD s.applyNow) x.working x.published, tag := 0 } ∧ (∀ w, w ≠ d.select → t.tpmAt w = s.tpmAt w) ∧
          (t.task task.val).active = false ∧ (t.task task.val).committed = true ∧ (t.task task.val).ovrConsec = 0) ∧
    (let n := (s.greg c.val 4).data.toNat % 32
     (s.desc n).cls = .event → (s.task n).stopped = false → s.follower = false → (s.task n).queue.length < (s.desc n).qdepth →
      Completes (.trigger c) s fun t =>
        t.greg c.val 4 = { data := 0, tag := 0 } ∧ (t.task n).queue.length = (s.task n).queue.length + 1 ∧ t.regs = s.regs ∧ KeepsMemory s t) ∧
    (let l := s.backgrounds c.val
     let cur := (sget (dflt none) s.boot.slice c.val).getD (l.head?.getD 0)
     Completes (.backgroundSlice c) s fun t =>
      sget (dflt none) t.boot.slice c.val = ((l.find? fun t => decide (cur < t)).or l.head?) ∧ KeepsMemory s t) ∧
    (x.stopped = true → Completes (.taskRestart task) s fun t =>
      (t.task task.val).stopped = false ∧ (t.task task.val).queue = [] ∧ (t.task task.val).first = true ∧ (t.task task.val).kind = 3 ∧
        (s.logOpen = true → t.shows 0x000 task.val 0x67 = true) ∧ KeepsPages [0] s t ∧ KeepsCores s t)

/-- Writes to loop record words (R259, R260): the engine takes a write whose value, tag and access are allowed, and shows it in the word's
RW fields until it applies; it refuses any other with LAST_ERR 0x03 or 0x04, counts it, and keeps the word. No applied word changes before
the boundary. A write changes the tag with the value, but STAT and the supervision words carry tag 0x00 (R262, R294). Fix commands (R298,
R299, R302, R304, R306): each lands for its boundary, and a read shows it as pending from then on, in twin sync from that boundary on; no
applied word changes before. At the boundary KEEP, RESCALE and CHECK make a Fix pending with their option; CANCEL ends a pending one with
result 3 and the frame. LD_PEAK is cleared by its CLR bit (R285). Forms that answer a next state here: ldPeakClear, fixKeep, fixRescale,
fixCheck, fixCancel. -/
def Obligations.LoopWritesAndFixCommands : Prop :=
  (∀ (s : State) (k w : Nat) (v : TWord) (master : Nat) (at_ : W64),
     let code := s.wordCheck k w v
     let t := (s.landWrite k w v master at_ true).2
     (s.landWrite k w v master at_ true).1 = code ∧ KeepsLoops s t ∧ KeepsMemory s t ∧ KeepsCores s t ∧
     (code = 0 → t.landed k w = { data := ((s.landed k w).data &&& ~~~ wordMask w) ||| (v.data &&& wordMask w), tag := wordTag w v.tag } ∧
       (∀ j x, (j ≠ k ∨ x ≠ w) → t.landed j x = s.landed j x)) ∧
     (code ≠ 0 → (code = 3 ∨ code = 4) ∧ (∀ j x, t.landed j x = s.landed j x) ∧ t.flag Reg.LOOP_LOOP_EVT 2 = true ∧
       t.fld Reg.LOOP_REFUSE 24 8 = min (s.fld Reg.LOOP_REFUSE 24 8 + 1) 255)) ∧
  (∀ (s : State) (loop : Fin 512),
     let k := loop.val
     let lands := fun (opt : Nat) (t : State) =>
       t.loop.pend = s.loop.pend ++ [{ loop := k, word := LW.FIXCMD, value := { data := BitVec.ofNat 64 opt, tag := 0 }, at_ := s.loopBoundary
                                       shown := !s.twinSync, master := 0xFF }] ∧
         (s.twinSync = false → opt ≠ 3 → (t.landed k LW.FIX_STAT).data.getLsbD 31 = true ∧
           (t.landed k LW.FIX_STAT).data.toNat / 2 ^ 28 % 4 = opt) ∧
         KeepsLoops s t ∧ t.regs = s.regs ∧ KeepsMemory s t ∧ KeepsCores s t
     (s.lockstep = false →
       Completes (.fixKeep loop) s (lands 0) ∧ Completes (.fixRescale loop) s (lands 1) ∧ Completes (.fixCheck loop) s (lands 2) ∧
       Completes (.fixCancel loop) s (lands 3)) ∧
     (∀ g : W64,
       (∀ opt < 3,
         let t := s.applyFix k opt g
         t.fixPending k = true ∧ t.lf k LW.FIX_STAT 28 2 = opt ∧
           (∀ j w, (j ≠ k ∨ w ≠ LW.FIX_STAT) → w < 256 → t.lw j w = s.lw j w) ∧ KeepsPages [0, 0x040] s t ∧ KeepsMemory s t ∧ KeepsCores s t) ∧
       (s.fixPending k = true →
         let t := s.applyFix k 3 g
         t.fixPending k = false ∧ t.lf k LW.FIX_STAT 24 2 = 3 ∧ (t.lw k LW.FIX_FRAME).data = g ∧
           (s.logOpen = true → t.shows 0x040 k 0x22 = true) ∧ KeepsPages [0, 0x040] s t ∧ KeepsMemory s t ∧ KeepsCores s t)) ∧
     (∀ (w : Writer) (value : W32), s.admits w 0x040 0x104 = true → value.getLsbD 31 = true → Completes (.ldPeakClear w value) s fun t =>
       t.fld Reg.LOOP_LD_PEAK 0 16 = 0 ∧ KeepsPages [0x040] s t ∧ KeepsRest s t))

/-- The engine's stop (R285) and a tuning analysis (R319): the destination words of every loop take Q BAD, cause 7, with their values, F
and S; an analysed session is DONE with a result, its measures written, and gone. Captures (R323 to R326): an arm command is accepted or
refused with its cause; a stop ends an armed session IDLE and a triggered one DONE; a software trigger waits; at a capture point a session
writes its record, frame index first, at its place in the ring, and counts it. Forms that answer a next state here: loopEngineStop,
bracketAnalysis, captureArm, captureStop, captureSoftwareTrigger, captureRecord. -/
def Obligations.EngineStopsAndCapturesRecord : Prop :=
  (∀ (s : State) (w : Writer) (value : W32) (loop : Fin 512),
     (s.admits w 0x040 Reg.CTRL = true → value.getLsbD 1 = false →
       (value.getLsbD 0 = false → s.flag (rk 0x040 Reg.CTRL) 0 = true → Completes (.loopEngineStop w value) s fun t =>
         t.flag (rk 0x040 Reg.CTRL) 0 = false ∧ t.flag (rk 0x040 Reg.STAT) 0 = false ∧
           (∀ k < 512, ∀ a ∈ s.destWords k, (t.tpmAt a).data = (s.tpmAt a).data ∧ (t.tpmAt a).tag = badTag 7 (s.tpmAt a).tag) ∧
           (∀ a, (∀ k < 512, a ∉ s.destWords k) → t.tpmAt a = s.tpmAt a) ∧
           (s.logOpen = true → t.shows 0x040 0xFFF 0x06 = true) ∧ KeepsLoops s t ∧ KeepsCores s t) ∧
       (value.getLsbD 0 = true → s.flag (rk 0x040 Reg.CTRL) 0 = false → Completes (.loopEngineStop w value) s fun t =>
         t.flag (rk 0x040 Reg.CTRL) 0 = true ∧ t.loop.fresh = List.range 512 ∧ KeepsMemory s t ∧ KeepsLoops s t ∧ KeepsCores s t)) ∧
     (let k := loop.val
      let a := s.analyse k (((s.tuneState k).cycles.take (s.tuneCfg k 40 5)).drop (s.firstMeasured k - 1))
      s.lf k LW.TUNE_STAT 28 4 = 2 → Completes (.bracketAnalysis loop) s fun t =>
       t.lf k LW.TUNE_STAT 28 4 = 3 ∧ [9, 11, 13].contains (t.lf k LW.TUNE_STAT 24 4) = true ∧ sget (dflt none) t.loop.tune k = none ∧
         (t.lw k LW.TU).data = a.tu ∧ (t.lw k LW.KU).data = a.ku ∧ (t.lw k LW.SPREAD).data = a.spread ∧ KeepsMemory s t ∧ KeepsCores s t)) ∧
  (∀ (s : State) (w : Writer) (session : Fin 16) (nsig : BitVec 4),
     let n := session.val
     let armed := s.setFld (capKey Reg.CAPT_SCTRL n) 0 4 nsig.toNat
     let off := 0x200 + 0x80 * n
     (s.admits w 0x041 off = true →
       Completes (.captureArm w session nsig) s (fun t =>
         (if armed.armRefusal n = 0 then
           t.capState n = 1 ∧ t.reg (capKey Reg.CAPT_COUNT n) = 0 ∧ t.flag Reg.CAPT_CAPT_BUSY n = true ∧ n ∉ t.loop.capSoft
         else t.capState n = 4 ∧ t.fld (capKey Reg.CAPT_SCTRL n) 16 5 = armed.armRefusal n) ∧ t.capNsig n = nsig.toNat ∧
           KeepsPages [0, 0x041] s t ∧ KeepsRest s t) ∧
       (s.capState n = 1 → Completes (.captureStop w session nsig) s fun t =>
         t.capState n = 0 ∧ t.flag Reg.CAPT_CAPT_BUSY n = false ∧ KeepsPages [0, 0x041] s t ∧ KeepsRest s t) ∧
       (s.capState n = 2 → Completes (.captureStop w session nsig) s fun t =>
         t.capState n = 3 ∧ t.flag Reg.CAPT_CAPT_EVT (16 + n) = true ∧ KeepsPages [0, 0x041] s t ∧ KeepsRest s t) ∧
       (s.capState n = 1 → Completes (.captureSoftwareTrigger w session nsig) s fun t =>
         t.loop.capSoft.contains n = true ∧ t.capState n = 1 ∧ KeepsPages [0, 0x041] s t ∧ KeepsRest s t)) ∧
     (s.domState 7 = 2 → s.flag (rk 0x041 Reg.CTRL) 0 = true → (s.capState n = 1 ∨ s.capState n = 2) →
       (∀ m < 16, m ≠ n → s.capState m ≠ 1 ∧ s.capState m ≠ 2) → s.flag (capKey Reg.CAPT_SCLK n) 31 = false →
       sget (dflt 0) s.loop.capPoint n % (s.fld (capKey Reg.CAPT_SCLK n) 9 16 + 1) = 0 → s.capNsig n ≤ 8 →
       (∀ x, sget (dflt 0) s.mem.tpmErr x = 0) →
       let count := (s.reg (capKey Reg.CAPT_COUNT n)).toNat
       let a := s.fld (capKey Reg.CAPT_BASE n) 0 13 * 0x1000 + sget (dflt 0) s.loop.capPlace n * s.capSize n
       Completes .captureRecord s fun t =>
         (t.reg (capKey Reg.CAPT_COUNT n)).toNat = min (count + 1) 0xFFFFFFFF ∧ leNat t.capByte a 8 = s.lfi.toNat ∧
           (∀ i < s.capNsig n, leNat t.capByte (a + 16 + 8 * i) 8 = (s.capSignal n i).data.toNat) ∧
           (∀ o, (o < a ∨ a + s.capSize n ≤ o) → t.capByte o = s.capByte o) ∧
           sget (dflt 0) t.loop.capPlace n = (sget (dflt 0) s.loop.capPlace n + 1) % s.capRecords n ∧ (∀ x, t.tpmAt x = s.tpmAt x) ∧ KeepsLoops s t ∧ KeepsCores s t))

/-- Digital channels at a controller that is not held in reset (R332 to R338, R340): samples beyond a threshold, or between the two after
one that was, give the raw state, and the terminal's current, doubled while PEER_ACT is 1, the band; what has differed for the filter time
is taken; a short, an overload or a shed cuts the output off and latches it where RETRY is 0; a retry closes it again; a disagreement is
noted. No other channel of the group changes its state. Forms that answer a next state here: inputFilterAccept, outputShortCutoff,
outputOverload, outputShed, outputRetry, readbackDisagree. -/
def Obligations.DigitalChannelsFollowTheField : Prop :=
  ∀ (s : State) (dch : Fin 512),
    let k := dch.val / 16
    let c := dch.val % 16
    let g := s.grp k
    let cfg := g.chCfg k c
    let wire := g.mode k c == 2 || g.mode k c == 3
    let becomes := fun (P : DgChan → Prop) (t : State) =>
      P ((t.grp k).dgc c) ∧ (∀ d, d ≠ c → ((t.grp k).dgc d).filtered = (g.dgc d).filtered ∧ ((t.grp k).dgc d).cut = (g.dgc d).cut ∧
        ((t.grp k).dgc d).latched = (g.dgc d).latched ∧ ((t.grp k).dgc d).want = (g.dgc d).want) ∧ KeepsAllButGroup k s t
    let cutOff := fun (why : Nat) (x : DgChan) => x.cut = why ∧ x.on = false ∧ x.latched = !cfg.getLsbD 21
    g.held = false →
    (∀ (reading : BitVec 32) (n : Nat), 0 < n →
      let x := g.dgc c
      let mv := reading.toNat
      let high := if g.mode k c = 1 then 11000 else 15000
      let span := 8 * fieldOf cfg 0 11
      let nA := if g.peerAct then 2 * mv else mv
      let b : Band := if nA < 500000 then .wireBreak else if nA < 1500000 then .indetLow else if nA ≤ 2800000 then .opened
        else if nA ≤ 5000000 then .indetHigh else if g.mode k c = 3 ∧ 18000000 < nA then .lineShort else .closed
      let run := (if sameBand x.rawBand b then x.run else 0) + n
      let passes := x.first || (!sameBand x.band b && decide (span < run))
      (∀ was : Bool, wire = false → x.raw = some was →
        let r := if high ≤ mv then true else if mv ≤ 5000 then false else was
        Completes (.inputFilterAccept dch [{ reading := reading, count := n }]) s (becomes fun y =>
          y.raw = some r ∧ y.filtered = (if x.first || decide (span < x.run + n) then r else x.filtered))) ∧
      (wire = false → x.raw = none → (high ≤ mv ∨ mv ≤ 5000) → x.first = true →
        Completes (.inputFilterAccept dch [{ reading := reading, count := n }]) s (becomes fun y => y.filtered = decide (high ≤ mv))) ∧
      (wire = true → Completes (.inputFilterAccept dch [{ reading := reading, count := n }]) s (becomes fun y =>
        y.rawBand = b ∧ y.band = (if passes || sameBand x.band b then b else x.band) ∧
          (passes = true → (b = .opened → y.prev = false) ∧ (b = .closed → y.prev = true)) ∧ (passes = false → y.prev = x.prev)))) ∧
    (g.mode k c = 4 →
      ((g.dgc c).on = true →
        Completes (.outputShortCutoff dch) s (becomes (cutOff 1)) ∧ Completes (.outputOverload dch) s (becomes (cutOff 2)) ∧
        (∀ group : Fin 32, group.val = k → (∀ d, c < d → d < 16 → (g.dgc d).on = false) →
          Completes (.outputShed group) s (becomes fun x => cutOff 2 x ∧ x.shed = true))) ∧
      ((g.dgc c).want = true → (g.dgc c).latched = false → Completes (.outputRetry dch) s (becomes fun x =>
        x.cut = 0 ∧ x.on = (g.powered && !g.pulsed c))) ∧
      (∀ differs : Bool, g.released = false → Completes (.readbackDisagree dch differs) s (becomes fun x => x.disagree = differs)))

/-- Conversions and analogue outputs (R360 to R366, R371, R377 to R381): a conversion gives its channel its band, value and freshness; a
fault or a sensor that the measured voltage or resistance shows as open or shorted its own state; a cold junction out of range is a fault;
the spare converter visits the next channel and corrects its offset. Forms that answer a next state here: conversion, spareVisitStart,
spareVisitEnd, outputOpen, outputDisagree. -/
def Obligations.ConversionsAndCurrentOutputs : Prop :=
  ∀ (s : State) (group : Fin 57) (chan : Fin 16) (ag : Fin 16) (ach : Fin 256),
    let k := group.val
    let c := chan.val
    let g := s.grp k
    let type := fieldOf (g.chCfg k c) 28 4
    let inRange := fun (v : W64) =>
      let lo := (tempRange type).1
      let hi := (tempRange type).2
      dNan v = false ∧ dLt v (dInt lo) = false ∧ dLt (dInt hi) v = false ∧ dLt v (dFrac (51 * lo - hi) 50) = false ∧
        dLt (dFrac (51 * hi - lo) 50) v = false
    let measured := fun (x : AgChan) => x.band = some 0 ∧ x.fresh = true ∧ x.fault = false
    let opened := fun (x : AgChan) => x.band = some 5 ∧ x.fresh = true ∧ x.val = (g.agc c).val
    let shorted := fun (x : AgChan) => x.band = some 6 ∧ x.fresh = true ∧ x.val = (g.agc c).val
    let becomes := fun (P : AgChan → Prop) (t : State) => P ((t.grp k).agc c) ∧ (∀ d, d ≠ c → (t.grp k).agc d = g.agc d) ∧ KeepsAllButGroup k s t
    (g.held = false →
      (grpKind k = 0xA0 → g.mode k c ≠ 0 →
        (∀ (nA : BitVec 32) (lim : Bool), Completes (.conversion group chan (.current nA lim)) s (becomes fun x =>
          x.current = nA.toInt + (g.agc c).offset ∧ x.band = some (nextBand (g.agc c).band (nA.toInt + (g.agc c).offset)) ∧
            x.fresh = true ∧ x.fault = false ∧ x.overload = (lim || decide (30000000 < nA.toInt + (g.agc c).offset)))) ∧
        Completes (.conversion group chan .converterFault) s (becomes fun x => x.fault = true)) ∧
      (grpKind k = 0xB0 →
        (1 ≤ type → type ≤ 7 → ∀ (uV : BitVec 32) (v : W64),
          (50000 < uV.toInt → Completes (.conversion group chan (.thermocouple uV v)) s (becomes opened)) ∧
          (uV.toInt ≤ 50000 → inRange v → Completes (.conversion group chan (.thermocouple uV v)) s (becomes measured))) ∧
        (8 ≤ type → ∀ (r lead : W32) (v : W64),
          let ohms : Int := (r.toNat : Int) - (if type = 9 ∨ type = 12 then lead.toNat else 0)
          let unit : Int := if 11 ≤ type then 10000 else 1000
          (400 * unit < ohms → Completes (.conversion group chan (.rtd r lead v)) s (becomes opened)) ∧
          (ohms < 10 * unit → Completes (.conversion group chan (.rtd r lead v)) s (becomes shorted)) ∧
          (10 * unit ≤ ohms → ohms ≤ 400 * unit → inRange v → Completes (.conversion group chan (.rtd r lead v)) s (becomes measured))) ∧
        (type ≠ 0 → Completes (.conversion group chan .converterFault) s (becomes fun x => x.fault = true)) ∧
        (∀ (v : W64) (bad : Bool), Completes (.conversion group chan (.coldJunction v bad)) s fun t =>
          let out := bad || dNan v || dLt v (dInt (-45)) || dLt (dInt 110) v
          (t.grp k).cjFault = out ∧ (t.grp k).cjVal = (if out then g.cjVal else v) ∧ (t.grp k).cjFresh = true ∧ KeepsAllButGroup k s t))) ∧
    (let a := 32 + ag.val
     let h := s.grp a
     let order := (List.range 16).map fun i => (h.spareNext + i) % 16
     (∀ refBad : Bool, h.held = false → h.spareBad = false → h.spareBusy = false → (h.cfgAt a 0x100).getLsbD 23 = true →
      ∀ d, (order.find? fun d => h.mode a d != 0) = some d → Completes (.spareVisitStart ag refBad) s fun t =>
        (if refBad then (t.grp a).spareBad = true
         else (t.grp a).spareBusy = true ∧ (t.grp a).spareCh = d ∧ (t.grp a).spareNext = (d + 1) % 16) ∧ KeepsAllButGroup a s t) ∧
     (∀ d : BitVec 32, h.spareBusy = true → Completes (.spareVisitEnd ag d) s fun t =>
        let fine := decide (d.toInt.natAbs ≤ 1000 * fieldOf (h.cfgAt a 0x100) 24 8)
        (t.grp a).spareBusy = false ∧ ((t.grp a).agc h.spareCh).calFail = !fine ∧
          ((t.grp a).agc h.spareCh).offset = (h.agc h.spareCh).offset + (if fine then d.toInt else 0) ∧ KeepsAllButGroup a s t)) ∧
    (let a := 32 + ach.val / 16
     let d := ach.val % 16
     let h := s.grp a
     h.held = false → h.released = false → h.dom = 2 → h.isOut a d = true →
      Completes (.outputOpen ach) s (fun t => ((t.grp a).agc d).opened = true ∧ ((t.grp a).agc d).disagree = false ∧ KeepsAllButGroup a s t) ∧
      (∀ differs : Bool, Completes (.outputDisagree ach differs) s fun t =>
        ((t.grp a).agc d).disagree = (if differs then (if (h.agc d).window = 0 then !(h.agc d).opened else (h.agc d).disagree) else false) ∧
          (differs = false → ((t.grp a).agc d).opened = false) ∧ KeepsAllButGroup a s t))

/-- Counter channels at their controller (R391 to R393, R397 to R399, R402): an input error or fault is kept for the report; a rise of A
that passes the glitch filter counts; an index edge and a latch command queue the raw count; an SSI read starts with the data line at 1
and ends with its outcome. Forms that answer a next state here: counterInputError, counterInputFault, indexEvent, ssiRead, ssiReadEnd,
counterLatch. -/
def Obligations.CounterChannelsCount : Prop :=
  ∀ (s : State) (cch : Fin 64) (group : Fin 4),
    let k := 52 + cch.val / 16
    let c := cch.val % 16
    let g := s.grp k
    let x := g.cgc c
    let cfg := g.cfgAt k (0x180 + 8 * c)
    let becomes := fun (P : CgChan → Prop) (t : State) => P ((t.grp k).cgc c) ∧ (∀ d, d ≠ c → (t.grp k).cgc d = g.cgc d) ∧ KeepsAllButGroup k s t
    (g.held = false →
      (∀ phase : Bool, 1 ≤ g.mode k c → g.mode k c ≤ (if phase then 3 else 7) →
        Completes (.counterInputError cch phase) s (becomes fun y => y.err = true ∧ y.phase = phase ∧ y.raw = x.raw)) ∧
      (∀ input : CounterInput, (g.chCfg k c).getLsbD 27 = false → g.mode k c ≠ 0 →
        Completes (.counterInputFault cch input true) s (becomes fun y => y.inFault = inputNo input)) ∧
      (∀ input : CounterInput, x.inFault = inputNo input → Completes (.counterInputFault cch input false) s (becomes fun y => y.inFault = 0)) ∧
      (∀ samples : List CounterSamples, 1 ≤ g.mode k c → g.mode k c ≤ 5 → x.queue.length < 2 →
        Completes (.indexEvent cch samples) s (becomes fun y =>
          (samples = [] → y.raw = x.raw) ∧ y.queue = x.queue ++ [{ latch := false, num := 0, raw := y.raw.toNat % 0x100000 }])) ∧
      (∀ n : W32, g.mode k c = 5 → x.inA.level = some false → x.inB.level = some false → x.queue.length < 2 →
        glitchSpan (fieldOf (g.chCfg k c) 18 4) ≤ n.toNat →
        Completes (.indexEvent cch [{ a := 20000, b := BitVec.ofInt 32 (-1000), count := n }]) s (becomes fun y =>
          y.raw = (if (g.chCfg k c).getLsbD 26 then x.raw - 1 else x.raw + 1) ∧ y.inA.level = some true ∧ y.inB.level = some false)) ∧
      (g.mode k c = 8 → g.driving = true → g.released = false → g.powered = true →
        Completes (.ssiRead cch true) s (becomes fun y => y.reading = some s.time.ltb ∧ y.skips = 0) ∧
        Completes (.ssiRead cch false) s (becomes fun y => y.reading = x.reading ∧ y.skips = x.skips + 1 ∧ (3 ≤ x.skips → y.ssiCode = 6))) ∧
      (∀ (frame : SsiFrame) (at_ : W64), x.reading = some at_ → Completes (.ssiReadEnd cch frame) s (becomes fun y =>
        y.reading = none ∧ y.ssiCode = ssiOutcome (fieldOf cfg 10 6) frame ∧
          (y.ssiCode = 0 → y.ssiNo = (x.ssiNo + 1) % 8 ∧ y.ssiAt = at_ ∧
            ((g.chCfg k c).getLsbD 17 = false → y.ssiVal = frame.bits % 2 ^ fieldOf cfg 26 6))))) ∧
    (∀ (counted : List Counted) (lid : Nat),
      let a := 52 + group.val
      let h := counted.foldl (fun g n => g.addCount a (s.freeVal.getLsbD 0) (s.time.ltb.setWidth 32) n) (s.grp a)
      (s.grp a).held = false → (s.grp a).latch = some lid → Completes (.counterLatch group counted) s fun t =>
        (t.grp a).latch = none ∧ (t.grp a).latched = some lid ∧ KeepsAllButGroup a s t ∧
          ∀ d < 16, 1 ≤ (s.grp a).mode a d → (s.grp a).mode a d ≤ 5 →
            ((t.grp a).cgc d).queue.getLast? = some { latch := true, num := lid, raw := (h.cgc d).raw.toNat % 0x100000 })

/-- A field group controller (R72, R86, R343, R346 to R349, R373): a burst that passes its checks is taken, one that fails is counted;
without a burst for TMO the outputs take their safe states; a tied controller without bursts releases them; its power-on reset puts the
fuse map in force. A controller's report (R345, R386): a started controller that is not in loopback puts a report with its SEQ on the
wire, in AG and CG groups with a value burst; the report is 48 bytes long and passes the checks of R343 at the logic end; SEQ counts on.
Forms that answer a next state here: fieldSupplyStateChange, fgcBurstReceive, fgcPeriodEnd, safeStateTimeout, groupRelease, fgcReport,
loopbackEnd, fgcPowerOnReset, fgcHeldInReset, fieldDomainStagesReady. -/
def Obligations.FieldGroupControllersObeyAndReport : Prop :=
  (∀ (s : State) (group : Fin 57),
     let k := group.val
     let g := s.grp k
     grpKind k ≠ 0 →
     (∀ b : List Byte, g.held = false → g.loopback = 0 →
       (g.link.wire0 = some b →
         (burstOk b 1 k 11 = true → Completes (.fgcBurstReceive group 0 .asSent) s fun t =>
           (t.grp k).rx0 = some b ∧ (t.grp k).started = true ∧ (t.grp k).time = BitVec.ofNat 32 (leAt b 6 4) ∧
             (t.grp k).side = bAt b 11 / 64 ∧ KeepsAllButGroup k s t) ∧
         (burstOk b 1 k 11 = false → Completes (.fgcBurstReceive group 0 .asSent) s fun t =>
           (t.grp k).rx0 = g.rx0 ∧ (t.grp k).lrej = (g.lrej + 1) % 256 ∧ KeepsAllButGroup k s t)) ∧
       (g.tied = true → g.link.relay = some b → burstOk b 1 k 11 = true → Completes (.fgcBurstReceive group 1 .asSent) s fun t =>
         (t.grp k).rx1 = some b ∧ (t.grp k).time = g.time ∧ KeepsAllButGroup k s t)) ∧
     (g.held = false →
       (g.rx0 = none → g.rx1 = none → Completes (.fgcPeriodEnd group) s fun t =>
         (t.grp k).silent = g.silent + 1 ∧ (t.grp k).empty = g.empty + 1 ∧ (t.grp k).time = g.time + 1250 ∧
           (g.tmo k ≤ g.silent + 1 → (t.grp k).safe = true) ∧ (g.tied = true → 2 ≤ g.empty → (t.grp k).released = true) ∧ KeepsAllButGroup k s t) ∧
       (∀ (st : Nat) (b : List Byte), (g.admitted k).obeyedBurst = some (st, b) → Completes (.fgcPeriodEnd group) s fun t =>
         (t.grp k).silent = 0 ∧ (t.grp k).fresh = false ∧ (t.grp k).hclaim = claimOf b ∧ (t.grp k).rx0 = none ∧ (t.grp k).rx1 = none ∧
           KeepsAllButGroup k s t) ∧
       (g.safe = false → Completes (.safeStateTimeout group) s fun t =>
         (t.grp k).safe = true ∧ (t.grp k).holder = 0 ∧
           (∀ c < 16, grpKind k = 0x80 → g.mode k c = 4 → fieldOf (g.chCfg k c) 22 2 = 0 →
             ((t.grp k).dgc c).want = false ∧ ((t.grp k).dgc c).on = false) ∧ KeepsAllButGroup k s t) ∧
       (g.released = false → g.tied = true → Completes (.groupRelease group) s fun t =>
         (t.grp k).released = true ∧ (∀ c < 16, grpKind k = 0x80 → ((t.grp k).dgc c).want = false ∧ ((t.grp k).dgc c).on = false) ∧
           (∀ c < 16, grpKind k = 0xA0 → ((t.grp k).agc c).target = 0) ∧ KeepsAllButGroup k s t) ∧
       (g.dom = 1 → Completes (.fieldDomainStagesReady group) s fun t => (t.grp k).dom = 2 ∧ KeepsAllButGroup k s t) ∧
       (g.dom = 3 → Completes (.fieldDomainStagesReady group) s fun t =>
         (t.grp k).dom = 0 ∧ (∀ c < 16, grpKind k = 0x80 → ((t.grp k).dgc c).on = false) ∧ KeepsAllButGroup k s t)) ∧
     Completes (.fgcHeldInReset group) s (fun t =>
       (t.grp k).held = true ∧ (t.grp k).fuse = g.fuse ∧ (t.grp k).holder = 0 ∧ (t.grp k).started = false ∧ KeepsAllButGroup k s t) ∧
     (∀ tied : Bool, Completes (.fgcPowerOnReset group tied) s fun t =>
       (t.grp k).held = false ∧ (t.grp k).tied = tied ∧ (t.grp k).fresh = true ∧ (t.grp k).dom = 2 ∧ (t.grp k).map = g.fuse ∧
         (t.grp k).fuse = g.fuse ∧ (t.grp k).holder = 0 ∧ KeepsAllButGroup k s t) ∧
     (∀ (n : Fin 32) (new : SupplyState), k = n.val → Completes (.fieldSupplyStateChange (.dg n) new) s fun t =>
       (t.grp k).sup = supplyNext g.sup (supplyCode new) ∧ (2 ≤ supplyCode new → 2 ≤ (t.grp k).sup) ∧ KeepsAllButGroup k s t)) ∧
  (∀ (s : State) (group : Fin 57) (offset : W32) (counted : List Counted),
     let k := group.val
     let g := s.grp k
     let sent := fun (t : State) =>
       (∃ b, (t.grp k).link.wireRep = some b ∧ b.length = 48 ∧ burstOk b 2 k 42 = true ∧ leAt b 2 2 = g.seq % 65536) ∧
         ((t.grp k).link.wireVal.isSome = (grpKind k == 0xA0 || grpKind k == 0xB4)) ∧ (t.grp k).seq = (g.seq + 1) % 65536 ∧
         (t.grp k).loopback = 0 ∧ KeepsAllButGroup k s t
     grpKind k ≠ 0 → g.held = false → g.started = true →
     (g.loopback = 0 → Completes (.fgcReport group offset counted) s sent) ∧
     (g.loopback ≠ 0 → Completes (.loopbackEnd group) s sent))

/-- The logic end of a field link (R343, R350, R353, R354, R386, R393, R396, R415): an accepted report is admitted by its SEQ, one that
fails is counted; a value burst is used with its report or counted as missed; reports that stop are shown; the clear, home and position
commands reach their channels. Forms that answer a next state here: reportReceive, reportTimeout, outClearWrite, valueBurstReceive,
counterClear, homeArm, positionSet. -/
def Obligations.LinkEndsTakeReportsAndCommands : Prop :=
  ∀ (s : State) (group : Fin 57) (b : List Byte),
    let k := group.val
    let p := grpPage k
    let l := (s.grp k).link
    (grpKind k ≠ 0 → s.linkOn k = true →
      (l.wireRep = some b → burstOk b 2 k 42 = true → Completes (.reportReceive group .asSent) s fun t =>
        (t.grp k).link.wireRep = none ∧ (t.grp k).link.rxLast = leAt b 2 2 ∧ (t.grp k).link.missed = 0) ∧
      (l.wireRep = some b → burstOk b 2 k 42 = false → Completes (.reportReceive group .asSent) s fun t =>
        (t.grp k).link.wireRep = none ∧ (t.grp k).link.rxLast = l.rxLast ∧
          t.fld (rk p 0x118) 16 16 = min (s.fld (rk p 0x118) 16 16 + 1) 0xFFFF ∧ KeepsPages [p] s t ∧ KeepsMemory s t ∧ KeepsCores s t) ∧
      (l.timedOut = false → (l.rxOk = true ∨ l.shown = true) → Completes (.reportTimeout group) s fun t =>
        (t.grp k).link.rxOk = false ∧ (t.grp k).link.timedOut = l.shown ∧ t.flag (rk p 0x104) 2 = false ∧ t.flag (rk p 0x128) 4 = true) ∧
      (∀ at_ : W64, (grpKind k = 0xA0 ∨ grpKind k = 0xB4) → l.wireVal = some b →
        (l.rep = some (bAt b 3, at_) → burstOk b 3 k 2 = true → Completes (.valueBurstReceive group .asSent) s fun t =>
          (t.grp k).link.valDone = true ∧ (t.grp k).link.vmissRun = false ∧ (t.grp k).link.rep = none) ∧
        (l.rep = none → Completes (.valueBurstReceive group .asSent) s fun t =>
          (t.grp k).link.vmissRun = true ∧ t.fld (rk p 0x118) 0 16 = min (s.fld (rk p 0x118) 0 16 + 1) 0xFFFF ∧ t.flag (rk p 0x128) 8 = true))) ∧
    (∀ (w : Writer) (page : Nat) (value : W32) (c : Fin 16),
      let q := page - 0x080
      (pageBlock page = 0x80 ∨ pageBlock page = 0xB8 → s.admits w page 0x114 = true → fieldOf value 0 16 ≠ 0 →
        Completes (.outClearWrite w page value) s fun t =>
          (t.grp q).link.clr = (s.grp q).link.clr ||| fieldOf value 0 16 ∧ (t.grp q).link.clrSeq = none ∧ KeepsPages [page] s t ∧ KeepsMemory s t) ∧
      (pageBlock page = 0xB4 →
        (s.admits w page 0x114 = true → Completes (.counterClear w page value) s fun t =>
          (value.getLsbD c.val = true → (t.cgEnd q c.val).code3 = false) ∧ (value.getLsbD c.val = false → t.cgEnd q c.val = s.cgEnd q c.val) ∧
            KeepsPages [page] s t ∧ KeepsMemory s t) ∧
        (s.admits w page 0x12C = true → Completes (.homeArm w page value) s fun t =>
          t.homed q c.val = (s.homed q c.val && !value.getLsbD c.val) ∧ KeepsPages [page] s t ∧ KeepsRest s t) ∧
        (s.admits w page (0x204 + 8 * c.val) = true → Completes (.positionSet w page c value) s fun t =>
          (t.cgEnd q c.val).posset = some value ∧ (∀ d, d ≠ c.val → t.cgEnd q d = s.cgEnd q d) ∧ KeepsPages [page] s t ∧ KeepsMemory s t)))

/-- Domain clocks (R548 to R551, R553, R556): INC takes the written value within its range, SLEW adds to PEND, a SET waits for the next
tick, and a kick starts the watchdog of its clock again and changes nothing else; the servo watchdog after WD × 10 ms, the announce
timeout and the time service give the clock its state, FREE without a path delay; two enabled domains never share NUM and SDO; a pop takes
the oldest time stamp; a Pdelay_Req keeps its time. The output timescale, its pulses and the captured edges (R552, R553, R563 to R565,
R567): OTS takes its source, steps to it or ends its slew; TPO pulses for WIDTH at a second where it may; a pulse of TPI shorter than 1 µs
has no edge, another edge is captured with the times of every clock; its loss for 2 s and a pop; a read of a LO register latches HI. Forms
that answer a next state here: dcIncWrite, dcSlew, dcSet, dcKick, servoWatchdogExpiry, otsSourceSwitch, otsStep, otsAbsorbComplete,
domCfgWrite, tsfPop, pdelayReqSend, timeServiceSync, announceTimeout, tpoPulse, tpoPulseEnd, tpiCapture, tpiLost, tpiPop, timeLoRead. -/
def Obligations.ClocksAndOutputTimescale : Prop :=
  (∀ (s : State) (w : Writer) (n : Fin 2) (value : W32),
     let k := n.val
     let at_ := fun (r : Nat) => dcKey r k % 4096
     let dom := Reg.TIME_DOM_CFGn + 4 * k
     let page := fun (t : State) => KeepsPages [0xF2] s t ∧ KeepsRest s t
     (s.admits w 0x0F2 (at_ Reg.TIME_DCn_INC_LO) = true → Completes (.dcIncWrite w n value) s fun t =>
       t.dcInc k = incStored ((s.reg (dcKey Reg.TIME_DCn_INC_HI k) ++ value : BitVec 64) : W64) ∧
         t.reg (dcKey Reg.TIME_DCn_INC_LO k) = (t.dcInc k).setWidth 32 ∧ t.dcPend k = s.dcPend k ∧ KeepsPages [0, 0xF2] s t ∧ KeepsRest s t) ∧
     (s.admits w 0x0F2 (at_ Reg.TIME_DCn_SLEW) = true → s.dcSet k = none → Completes (.dcSlew w n value) s fun t =>
       t.dcPend k = max (-(2147483647 * 2 ^ 32)) (min (2147483647 * 2 ^ 32) (s.dcPend k + value.toInt * 2 ^ 32)) ∧ t.dcInc k = s.dcInc k ∧ page t) ∧
     (s.admits w 0x0F2 (at_ Reg.TIME_DCn_SET_LO) = true → Completes (.dcSet w n value) s fun t =>
       t.dcSet k = some (((if k = 0 then s.time.setHi0 else s.time.setHi1) ++ value : BitVec 64) : W64) ∧ t.dc k = s.dc k ∧ page t) ∧
     (s.admits w 0x0F2 (Reg.TIME_DC_KICK % 4096) = true → Completes (.dcKick w value) s fun t =>
       t.time = { s.time with
         wd0 := if value.getLsbD 0 then s.time.ltb else s.time.wd0, wd1 := if value.getLsbD 1 then s.time.ltb else s.time.wd1 } ∧ page t) ∧
     (s.fld (Reg.TIME_DC_CTRLn + 4 * k) 0 16 ≠ 0 →
       s.fld (Reg.TIME_DC_CTRLn + 4 * k) 0 16 * 1250000 ≤ (s.time.ltb - if k = 0 then s.time.wd0 else s.time.wd1).toNat → (s.dcState k = 1 ∨ s.dcState k = 2) → Completes (.servoWatchdogExpiry n) s fun t =>
       t.dcState k = 3 ∧ t.flag Reg.TIME_TIME_EVT k = true ∧ (s.logOpen = true → t.shows 0x0F2 k 0x02 = true) ∧ t.time = s.time ∧
         KeepsPages [0, 0xF2] s t ∧ KeepsRest s t) ∧
     (s.flag dom 31 = true →
       (Completes (.announceTimeout n) s fun t => t.dcState k = 3 ∧ t.goodRun k = 0 ∧ t.dc k = s.dc k ∧ KeepsPages [0, 0xF2] s t ∧ KeepsRest s t) ∧
       (∀ offset rate : W64, s.delayHad k = false →
         Completes (.timeServiceSync n offset rate) s fun t => t.dcState k = 0 ∧ t.dc k = s.dc k ∧ t.dcInc k = s.dcInc k ∧ KeepsPages [0, 0xF2] s t ∧ KeepsRest s t) ∧
       (∀ offset rate : W64, s.delayHad k = true →
         (1000000 < offset.toInt.natAbs → Completes (.timeServiceSync n offset rate) s fun t =>
           t.dcSet k = some (s.dcNs k - offset) ∧ t.dcInc k = s.dcInc k ∧ t.dcState k = 1 ∧ KeepsPages [0, 0xF2] s t ∧ KeepsRest s t) ∧
         (offset.toInt.natAbs ≤ 1000000 → Completes (.timeServiceSync n offset rate) s fun t =>
           t.dcInc k = incStored rate ∧ (s.dcSet k = none → t.dcPend k = max (-(2147483647 * 2 ^ 32)) (min (2147483647 * 2 ^ 32)
             (s.dcPend k - offset.toInt * 2 ^ 32))) ∧ (offset.toInt.natAbs < 1000 → 15 ≤ s.goodRun k → t.dcState k = 2) ∧
             (10000 < offset.toInt.natAbs → t.dcState k = 1) ∧ KeepsPages [0, 0xF2] s t ∧ KeepsRest s t))) ∧
     (s.admits w 0x0F2 (dom % 4096) = true → Completes (.domCfgWrite w n value) s fun t =>
       (t.flag dom 31 = true → t.reg dom ≠ t.reg (Reg.TIME_DOM_CFGn + 4 * (1 - k))) ∧
         (s.locked 0x0F2 = false → s.flag (Reg.TIME_DOM_CFGn + 4 * (1 - k)) 31 = false → t.flag dom 31 = value.getLsbD 31 ∧
           t.fld dom 0 8 = fieldOf value 0 8 ∧ t.fld dom 24 4 = fieldOf value 24 4) ∧ KeepsPages [0, 0xF2] s t ∧ KeepsRest s t) ∧
     (s.admits w 0x0F2 (Reg.TIME_TSFn_POP % 4096 + 0x20 * k) = true → value.getLsbD 0 = true → Completes (.tsfPop w n value) s fun t =>
       t.tsf k = (s.tsf k).tail ∧ t.tsf (1 - k) = s.tsf (1 - k) ∧ page t) ∧
     (∀ port : Fin 4, s.flag Reg.TIME_TC_CFG 30 = true → s.ethOn (port.val / 2) = true → Completes (.pdelayReqSend port) s fun t =>
       let x := s.portDelay port.val
       (t.portDelay port.val).t1 = s.time.ltb ∧ (t.portDelay port.val).seq = (x.seq + 1) % 65536 ∧ (t.portDelay port.val).open_ = true ∧
         (t.portDelay port.val).missed = (if x.open_ then x.missed + 1 else 0) ∧
         (x.open_ = true → 2 ≤ x.missed → t.flag (Reg.TIME_PORT_LDLYk + 4 * port.val) 31 = false) ∧ KeepsPages [0, 0xF2] s t ∧ KeepsRest s t)) ∧
  (∀ (s : State) (w : Writer) (value : W32),
     let rest := fun (t : State) => KeepsPages [0, 0xF2] s t ∧ KeepsRest s t
     (s.admits w 0x0F2 0x168 = true → Completes (.otsSourceSwitch w value) s fun t =>
       t.otsSrc = fieldOf value 24 1 ∧ t.time = s.time ∧ (s.otsSrc ≠ fieldOf value 24 1 → t.flag Reg.TIME_TIME_EVT 2 = true) ∧ rest t) ∧
     (s.stepLimit < (s.otsGap (s.dc s.otsSrc)).natAbs → Completes .otsStep s fun t =>
       t.time.ots = s.dc s.otsSrc ∧ t.flag Reg.TIME_OTS_STAT 31 = false ∧ t.flag Reg.TIME_TIME_EVT 3 = true ∧
         (s.logOpen = true → t.shows 0x0F2 0xFFF 0x06 = true) ∧ KeepsPages [0, 0x042, 0xF2] s t ∧ KeepsRest s t) ∧
     ((s.dc s.otsSrc - s.time.ots).toInt.natAbs < 2 ^ 32 → s.flag Reg.TIME_OTS_STAT 31 = true → Completes .otsAbsorbComplete s fun t =>
       t.flag Reg.TIME_OTS_STAT 31 = false ∧ t.flag Reg.TIME_TIME_EVT 4 = true ∧ (s.logOpen = true → t.shows 0x0F2 0xFFF 0x07 = true) ∧
         t.time = s.time ∧ rest t) ∧
     (s.tpoOn = true → Completes .tpoPulse s fun t =>
       t.time.tpo = true ∧ t.time.tpoEnd = s.time.ltb + BitVec.ofNat 64 (s.fld Reg.TIME_TPO_CFG 0 19 * 125) ∧ t.regs = s.regs ∧ KeepsRest s t) ∧
     (s.tpoOn = false → Completes .tpoPulse s fun t => t = s) ∧
     (s.time.tpoEnd.toNat ≤ s.time.ltb.toNat → Completes .tpoPulseEnd s fun t => t.time.tpo = false ∧ t.regs = s.regs ∧ KeepsRest s t) ∧
     (s.time.ltb.toNat < s.time.tpoEnd.toNat → Completes .tpoPulseEnd s fun t => t = s) ∧
     (∀ (rising : Bool) (held : W32), held.toNat < 125 → Completes (.tpiCapture { rising, held }) s fun t => t = s) ∧
     (∀ (rising : Bool) (held : W32) (t0 : W64), 125 ≤ held.toNat → s.flag Reg.TIME_TPI_CFG 31 = true → s.flag Reg.TIME_TPI_CFG 30 = !rising → s.time.tpiEdge = some t0 →
       s.time.tpi.length < 16 → Completes (.tpiCapture { rising, held }) s fun t =>
         let ns := min 0x3FFFFFFF ((s.time.ltb - t0).toNat * 8)
         let dly := s.fld Reg.TIME_TPI_CFG 0 16
         (∃ r, t.time.tpi = s.time.tpi ++ [r] ∧ r.interval.toNat = ns ∧ r.ots = s.otsNs - BitVec.ofNat 64 dly ∧
             r.dc0 = s.dcNs 0 - BitVec.ofNat 64 dly ∧ r.dc1 = s.dcNs 1 - BitVec.ofNat 64 dly ∧ r.ltb = s.time.ltb - BitVec.ofNat 64 ((dly + 4) / 8)) ∧
           t.time.tpiEdge = some s.time.ltb ∧ t.fld Reg.TIME_TPI_STAT 0 30 = ns ∧ t.flag Reg.TIME_TPI_STAT 30 = badPeriod ns ∧
           t.flag Reg.TIME_TPI_STAT 31 = false ∧ rest t) ∧
     (s.flag Reg.TIME_TPI_CFG 31 = true → s.flag Reg.TIME_TPI_STAT 31 = false →
       250000000 ≤ (s.time.ltb - s.time.tpiEdge.getD 0).toNat → Completes .tpiLost s fun t =>
       t.flag Reg.TIME_TPI_STAT 31 = true ∧ t.flag Reg.TIME_TIME_EVT 6 = true ∧ (s.logOpen = true → t.shows 0x0F2 0xFFF 0x09 = true) ∧
         t.time = s.time ∧ rest t) ∧
     (s.admits w 0x0F2 (Reg.TIME_TPI_POP % 4096) = true → value.getLsbD 0 = true → Completes (.tpiPop w value) s fun t =>
       t.time.tpi = s.time.tpi.tail ∧ t.fld Reg.TIME_TPI_LVL 0 5 = (s.time.tpi.length - 1) % 32 ∧ KeepsPages [0xF2] s t ∧ KeepsRest s t) ∧
     (∀ (m : Master) (b : Timebase), s.readGate m 0x0F2 (timebaseOff b) = .okay → Completes (.timeLoRead m b) s fun t =>
       t.bus.resp = .okay ∧ t.bus.data = ((s.timebase b).setWidth 32 : W32).setWidth 64 ∧ t.regs = s.regs ∧ KeepsRest s t ∧
         (match b with
           | .ltb => sget (dflt 0) t.time.hiCopies (m.num * 4 + 1)
           | .ots => sget (dflt 0) t.time.hiCopies (m.num * 4 + 2)
           | .dc d => sget (dflt 0) t.time.dcCopies (m.num * 2 + d.val)) = ((s.timebase b >>> 32).setWidth 32 : W32)))

/-- The real-time clock (R569 to R576, R584, R624): a stopped oscillator sets OSF; the crystal and the cell show their states; a read of
TIME0 makes a shadow; a commit waits for the next crystal cycle, which sets a time that exists and refuses one that does not; a loss of
the logic supply is recorded, and AON alone goes on. Forms that answer a next state here: oscillatorStopped, rtcFreqWindow,
cellMeasurement, cellMonfault, rtcTime0Read, rtcShadowExpiry, rtcSet, rtcSetFromOts, backupRecordClear, aonBackupSwitch,
aonBackupExhausted, aonPowerOn, logicSupplyReturn, supercapacitorFull. -/
def Obligations.RealTimeClockKeepsTime : Prop :=
  ∀ (s : State) (w : Writer) (value : W32),
    let rest := fun (t : State) => KeepsPages [0, 0xF8] s t ∧ KeepsRest s t
    (s.flag Reg.RTC_TIME7 8 = false → Completes .oscillatorStopped s fun t =>
      t.flag Reg.RTC_TIME7 8 = true ∧ t.fld Reg.RTC_TIME7 24 8 = 0xB8 ∧ t.flag Reg.RTC_RTC_STAT 0 = true ∧
        (s.logicOn' = true → t.flag Reg.RTC_RTC_EVT 0 = true) ∧ rest t) ∧
    (s.logicOn' = true →
      (∀ ppm : BitVec 16, Completes (.rtcFreqWindow ppm) s fun t =>
        t.flag Reg.RTC_RTC_STAT 3 = decide (200 < ppm.toInt ∨ ppm.toInt < -200) ∧
          ((200 < ppm.toInt ∨ ppm.toInt < -200) → t.flag Reg.RTC_RTC_EVT 3 = true ∧ (s.logOpen = true → t.shows 0x0F8 0xFFF 0x08 = true)) ∧ rest t) ∧
      (∀ mv : BitVec 16, Completes (.cellMeasurement mv) s fun t =>
        let l := (s.aon.cell ++ [mv.toNat]).drop (s.aon.cell.length + 1 - 8)
        t.fld Reg.RTC_CELL 0 16 = (l.sum / l.length) % 65536 ∧ t.fld Reg.RTC_CELL 16 3 = cellState (l.sum / l.length) ∧
          t.fld Reg.RTC_CELL 24 8 = (cellTag (cellState (l.sum / l.length))).toNat ∧
          (s.fld Reg.RTC_CELL 16 3 ≠ cellState (l.sum / l.length) → t.flag Reg.RTC_RTC_EVT 2 = true) ∧ rest t) ∧
      Completes .cellMonfault s (fun t =>
        t.fld Reg.RTC_CELL 16 3 = 4 ∧ t.fld Reg.RTC_CELL 24 8 = 0xD8 ∧ t.aon.cell = [] ∧ rest t) ∧
      Completes .supercapacitorFull s (fun t => t.flag Reg.RTC_RTC_STAT 1 = true ∧ KeepsPages [0xF8] s t ∧ KeepsRest s t) ∧
      (∀ (utc : BitVec 16) (n : Nat) (c : Calendar), s.flag Reg.RTC_TIME7 8 = true → s.otsLocked = true →
        ((s.otsNs.toNat / 1000000000 : Nat) : Int) - utc.toInt - 946684800 = (n : Nat) → calendarAt n = some c →
        Completes (.rtcSetFromOts utc) s fun t => t.staged = c ∧ t.aon.commit = true ∧ t.rtcNow = s.rtcNow ∧ rest t)) ∧
    (∀ m : Master,
      (s.readGate m 0x0F8 0x100 = .okay → Completes (.rtcTime0Read m) s fun t =>
        t.rtcShadow m = some ((List.range 8).map fun k => s.reg (Reg.RTC_TIME0 + 4 * k)) ∧ t.bus.resp = .okay ∧
          t.bus.data = (s.reg Reg.RTC_TIME0).setWidth 64 ∧ t.regs = s.regs ∧ KeepsRest s t) ∧
      Completes (.rtcShadowExpiry m) s (fun t => t.rtcShadow m = none ∧ t.regs = s.regs ∧ KeepsRest s t)) ∧
    (s.admits w 0x0F8 (Reg.RTC_SET % 4096) = true → value.getLsbD 0 = true → keyed value 0x5443 = true →
      Completes (.rtcSet w value) s fun t => t.aon.commit = true ∧ t.rtcNow = s.rtcNow ∧ t.staged = s.staged ∧ rest t) ∧
    (s.aon.commit = true →
      (s.staged.ok = true → s.rtcCycle.rtcNow = s.staged ∧ s.rtcCycle.fld Reg.RTC_TIME0 0 15 = 0 ∧
        s.rtcCycle.fld Reg.RTC_TIME7 0 3 = weekday s.staged.year s.staged.month s.staged.day ∧ s.rtcCycle.flag Reg.RTC_TIME7 8 = false ∧
        s.rtcCycle.flag Reg.RTC_RTC_STAT 2 = false ∧ (s.logOpen = true → s.rtcCycle.shows 0x0F8 0xFFF 0x02 = true) ∧ rest s.rtcCycle) ∧
      (s.staged.ok = false → s.rtcCycle.rtcNow = s.rtcNow ∧ s.rtcCycle.flag Reg.RTC_RTC_STAT 2 = true ∧
        (s.logOpen = true → s.rtcCycle.shows 0x0F8 0xFFF 0x03 = true) ∧ rest s.rtcCycle)) ∧
    (s.admits w 0x0F8 (Reg.RTC_SET % 4096) = true → value.getLsbD 0 = true → keyed value 0x5443 = false →
      Completes (.rtcSet w value) s fun t =>
        t.aon = s.aon ∧ t.rtcNow = s.rtcNow ∧ (s.logOpen = true → t.shows 0x0F8 0xFFF 0x03 = true) ∧ rest t) ∧
    (s.admits w 0x0F8 (Reg.RTC_BKSW3 % 4096) = true → value.getLsbD 30 = true → Completes (.backupRecordClear w value) s fun t =>
      t.flag Reg.RTC_BKSW3 31 = false ∧ t.fld Reg.RTC_BKSW3 0 16 = 0 ∧ KeepsPages [0xF8] s t ∧ KeepsRest s t) ∧
    (s.pwr.power ≠ .off → s.sound = true → Completes .aonBackupSwitch s fun t =>
      t.pwr.power = .off ∧ t.rst.phase = .asserted ∧ t.flag Reg.PWR_PSTATE 8 = (s.pwr.power == .save) ∧ t.flag Reg.RTC_BKSW3 31 = true ∧
        (∀ a, t.mramByte a = s.mramByte a) ∧ t.rtcNow = s.rtcNow) ∧
    (s.pwr.power = .off →
      Completes .aonBackupExhausted s (fun t => t.aon.stopped = true ∧ t.regs = s.regs ∧ KeepsRest s t) ∧
      (s.aon.stopped = false →
        (s.flag Reg.PWR_PSTATE 8 = true → Completes .logicSupplyReturn s fun t => t.pwr.power = .save ∧ t.regs = s.regs ∧ KeepsRest s t) ∧
        (s.flag Reg.PWR_PSTATE 8 = false → Completes .logicSupplyReturn s fun t =>
          t.pwr.power = .run ∧ t.rst.phase = .asserted ∧ t.flag Reg.RST_CAUSE 0 = true ∧ t.fld Reg.PWR_PSTATE 4 2 = 0))) ∧
    (s.aon.stopped = true → Completes .aonPowerOn s fun t =>
      t.aon = {} ∧ (∀ k, t.reg k = if fuseReg k || keptMask k == 0 then s.reg k else regDefault k) ∧ KeepsRest s t)

/-- Authorisations and debug levels (R620 to R622, R626, R629, R631): a challenge is drawn and used once; the result of a verification is
shown and acted on; a level is granted, and dropped at the end of its minutes or when asked, with every core running and the system
watchdog on; cores halt, step and stop at breakpoints. Forms that answer a next state here: challengeRead, auth, authResult,
debugLevelRequest, debugLevelExpiry, debugDrop, coreHalt, coreStep, breakpointHit, debugCoverOpen. -/
def Obligations.DebugLevelsAreGrantedAndDropped : Prop :=
  ∀ (s : State) (w : Writer) (value : W32),
    let rest := fun (t : State) => KeepsPages [0, 4] s t ∧ KeepsRest s t
    let dropped := fun (t : State) =>
      t.debugLevel = 0 ∧ t.fld Reg.DBG_RUNCTL 0 4 = 0 ∧ (∀ k < 16, t.flag (Reg.DBG_BPk_LO + 8 * k) 0 = false) ∧
        t.flag Reg.RST_WDG_CTRL 16 = true ∧ (s.logOpen = true → t.shows 0x004 0xFFF 0x03 = true) ∧ KeepsPages [0, 2, 4, 7] s t ∧ KeepsRest s t
    (∀ m : Master, s.readGate m 0x004 0x110 = .okay → Completes (.challengeRead m) s fun t =>
      t.sec.challenge = some s.time.ltb ∧ t.bus.resp = .okay ∧ t.bus.data = (t.reg Reg.SEC_CHALk).setWidth 64 ∧ KeepsPages [4] s t ∧ KeepsRest s t) ∧
    (s.admits w 0x004 (Reg.SEC_AUTH % 4096) = true → keyed value 0x4155 = true → value.getLsbD 0 = true → s.sec.auth = none →
      Completes (.auth w value) s fun t =>
        t.sec.challenge = none ∧ t.flag Reg.SEC_AUTH 12 = true ∧ t.fld Reg.SEC_AUTH 8 4 = 0 ∧ KeepsPages [4] s t ∧ KeepsRest s t ∧
          ∃ j, t.sec.auth = some j ∧ j.resp = (List.range 128).map s.respByte ∧ (s.sec.challenge = none → j.valid = false) ∧
            (∀ t0, s.sec.challenge = some t0 → j.valid = decide ((s.time.ltb - t0).toNat ≤ 7500000000))) ∧
    (∀ (j : AuthJob) (sigOk : Bool), s.sec.auth = some j →
      let code := s.authCode j sigOk
      let arg := j.num 25 1
      (code ≠ 1 → code ≠ 2 → Completes (.authResult sigOk) s fun t =>
        t.sec.auth = none ∧ t.flag Reg.SEC_AUTH 12 = false ∧ t.fld Reg.SEC_AUTH 8 4 = code % 16 ∧ t.flag Reg.SEC_SEC_EVT 0 = true ∧
          t.debugLevel = s.debugLevel ∧ (s.logOpen = true → t.shows 0x004 0xFFF 0x02 = true) ∧ rest t) ∧
      ((code = 1 ∨ code = 2) → j.num 24 1 = 0 → Completes (.authResult sigOk) s fun t =>
        t.sec.auth = none ∧ t.fld Reg.SEC_AUTH 8 4 = code ∧ t.debugLevel = min arg ((grantLimit s.lifecycle (j.num 28 1)).getD 0) % 4 ∧
          t.sec.grantMin = max 1 (min 1440 (j.num 26 2)) ∧ t.sec.grantAt = s.time.ltb) ∧
      (code = 1 → j.num 24 1 = 1 → arg = 3 → Completes (.authResult sigOk) s fun t =>
        t.sec.auth = none ∧ t.flag Reg.SEC_LCSTATE 3 = true ∧ t.fld Reg.SEC_SESS 0 3 = 0 ∧ rest t)) ∧
    (s.admits w 0x007 (Reg.DBG_DLEVEL % 4096) = true →
      let level := min (fieldOf value 8 2) (freeLevel s.lifecycle)
      (1 ≤ level → (level < 2 ∨ s.claimRole ≠ 3) → Completes (.debugLevelRequest w value) s fun t => t.debugLevel = level ∧ t.sec.grantMin = 0) ∧
      (2 ≤ level → s.claimRole = 3 → Completes (.debugLevelRequest w value) s fun t =>
        t.debugLevel = s.debugLevel ∧ (s.logOpen = true → t.shows 0x004 0xFFF 0x02 = true) ∧ KeepsPages [0, 4, 7] s t ∧ KeepsRest s t)) ∧
    (0 < s.debugLevel →
      (s.sec.grantMin ≠ 0 → s.sec.grantMin * 7500000000 ≤ (s.time.ltb - s.sec.grantAt).toNat → Completes .debugLevelExpiry s fun t => t.sec.grantMin = 0 ∧ dropped t) ∧
      (s.admits w 0x007 (Reg.DBG_DROP % 4096) = true → value.getLsbD 0 = true → Completes (.debugDrop w value) s dropped)) ∧
    (s.admits w 0x007 0x108 = true → 2 ≤ s.debugLevel →
      let halts := fun (t : State) =>
        (∀ n < 4, t.halted n = (value.getLsbD n || value.getLsbD (4 + n))) ∧
          t.sec.stepping = (List.range 4).filter (fun n => value.getLsbD (4 + n)) ∧ KeepsPages [7] s t ∧ KeepsRest s t
      Completes (.coreHalt w value) s halts ∧ Completes (.coreStep w value) s halts) ∧
    (∀ bp : Fin 16, 2 ≤ s.debugLevel → s.flag (Reg.DBG_BPk_LO + 8 * bp.val) 0 = true → (s.core (bp.val / 4)).pc = s.bpAddr bp.val →
      Completes (.breakpointHit bp) s fun t =>
        t.halted (bp.val / 4) = true ∧ (∀ n < 4, n ≠ bp.val / 4 → t.halted n = s.halted n) ∧ KeepsPages [7] s t ∧ KeepsRest s t) ∧
    Completes .debugCoverOpen s (fun t =>
      t.flag Reg.SEC_SEC_EVT 2 = true ∧ (s.logOpen = true → t.shows 0x004 0xFFF 0x07 = true) ∧ rest t)

/-- Lifecycle, keys and rollback (R609 to R612, R616, R630): COMMISSIONED to DEPLOYED is asked for with its key and followed by a reset;
RETURNED wipes NOR and the retained MRAM; a slot is programmed once and revoked while another is valid; the counter takes a greater
version. Forms that answer a next state here: lifecycleAdvance, returnedWipe, keySlotProgram, keySlotRevoke, rollbackCommit. -/
def Obligations.LifecycleAndKeysAdvance : Prop :=
  ∀ (s : State) (w : Writer) (value : W32),
    let n := fieldOf value 0 3
    let rest := fun (t : State) => KeepsPages [0, 4, 5] s t ∧ KeepsRest s t
    (s.admits w 0x004 (Reg.SEC_LCREQ % 4096) = true → keyed value 0x4C43 = true → n = 2 → s.lifecycle = 1 → s.sound = true →
      Completes (.lifecycleAdvance w value) s fun t => t.lifecycle = 2 ∧ t.rst.phase = .asserted ∧ t.flag Reg.RST_CAUSE 4 = true) ∧
    (s.flag Reg.SEC_LCSTATE 3 = true → s.lifecycle ≠ 3 → s.lifecycle ≠ 4 → s.boot.prog = none → s.sound = true →
      Completes .returnedWipe s fun t =>
        t.lifecycle = 3 ∧ t.rst.phase = .asserted ∧ t.sec.opCert = none ∧ t.sec.caHash = none ∧ (∀ a, t.norByte a = norDflt a) ∧
          (∀ a, 0x200000 ≤ a → a < 0x800000 → t.mramByte a = 0)) ∧
    (s.admits w 0x004 (Reg.SEC_KEYPROG % 4096) = true → keyed value 0x4B50 = true → 1 ≤ n → n ≤ 4 →
      (fieldOf value 8 2 = 1 → s.lifecycle ≤ 1 → s.slotProg n = false →
        ((n ≠ 1 ∨ s.lifecycle ≠ 0) → Completes (.keySlotProgram w value) s fun t =>
          t.slotProg n = true ∧ sget (dflt 0) t.sec.keys n = BitVec.ofNat 384 (leNat s.respByte 0 48) ∧ t.lifecycle = s.lifecycle ∧
            (s.logOpen = true → t.shows 0x004 0xFFF 0x05 = true) ∧ rest t) ∧
        (n = 1 → s.lifecycle = 0 → s.sound = true → Completes (.keySlotProgram w value) s fun t =>
          t.slotProg 1 = true ∧ t.lifecycle = 1 ∧ t.rst.phase = .asserted)) ∧
      (fieldOf value 8 2 = 2 → (∃ k, k ≠ n ∧ 1 ≤ k ∧ k ≤ 4 ∧ s.slotValid k = true) → Completes (.keySlotRevoke w value) s fun t =>
        t.slotRevoked n = true ∧ t.slotProg n = s.slotProg n ∧ (s.logOpen = true → t.shows 0x004 0xFFF 0x05 = true) ∧ rest t)) ∧
    (s.admits w 0x004 (Reg.SEC_RBCOMMIT % 4096) = true → value.getLsbD 0 = true → keyed value 0x5242 = true →
      let refused := s.fld Reg.SYS_BOOT_STAT 20 4 ≠ 0 ∨ s.boot.ran60 = false ∨ s.boot.version ≤ s.fld Reg.SEC_RB 0 8
      (refused → Completes (.rollbackCommit w value) s fun t =>
        t.fld Reg.SEC_RB 0 8 = s.fld Reg.SEC_RB 0 8 ∧ (s.logOpen = true → t.shows 0x004 0xFFF 0x02 = true) ∧ rest t) ∧
      (¬refused → Completes (.rollbackCommit w value) s fun t =>
        t.fld Reg.SEC_RB 0 8 = s.boot.version % 256 ∧ (s.logOpen = true → t.shows 0x004 0xFFF 0x06 = true) ∧ rest t))

/-- The NOR controller and the power states (R124, R125, R624, R631 to R633): an erase takes the marker of its sector first and ends with
every byte as erased; a program takes NBUF into a blank page; HOLD, SAVE and RUN are entered on a keyed request, and a wake returns to
RUN. Forms that answer a next state here: wakeRequest, norErase, norEraseComplete, norProgram, norProgramComplete, psreqRun, psreqHold,
psreqSave. -/
def Obligations.NorAndPowerStates : Prop :=
  ∀ (s : State) (w : Writer) (value : W32),
    let sec := s.norPage / 1024
    (s.admits w 0x022 (Reg.NOR_NCMD % 4096) = true → keyed value 0x4E46 = true → s.runningBank sec = false → s.erasing sec = none → s.boot.prog = none →
      (fieldOf value 14 2 = 1 → Completes (.norErase w value) s fun t =>
        t.erasing sec = some sec ∧ t.flag Reg.NOR_NSTAT 1 = true ∧ t.fld Reg.NOR_NSTAT 4 4 = 0 ∧
          (∀ a, t.norByte a = if sec * 0x40000 + 0x3FFF8 ≤ a ∧ a < sec * 0x40000 + 0x40000 then 0 else s.norByte a) ∧
          KeepsPages [0x022] s t ∧ KeepsCores s t ∧ KeepsLoops s t ∧ KeepsGroups s t) ∧
      (∀ marginOk : Bool, fieldOf value 14 2 = 2 → (s.norMarker sec ≠ norErased ∨ s.boot.blankOk.contains sec = true) →
        s.pageBlank s.norPage = true → Completes (.norProgram w value marginOk) s fun t =>
          t.boot.prog = some (s.norPage, s.nbufBytes) ∧ t.fld Reg.NOR_NSTAT 4 4 = 0 ∧
            (s.norMarker sec = norErased → t.norMarker sec = norInUse) ∧
            (∀ a, (a < sec * 0x40000 + 0x3FFF8 ∨ sec * 0x40000 + 0x40000 ≤ a) → t.norByte a = s.norByte a) ∧ KeepsPages [0x022] s t)) ∧
    (s.admits w 0x022 (Reg.NOR_NCMD % 4096) = true → keyed value 0x4E46 = true → s.runningBank sec = true →
      (fieldOf value 14 2 = 1 ∨ fieldOf value 14 2 = 2) → Completes (.norErase w value) s fun t =>
        t.fld Reg.NOR_NSTAT 4 4 = 2 ∧ (s.logOpen = true → t.shows 0x022 sec 0x01 = true) ∧ KeepsPages [0, 0x022] s t ∧ KeepsRest s t) ∧
    (∀ (bankB : Bool) (x : Nat), s.erasing (if bankB then 0x200 else 0) = some x → Completes (.norEraseComplete bankB) s fun t =>
      t.erasing (if bankB then 0x200 else 0) = none ∧ t.fld Reg.NOR_NSTAT 4 4 = 1 ∧ (s.logOpen = true → t.shows 0x022 x 0x02 = true) ∧
        (∀ a, t.norByte a = if x * 0x40000 ≤ a ∧ a < x * 0x40000 + 0x40000 then norDflt a else s.norByte a) ∧ KeepsPages [0, 0x022] s t) ∧
    (∀ (page : Nat) (l : List Byte), s.boot.prog = some (page, l) → Completes .norProgramComplete s fun t =>
      t.boot.prog = none ∧ t.fld Reg.NOR_NSTAT 4 4 = 1 ∧ KeepsPages [0x022] s t ∧
        (∀ a, t.norByte a = if page * 256 ≤ a ∧ a < page * 256 + 256 ∧ a % 0x40000 < 0x3FFF8 then ((l[a - page * 256]?).getD 0xFF) else s.norByte a)) ∧
    (s.admits w 0x003 (Reg.PWR_PSREQ % 4096) = true →
      (s.pwr.power = .run → s.phase = 6 → Completes (.psreqHold w 0x5053) s fun t =>
        t.pwr.power = .hold ∧ t.flag Reg.PWR_PSTATE 0 = true ∧ (s.logOpen = true → t.shows 0x003 0xFFF 0x30 = true) ∧ KeepsMemory s t) ∧
      ((s.pwr.power = .hold ∨ s.pwr.power = .run ∧ s.phase = 6) → Completes (.psreqSave w 0x5053) s fun t =>
        t.pwr.power = .save ∧ t.rst.phase = .asserted ∧ t.debugLevel = 0 ∧ t.mem.pm = [] ∧ t.log.queue = []) ∧
      (s.pwr.power = .hold → Completes (.psreqRun w 0x5053) s fun t =>
        t.pwr.power = .run ∧ t.flag Reg.PWR_PSTATE 0 = false ∧ (s.logOpen = true → t.shows 0x003 0xFFF 0x30 = true) ∧ KeepsMemory s t) ∧
      (∀ key : BitVec 16, (key ≠ 0x5053 ∨ s.phase ≠ 6 ∧ s.pwr.power = .run) →
        (Completes (.psreqHold w key) s fun t => t.pwr.power = s.pwr.power ∧ (s.logOpen = true → t.shows 0x003 0xFFF 0x31 = true) ∧
          KeepsPages [0, 3] s t ∧ KeepsRest s t))) ∧
    (s.pwr.power = .hold → Completes .wakeRequest s fun t =>
      t.pwr.power = .run ∧ t.flag Reg.PWR_PSTATE 0 = false ∧ (s.logOpen = true → t.shows 0x003 0xFFF 0x30 = true) ∧ KeepsMemory s t) ∧
    (s.pwr.power = .save → Completes .wakeRequest s fun t =>
      t.pwr.power = .run ∧ t.rst.phase = .asserted ∧ t.flag Reg.RST_CAUSE 0 = true ∧ t.fld Reg.PWR_PSTATE 4 2 = 1)

/-- The front panel (R587 to R593, R595): EN starts a panel whose rails come up in order, two blank frames and ON; a rail that fails or a
loop twice open clamps it, two intact tests after EN start it again; a flip and writes to the page shown act at the display frame
boundary; a lamp test. Annunciator channels at a controller that is not held in reset (R597 to R600): a step's end moves the pattern on;
the bridge temperature limits and ends by its bands; a probe counts when two agree; the fourth trip latches, a restart ends a trip, ten
quiet seconds clear the count. Forms that answer a next state here: panelStart, panelRailReady, panelRailFault, panelOn, panelStop,
panelFlip, flipEffect, crackTest, lampTest, lampTestEnd, patternStep, bridgeTemperature, lineProbe, overcurrentTrip, annunciatorRestart,
tripCountClear, displayFrameBoundary, panelStopComplete. -/
def Obligations.PanelAndAnnunciatorsAct : Prop :=
  (∀ (s : State) (w : Writer) (value ohm : W32),
     let rest := fun (t : State) => KeepsPages [0, 0xF9] s t ∧ KeepsRest s t
     (s.admits w 0x0F9 Reg.CTRL = true → s.panelOn = true →
       (s.panel = 0 → s.flag Reg.DISP_DSTAT 24 = false → Completes (.panelStart w) s fun t =>
         t.panel = 1 ∧ t.disp.rails = 0 ∧ t.flag (rk 0x0F9 Reg.CTRL) 0 = true ∧ rest t) ∧
       (s.flag Reg.DISP_DSTAT 24 = true → Completes (.panelStart w) s fun t => t.panel = s.panel ∧ t.disp.retry = some 0 ∧ rest t) ∧
       (s.panel ≠ 0 → s.panel ≠ 4 → Completes (.panelStop w) s fun t =>
         t.panel = 4 ∧ t.disp.blanks = 1 ∧ t.disp.retry = none ∧ t.flag (rk 0x0F9 Reg.CTRL) 0 = false ∧ rest t)) ∧
     (s.panel = 1 →
       (s.disp.rails < 2 → Completes .panelRailReady s fun t => t.disp.rails = s.disp.rails + 1 ∧ t.regs = s.regs ∧ KeepsRest s t) ∧
       (2 ≤ s.disp.rails → Completes .panelRailReady s fun t => t.panel = 2 ∧ t.disp.blanks = 2 ∧ rest t) ∧
       Completes .panelRailFault s (fun t =>
         t.panel = 0 ∧ t.disp.rails = 0 ∧ t.flag Reg.DISP_DSTAT 23 = true ∧ t.flag Reg.DISP_DISP_EVT 0 = true ∧
           (s.logOpen = true → t.shows 0x0F9 0xFFF 0x02 = true) ∧ rest t)) ∧
     (s.panel = 2 → s.disp.blanks = 0 → Completes .panelOn s fun t =>
       t.panel = 3 ∧ (s.logOpen = true → t.shows 0x0F9 0xFFF 0x01 = true) ∧ rest t) ∧
     (s.panel = 4 → s.disp.blanks = 0 → Completes .panelStopComplete s fun t => t.panel = 0 ∧ t.disp.rails = 0 ∧ rest t) ∧
     (s.admits w 0x0F9 (Reg.DISP_FLIP % 4096) = true → value.getLsbD 0 = true → Completes (.panelFlip w value) s fun t =>
       t.flag Reg.DISP_DSTAT 25 = true ∧ t.flag Reg.DISP_DSTAT 26 = s.flag Reg.DISP_DSTAT 26 ∧ rest t) ∧
     (s.panelOn = true → s.flag Reg.DISP_DSTAT 25 = true → Completes .flipEffect s fun t =>
       t.flag Reg.DISP_DSTAT 25 = false ∧ t.flag Reg.DISP_DSTAT 26 = (!s.flag Reg.DISP_DSTAT 26) ∧ t.flag Reg.DISP_DISP_EVT 2 = true ∧ rest t) ∧
     (s.panelOn = true → (∀ e ∈ s.disp.pend, e.1 / 4096 = 0xF9 ∧ e.1 ≠ Reg.DISP_DSTAT) → Completes .displayFrameBoundary s fun t =>
       t.disp.pend = [] ∧ t.disp.inverted = (!s.disp.inverted) ∧ t.disp.blanks = s.disp.blanks - 1 ∧ t.disp.inForce = t.reg Reg.DISP_DCFG ∧
         t.fld Reg.DISP_DSTAT 0 16 = (s.fld Reg.DISP_DSTAT 0 16 + if s.panel = 3 then 1 else 0) % 65536 ∧ t.panel = s.panel ∧
         t.flag Reg.DISP_DSTAT 25 = false ∧ KeepsRest s t) ∧
     (s.panelOn = true →
       (ohm.toNat < 1000 → s.flag Reg.DISP_DSTAT 24 = true → s.disp.retry = some 1 → Completes (.crackTest ohm) s fun t =>
         t.panel = 1 ∧ t.flag Reg.DISP_DSTAT 24 = false ∧ t.reg Reg.DISP_CRACK = ohm ∧ t.disp.opens = 0 ∧
           (s.logOpen = true → t.shows 0x0F9 0xFFF 0x04 = true) ∧ rest t) ∧
       (10000 < ohm.toNat → s.flag Reg.DISP_DSTAT 24 = false → 1 ≤ s.disp.opens → Completes (.crackTest ohm) s fun t =>
         t.panel = 0 ∧ t.flag Reg.DISP_DSTAT 24 = true ∧ t.fld Reg.DISP_CRACK 0 24 = min ohm.toNat 0xFFFFFF ∧
           t.flag Reg.DISP_DISP_EVT 1 = true ∧ (s.logOpen = true → t.shows 0x0F9 0xFFF 0x03 = true) ∧ rest t)) ∧
     (s.admits w 0x0F9 (Reg.DISP_LAMPTEST % 4096) = true → value.getLsbD 0 = true → keyed value 0x4C54 = true → Completes (.lampTest w value) s fun t =>
       t.disp.lamp = true ∧ t.icons = 0xFFFF ∧ t.flag Reg.DISP_DISP_EVT 3 = true ∧ (s.logOpen = true → t.shows 0x0F9 0xFFF 0x05 = true) ∧ rest t) ∧
     Completes .lampTestEnd s (fun t => t.disp.lamp = false ∧ t.regs = s.regs ∧ KeepsRest s t)) ∧
  (∀ (s : State) (an : Fin 16),
     let c := an.val
     let g := s.grp anSlot
     let x := g.anc c
     let becomes := fun (y : AnChan) (t : State) =>
       (t.grp anSlot).anc c = y ∧ (∀ d, d ≠ c → (t.grp anSlot).anc d = g.anc d) ∧ KeepsAllButGroup anSlot s t
     g.held = false →
     (x.on = true → Completes (.patternStep an) s (becomes { x with phase := nextStep (fieldOf (g.soundA anSlot x.sound) 12 8) x.phase })) ∧
     (∀ temp : BitVec 16, Completes (.bridgeTemperature an (some temp)) s (becomes { x with
       temp := some temp.toInt
       therm := if 2320 < temp.toInt then 2 else if 2000 < temp.toInt then max x.therm 1 else if temp.toInt < 1760 then 0 else x.therm })) ∧
     Completes (.bridgeTemperature an none) s (becomes { x with temp := none }) ∧
     (∀ mohm : W32, x.on = false → x.playsFor = none → g.powered = true → g.driving = true → g.released = false →
       (g.chCfg anSlot c).getLsbD 25 = true → Completes (.lineProbe an mohm) s (becomes { x with
         probe := if x.probeNew = probeResult mohm.toNat then probeResult mohm.toNat else x.probe
         probeNew := probeResult mohm.toNat })) ∧
     (g.powered = true → g.driving = true → x.tripped = false → x.latched = false → (g.anPlays c).isSome = true →
       (x.trips < 3 → Completes (.overcurrentTrip an) s (becomes { x with trips := x.trips + 1, tripped := true })) ∧
       (3 ≤ x.trips → Completes (.overcurrentTrip an) s (becomes { x with trips := x.trips + 1, latched := true }))) ∧
     Completes (.annunciatorRestart an) s (becomes { x with tripped := false }) ∧
     (g.sounding anSlot c = true → x.latched = false → Completes (.tripCountClear an) s (becomes { x with trips := 0 })))

/-- Safety lanes that run (R420, R423 to R437, R448): a cycle computes causes, effects and switches; a frame of the other lane is taken;
an input's raw state that has differed for its filter time becomes its filtered state; a coupler, readback, heartbeat, switch, table,
watchdog, link or comparison fault opens every switch and locks the lane out with its code, and its record is kept. Forms that answer a
next state here: laneCycle, crosslinkFrame, crosslinkTimeout, safetyInputFilter, pairDiscrepancy, couplerTest, sfsStateChange,
outputHeartbeatMissing, readbackFailure, outputFault, switchTest, tableCrcCheck, laneWatchdog, lockoutRecordWrite. -/
def Obligations.SafetyLanesRunAndLockOut : Prop :=
  ∀ (s : State) (lane : Fin 2) (input : Fin 96) (output : Fin 32) (pair : Fin 47),
    let n := lane.val
    let x := s.lane n
    let o := s.lane (1 - n)
    let k := output.val
    let i := input.val
    let only := fun (t : State) => t.lane (1 - n) = o ∧ t.regs = s.regs ∧ KeepsRest s t
    let locked := fun (code detail : Nat) (t : State) =>
      (t.lane n).lockout = true ∧ (t.lane n).st = 4 ∧ (t.lane n).code = code ∧ (t.lane n).detail = detail ∧ (t.lane n).cmds = 0 ∧
        (t.lane n).lockCount = min (x.lockCount + 1) 0xFFFF ∧ (t.lane n).record.isSome = true ∧ only t
    let sound := x.lockout = false ∧ x.st ≠ 5 ∧ 2 ≤ x.st
    (2 ≤ x.st → ∀ (raw : BitVec 96) (rbIn rbMid rbOut : W32),
      (x.rx = none → Completes (.laneCycle lane raw rbIn rbMid rbOut) s fun t =>
        let y := t.lane n
        y.cycle = x.cycle + 1 ∧ y.st = x.st ∧ y.rbIn = rbIn.toNat ∧ y.rbMid = rbMid.toNat ∧ y.rbOut = rbOut.toNat ∧
          y.raw = (if x.sfs = 2 then 0 else raw.toNat) ∧
          (∀ c < 94, causePaired x.table c = false → y.causes.testBit c = !x.filt.testBit c) ∧
          (∀ c < 94, causePaired x.table c = true → y.causes.testBit c =
            (!x.filt.testBit (c / 2 * 2) || !x.filt.testBit (c / 2 * 2 + 1) || x.disc.testBit (c / 2))) ∧
          (y.causes.testBit 94 = (x.sfs != 0)) ∧
          (∀ e < 32, ((effectRec x.table e).getLsbD 31 = false → y.effects.testBit e = true) ∧
            ((effectRec x.table e).getLsbD 28 = true → x.latched.testBit e = true → y.effects.testBit e = true) ∧
            (x.st = 3 → x.sfs ≠ 3 → y.cmds.testBit e = (!y.effects.testBit e && !x.outFlt.testBit e))) ∧ only t) ∧
      (∀ f : XFrame, sound → x.rx = some f → x.st = 3 → f.st = 3 → x.causeDiff = 2 →
        { x with raw := if x.sfs = 2 then 0 else raw.toNat }.causeVector ≠ f.causes →
        Completes (.laneCycle lane raw rbIn rbMid rbOut) s fun t => (t.lane n).lockout = true ∧ (t.lane n).st = 4 ∧ (t.lane n).code = 1 ∧
          (t.lane n).cmds = 0 ∧ only t)) ∧
    (x.st ≠ 0 → o.st ≠ 0 →
      (∀ period : BitVec 16,
        let inPeriod := 9800 ≤ period.toNat ∧ period.toNat ≤ 10200
        (o.lockout = false → (inPeriod ∨ x.offPeriod < 2) → Completes (.crosslinkFrame lane true period) s fun t =>
          (t.lane n).rx = some o.frame ∧ (t.lane n).missed = 0 ∧ (t.lane n).xok = true ∧ (t.lane n).st = x.st ∧
            (inPeriod → (t.lane n).offPeriod = 0) ∧ (¬inPeriod → (t.lane n).offPeriod = x.offPeriod + 1) ∧ only t) ∧
        (sound → ¬inPeriod → 2 ≤ x.offPeriod → Completes (.crosslinkFrame lane true period) s (locked 0x08 0xFFFF)) ∧
        (x.missed < 2 → Completes (.crosslinkFrame lane false period) s fun t =>
          (t.lane n).missed = x.missed + 1 ∧ (t.lane n).xok = false ∧ (t.lane n).rx = x.rx ∧ (t.lane n).st = x.st ∧ only t) ∧
        (sound → o.lockout = true → inPeriod → Completes (.crosslinkFrame lane true period) s (locked 0x0C 0xFFFF)))) ∧
    (x.st ≠ 0 →
      (∀ (mV : BitVec 16) (count : Nat), count ≠ 0 →
        let raw := decide (15000 ≤ mV.toNat) && x.sfs != 2
        let time := if 94 ≤ i then 1000 else 25 * fieldOf (causeRec x.table (if causePaired x.table i then i / 2 * 2 else i)) 8 8
        let run := sget (dflt 0) x.run i + count
        (raw ≠ x.filt.testBit i → time < run → Completes (.safetyInputFilter lane input [{ millivolts := mV, test := false, count }]) s fun t =>
          (t.lane n).filt.testBit i = raw ∧ (∀ j, j ≠ i → (t.lane n).filt.testBit j = x.filt.testBit j) ∧
            (t.lane n).pressed = ((t.lane n).filt.testBit 94 && (t.lane n).filt.testBit 95) ∧ (t.lane n).st = x.st ∧ only t) ∧
        (raw ≠ x.filt.testBit i → run ≤ time → Completes (.safetyInputFilter lane input [{ millivolts := mV, test := false, count }]) s fun t =>
          (t.lane n).filt = x.filt ∧ sget (dflt 0) (t.lane n).run i = run ∧ only t) ∧
        (raw = x.filt.testBit i → Completes (.safetyInputFilter lane input [{ millivolts := mV, test := false, count }]) s fun t =>
          (t.lane n).filt = x.filt ∧ sget (dflt 0) (t.lane n).run i = 0 ∧ only t) ∧
        Completes (.safetyInputFilter lane input [{ millivolts := mV, test := true, count }]) s (fun t => (t.lane n).filt = x.filt ∧ only t)) ∧
      (causePaired x.table (2 * pair.val) = true → x.filt.testBit (2 * pair.val) ≠ x.filt.testBit (2 * pair.val + 1) →
        Completes (.pairDiscrepancy lane pair) s fun t => (t.lane n).disc.testBit pair.val = true ∧ (t.lane n).cmds = x.cmds ∧ only t) ∧
      (∀ new : SupplyState, Completes (.sfsStateChange lane new) s fun t =>
        (t.lane n).sfs = supplyNext x.sfs (supplyCode new) ∧ ((t.lane n).sfs = 3 → x.sfs ≠ 3 → (t.lane n).cmds = 0) ∧
          ((t.lane n).sfs = 2 → x.sfs ≠ 2 → (t.lane n).raw = 0) ∧ only t)) ∧
    (2 ≤ x.st →
      (Completes (.couplerTest lane input true) s fun t =>
        (t.lane n).couplerTests = (x.couplerTests + 1) % 65536 ∧ (t.lane n).failing.contains i = false ∧ (t.lane n).st = x.st ∧ only t) ∧
      (x.failing.contains i = false → Completes (.couplerTest lane input false) s fun t =>
        (t.lane n).failing = x.failing ++ [i] ∧ (t.lane n).st = x.st ∧ only t) ∧
      (x.st = 3 → (if (effectRec x.table k).getLsbD 27 then x.cmds.testBit k else x.effects.testBit k) = true → Completes (.switchTest lane output true) s fun t =>
        (t.lane n).switchTests = (x.switchTests + 1) % 65536 ∧ (t.lane n).cmds = x.cmds ∧ only t) ∧
      (∀ t0 : List Byte, checkMatches t0 = true → Completes (.tableCrcCheck lane (some t0)) s fun t => t = s) ∧
      (Completes (.outputFault lane output) s fun t => t.regs = s.regs ∧ KeepsRest s t ∧ ∀ m < 2, (s.lane m).st ≠ 0 →
        (s.lane m).outFlt.testBit k = false → (t.lane m).outFlt.testBit k = true ∧ (t.lane m).cmds.testBit k = false ∧ (t.lane m).st = (s.lane m).st)) ∧
    (sound →
      Completes (.crosslinkTimeout lane) s (locked 0x0D 0xFFFF) ∧
      (x.failing.contains i = true → Completes (.couplerTest lane input false) s (locked 0x05 i)) ∧
      Completes (.outputHeartbeatMissing lane output) s (locked 0x06 k) ∧
      Completes (.readbackFailure lane output) s (locked 0x03 k) ∧
      (x.st = 3 → (if (effectRec x.table k).getLsbD 27 then x.cmds.testBit k else x.effects.testBit k) = true →
        Completes (.switchTest lane output false) s (locked 0x04 k)) ∧
      Completes (.tableCrcCheck lane none) s (locked 0x0E 0xFFFF) ∧
      (∀ t0 : List Byte, checkMatches t0 = false → Completes (.tableCrcCheck lane (some t0)) s (locked 0x09 0xFFFF)) ∧
      Completes (.laneWatchdog lane) s (locked 0x07 0xFFFF)) ∧
    (∀ body : List Byte, x.record = some body → s.rst.phase = .running → Completes (.lockoutRecordWrite lane) s fun t =>
      let b := natBytes s.otsNs.toNat 8 ++ natBytes s.time.ltb.toNat 8 ++ body
      let b := b ++ natBytes (crc16 b).toNat 2
      (t.lane n).record = none ∧ (∀ j < b.length, t.mramByte (0x1000 + 0x20 * n + j) = (b[j]?).getD 0) ∧
        (∀ a, (a < 0x1000 + 0x20 * n ∨ 0x1000 + 0x20 * n + b.length ≤ a) → t.mramByte a = s.mramByte a) ∧ t.lane (1 - n) = o ∧
        t.regs = s.regs ∧ KeepsCores s t ∧ KeepsLoops s t ∧ KeepsGroups s t)

/-- The reset pair, SAFETY-CONFIG, start and take-up, and the mirror pages (R419, R422, R438 to R444, R447, R448): a press acts by its
length and state, in LOCKOUT by starting the self-test; a staged image is checked, confirmed and stored; a lane starts into LOCKOUT,
TAKEUP or RUN; its mirror page shows it. Forms that answer a next state here: resetPress, laneSelfTest, configEntry, stagingRead,
matrixStore, configAbandon, laneStart, takeupBypassAssert, takeupComplete, laneStop, mirrorUpdate, mirrorStale. -/
def Obligations.SafetyLanesStartAndAreConfigured : Prop :=
  ∀ (s : State) (lane : Fin 2) (dx dy : BitVec 16),
    let n := lane.val
    let x := s.lane n
    let o := s.lane (1 - n)
    let both := fun (P : LaneState → LaneState → Prop) (t : State) => P s.laneX t.laneX ∧ P s.laneY t.laneY ∧ t.regs = s.regs ∧ KeepsRest s t
    let valid := 50 ≤ dx.toNat ∧ dx.toNat ≤ 500 ∧ 50 ≤ dy.toNat ∧ dy.toNat ≤ 500
    let states := fun (k : Nat) => s.laneX.st = k ∧ s.laneY.st = k
    (s.laneX.st ≠ 0 → s.laneY.st ≠ 0 → Completes (.resetPress dx dy true) s (both fun p q => q.pressRes = 5 ∧ q.st = p.st ∧ q.latched = p.latched)) ∧
    (valid → states 3 → Completes (.resetPress dx dy false) s (both fun p q =>
      q.pressRes = 1 ∧ q.outFlt = 0 ∧ q.st = 3 ∧
        ∀ k < 32, q.latched.testBit k = (p.latched.testBit k && effectFunction p.table k p.causes))) ∧
    (valid → states 5 → (∀ l < 2, (s.lane l).result = 6 ∧ (s.lane l).pressFresh = true) → Completes (.resetPress dx dy false) s (both fun _ q =>
      q.pressRes = 1 ∧ q.confirmed = true ∧ q.st = 5)) ∧
    (valid → states 4 → Completes (.resetPress dx dy false) s (both fun p q =>
      q.pressRes = 1 ∧ q.testing = true ∧ q.st = 4 ∧ q.lockout = p.lockout)) ∧
    (states 4 → s.laneX.testing = true → s.laneY.testing = true →
      Completes (.laneSelfTest none none) s (both fun p q => q.st = 3 ∧ q.lockout = false ∧
        ∀ k < 32, (effectRec p.table k).getLsbD 28 = true → q.latched.testBit k = true ∧ q.effects.testBit k = true) ∧
      (∀ d : BitVec 16, Completes (.laneSelfTest (some d) none) s fun t =>
        t.laneX.st = 4 ∧ t.laneX.code = 0x0B ∧ t.laneX.detail = d.toNat ∧ t.laneY.st = 4 ∧ t.laneY.code = s.laneY.code ∧ t.laneX.pressRes = 6 ∧
          t.regs = s.regs ∧ KeepsRest s t)) ∧
    ((∀ l < 2, 2 ≤ (s.lane l).st ∧ (s.lane l).st ≠ 5) →
      ((∀ l < 2, (s.lane l).cmds = 0 ∧ (s.lane l).rbOut = 0) → Completes .configEntry s (both fun _ q =>
        q.st = 5 ∧ q.cmds = 0 ∧ q.pressRes = 4 ∧ q.staged = none ∧ q.result = 0)) ∧
      ((∃ l < 2, (s.lane l).cmds ≠ 0 ∨ (s.lane l).rbOut ≠ 0) → Completes .configEntry s (both fun p q =>
        q.st = p.st ∧ q.cmds = p.cmds ∧ q.pressRes = 3))) ∧
    (x.st = 5 → s.rst.phase = .running → Completes (.stagingRead lane) s fun t =>
      let img := (List.range 928).map fun i => s.mramByte (0x2000 + i)
      (t.lane n).staged = some img ∧ (t.lane n).st = 5 ∧ (t.lane n).offset = (checkImage img).2 ∧
        ((checkImage img).1 ≠ 6 ∨ o.staged = none → (t.lane n).result = (checkImage img).1) ∧
        (∀ u : List Byte, (checkImage img).1 = 6 → o.staged = some u → (matrixId u ≠ matrixId img ∨ matrixCheck u ≠ matrixCheck img) →
          (t.lane n).result = 5) ∧ t.lane (1 - n) = o ∧ KeepsPages [0x0F9] s t ∧ KeepsRest s t) ∧
    (s.laneX.confirmed = true → s.laneY.confirmed = true →
      Completes (.matrixStore true true) s (both fun p q => q.result = 7 ∧ q.st = 1 ∧ q.confirmed = false ∧ ∀ img, p.staged = some img →
        (p.bank = 0 → q.bank1 = some (bankGen p.bank0 + 1, img) ∧ q.bank0 = p.bank0) ∧
          (p.bank ≠ 0 → q.bank0 = some (bankGen p.bank1 + 1, img) ∧ q.bank1 = p.bank1)) ∧
      Completes (.matrixStore true false) s (both fun p q => q.result = 9 ∧ q.st = p.st ∧ q.confirmed = false ∧ q.bank0 = p.bank0 ∧ q.bank1 = p.bank1)) ∧
    (states 5 → Completes .configAbandon s (both fun p q => q.result = 8 ∧ q.st = 1 ∧ q.bank0 = p.bank0 ∧ q.bank1 = p.bank1)) ∧
    (x.st ≤ 1 → o.st = 0 → ∀ (b : Nat) (img : List Byte) (closed : Bool), x.selectBank = some (b, img) →
      (x.lockout = false → Completes (.laneStart lane none closed) s fun t =>
        (t.lane n).st = (if closed then 2 else 3) ∧ (t.lane n).table = img ∧ (t.lane n).bank = b ∧ t.domState (20 + n) = 2 ∧
          t.lane (1 - n) = o ∧ KeepsPages [0, 3] s t ∧ KeepsRest s t) ∧
      (x.lockout = true → (x.st = 0 ∨ x.result ≠ 7) → Completes (.laneStart lane none closed) s fun t =>
        (t.lane n).st = 4 ∧ (t.lane n).lockout = true ∧ (t.lane n).code = x.code ∧ (t.lane n).cmds = 0 ∧ t.domState (20 + n) = 2 ∧ KeepsRest s t) ∧
      (∀ d : BitVec 16, x.lockout = false → Completes (.laneStart lane (some d) closed) s fun t =>
        (t.lane n).st = 4 ∧ (t.lane n).lockout = true ∧ (t.lane n).code = 0x0B ∧ (t.lane n).detail = d.toNat ∧ KeepsRest s t)) ∧
    (states 2 →
      ((∀ l < 2, (s.lane l).lockout = false ∧ (s.lane l).sfs ≠ 3 ∧ 0 < (s.lane l).cycle ∧
          (s.lane l).cmds = (s.lane l).rbIn % 2 ^ 32 ∧ (s.lane l).rbIn &&& (s.lane l).rbMid = (s.lane l).rbIn) →
        Completes .takeupBypassAssert s fun t => t.laneX.bh = true ∧ t.laneY.bh = true ∧ t.carrier.bhx = true ∧ t.carrier.bhy = true ∧
          t.laneX.st = 2 ∧ t.laneY.st = 2 ∧ t.regs = s.regs ∧ KeepsRest s t) ∧
      (s.laneX.bh = true → s.laneY.bh = true → Completes .takeupComplete s (both fun _ q =>
        q.st = 3 ∧ q.cmds = q.closedSwitches))) ∧
    Completes (.laneStop lane) s (fun t =>
      (t.lane n).st = 0 ∧ (t.lane n).cmds = 0 ∧ (t.lane n).bh = false ∧ (t.lane n).lockout = x.lockout ∧ t.domState (20 + n) = 0 ∧
        (if n = 0 then t.carrier.bhx else t.carrier.bhy) = false ∧ t.lane (1 - n) = o ∧ KeepsPages [0, 3] s t ∧ KeepsRest s t) ∧
    (s.rst.phase = .running → x.st ≠ 0 → Completes (.mirrorUpdate lane) s fun t =>
      t.reg (rk (mirrorPage n) 0x100) = x.lstat ∧ t.reg (rk (mirrorPage n) 0x104) = BitVec.ofNat 32 (x.code * 2 ^ 24 + x.detail) ∧
        t.reg (rk (mirrorPage n) 0x120) = BitVec.ofNat 32 x.causes ∧ t.reg (rk (mirrorPage n) 0x150) = BitVec.ofNat 32 x.effects ∧
        t.reg (rk (mirrorPage n) 0x158) = BitVec.ofNat 32 x.cmds ∧ t.lane n = { x with events := [] } ∧ t.lane (1 - n) = o ∧
        KeepsPages [0, 3, mirrorPage n] s t ∧ KeepsRest s t) ∧
    (s.flag (rk (mirrorPage n) 0x100) 31 = false → Completes (.mirrorStale lane) s fun t =>
      t.flag (rk (mirrorPage n) 0x100) 31 = true ∧ t.flag (rk (mirrorPage n) 0x184) 7 = true ∧
        (s.logOpen = true → t.shows (mirrorPage n) 0xFFF 0x0F = true) ∧ t.lane n = x ∧ KeepsPages [0, 3, mirrorPage n] s t ∧ KeepsRest s t)

/-- Shutter and Contact Sheet (R406 to R414, R416, R417): an edge becomes a record, a second within 64 ns or one at a full FIFO is
counted; a pop takes the oldest; an arm is pending or refused by the first outcome that holds; a cancel ends it; a complete snapshot is
written, header word last. Forms that answer a next state here: shutterCapture, shutterPop, snapshotArm, snapshotCancel, snapshotComplete,
snapshotLatchTimeout. -/
def Obligations.EdgesAndSnapshotsAreCaptured : Prop :=
  ∀ (s : State) (w : Writer) (value : W32) (chan : Fin 576) (rising : Bool) (slot : Fin 8),
    let n := chan.val
    let id := s.fld Reg.CSHEET_ID 0 16
    let at_ := s.reg64 Reg.CSHEET_T_LO
    let sheet := fun (t : State) => KeepsPages [0, 0xBA] s t ∧ KeepsRest s t
    let refused := fun (code : Nat) (t : State) => t.reg Reg.CSHEET_RESULT = BitVec.ofNat 32 (code * 2 ^ 28 + id) ∧ t.cap.snaps = s.cap.snaps ∧ sheet t
    (s.shutOn = true → s.shutSelected n rising = true → s.shutCarries n = true →
      let alive := ∀ t0 : W64, sget (dflt none) s.cap.lastEdge n = some t0 → 8 ≤ (s.time.ltb - t0).toNat
      (alive → s.cap.fifo.length < 1024 → Completes (.shutterCapture chan rising) s fun t =>
        (∃ r, t.cap.fifo = s.cap.fifo ++ [r] ∧ r.count = s.cap.shutCount + 1 ∧ r.ltb = s.time.ltb - BitVec.ofNat 64 ((s.shutDelay n + 4) / 8) ∧
          r.ots = s.otsAgo ((s.shutDelay n + 4) / 8) ∧ fieldOf r.word 16 10 = n ∧ r.word.getLsbD 15 = rising ∧
          r.word.getLsbD 12 = s.cap.missed.contains n) ∧ sget (dflt none) t.cap.lastEdge n = some s.time.ltb ∧
          t.reg Reg.SHUT_FIFO_LVL = BitVec.ofNat 32 (s.cap.fifo.length + 1) ∧ t.flag Reg.SHUT_SHUT_EVT 0 = true ∧
          KeepsPages [0, 0xB9] s t ∧ KeepsMemory s t) ∧
      (alive → 1024 ≤ s.cap.fifo.length → Completes (.shutterCapture chan rising) s fun t =>
        t.cap.fifo = s.cap.fifo ∧ t.fld Reg.SHUT_DROP 16 16 = min (s.fld Reg.SHUT_DROP 16 16 + 1) 0xFFFF ∧ t.flag Reg.SHUT_SHUT_EVT 1 = true ∧
          KeepsPages [0, 0xB9] s t ∧ KeepsRest s t) ∧
      (∀ t0 : W64, sget (dflt none) s.cap.lastEdge n = some t0 → (s.time.ltb - t0).toNat < 8 → Completes (.shutterCapture chan rising) s fun t =>
        t.cap.fifo = s.cap.fifo ∧ t.cap.missed.contains n = true ∧ t.fld Reg.SHUT_DROP 0 16 = min (s.fld Reg.SHUT_DROP 0 16 + 1) 0xFFFF ∧
          (s.logOpen = true → t.shows 0x0B9 n 0x02 = true) ∧ KeepsPages [0, 0xB9] s t ∧ KeepsRest s t)) ∧
    (s.admits w 0x0B9 (Reg.SHUT_POP % 4096) = true → value.getLsbD 0 = true → Completes (.shutterPop w value) s fun t =>
      t.cap.fifo = s.cap.fifo.tail ∧ t.reg Reg.SHUT_FIFO_LVL = BitVec.ofNat 32 (s.cap.fifo.length - 1) ∧ KeepsPages [0xB9] s t ∧ KeepsRest s t) ∧
    (s.admits w 0x0BA (Reg.CSHEET_CMD % 4096) = true → s.flag (rk 0x0BA Reg.CTRL) 0 = true →
      (value.getLsbD 31 = true →
        let same := s.cap.snaps.any fun x => x.id == id
        let room := s.fld Reg.CSHEET_RBASE 0 23 + s.fld Reg.CSHEET_RCNT 0 7 * 4096 ≤ 8388608
        (8 ≤ s.cap.snaps.length → Completes (.snapshotArm w value) s (refused 3)) ∧
        (s.cap.snaps.length < 8 → same = true → Completes (.snapshotArm w value) s (refused 4)) ∧
        (s.cap.snaps.length < 8 → same = false → ¬room → Completes (.snapshotArm w value) s (refused 5)) ∧
        (s.cap.snaps.length < 8 → same = false → room → at_.toNat < s.otsNs.toNat + 20000 → Completes (.snapshotArm w value) s fun t =>
          refused 2 t ∧ t.flag Reg.CSHEET_CS_EVT 1 = true) ∧
        (s.cap.snaps.length < 8 → same = false → room → s.otsNs.toNat + 20000 ≤ at_.toNat → Completes (.snapshotArm w value) s fun t =>
          (∃ x, t.cap.snaps = s.cap.snaps ++ [x] ∧ x.id = id ∧ x.t = at_ ∧ x.ltbT = none) ∧
            t.reg Reg.CSHEET_RESULT = BitVec.ofNat 32 (2 ^ 28 + id) ∧ (s.logOpen = true → t.shows 0x0BA 0xFFF 0x01 = true) ∧ sheet t)) ∧
      (value.getLsbD 31 = false → value.getLsbD 30 = true →
        ((∃ x ∈ s.cap.snaps, x.id = id) → Completes (.snapshotCancel w value) s fun t =>
          t.cap.snaps = s.cap.snaps.filter (fun x => x.id != id) ∧ t.reg Reg.CSHEET_RESULT = BitVec.ofNat 32 (6 * 2 ^ 28 + id) ∧ sheet t) ∧
        ((∀ x ∈ s.cap.snaps, x.id ≠ id) → Completes (.snapshotCancel w value) s (refused 7)))) ∧
    (∀ (x : Snapshot) (t0 : W64), s.cap.snaps.find? (fun y => y.slot == slot.val) = some x → x.ltbT = some t0 →
      let all := s.countingChannels.all fun c => x.latched.contains c
      let base := s.fld Reg.CSHEET_RBASE 0 23 + 4096 * s.fld Reg.CSHEET_NEXT 0 6
      (t0.toNat ≤ s.time.ltb.toNat → (x.partially = true ∨ all = true) → Completes (.snapshotComplete slot) s fun t =>
        t.cap.snaps = s.cap.snaps.filter (fun m => m.slot != slot.val) ∧
          t.tpmAt base = { data := snapHeader (s.snapTakeLoops x), tag := 0 } ∧
          (∀ i, 1 ≤ i → i < 4096 → t.tpmAt (base + i) = sget (dflt {}) (s.snapWordsAll x t0) i) ∧
          (∀ a, (a < base ∨ base + 4096 ≤ a) → t.tpmAt a = s.tpmAt a) ∧ t.flag Reg.CSHEET_CS_EVT 0 = true ∧
          t.fld Reg.CSHEET_NEXT 0 6 = (s.fld Reg.CSHEET_NEXT 0 6 + 1) % max 1 (s.fld Reg.CSHEET_RCNT 0 7) % 64 ∧ KeepsPages [0, 0xBA] s t) ∧
      (x.partially = false → all = false → Completes (.snapshotLatchTimeout slot) s fun t =>
        t.cap.snaps.find? (fun y => y.slot == slot.val) = some { x with partially := true } ∧ t.flag Reg.CSHEET_CS_EVT 2 = true ∧
          (s.logOpen = true → t.shows 0x0BA 0xFFF 0x05 = true) ∧ sheet t))

/-- The twin link's lanes and heartbeats, and the peer's loss (R455, R456, R465 to R467, R471, R472, R477): a lane trains, comes up and
goes down; a heartbeat shows the peer; on its loss a STANDBY-READY module takes over, and the claim line decides; a module that does not
hold the claim starts up anew; OFF-LINE-WAIT ends. Switch-over, withdrawal and moved groups (R468 to R470, R474, R479): a keyed request
with a ready peer plans the first boundary 20 µs away, any other is refused; at the boundary the roles change and CLAIM.COUNT counts, and
after a STATION_FAULT the module re-integrates; a withdrawal gives the claim up; a moved group returns. Forms that answer a next state
here: heartbeatSend, twinHeartbeat, twinLaneDown, twinLaneUp, peerLost, claimLineVerdict, offLineWaitExit, switchRequest, autoSwitchover,
switchoverEffect, withdrawal, groupReturn, twinCellDiscarded, blockLockChange. -/
def Obligations.TwinLinkTakeoverAndSwitchOver : Prop :=
  (∀ (s : State) (lane : Fin 2),
     let n := lane.val
     let link := fun (t : State) => KeepsPages [0, 0xD0] s t ∧ KeepsRest s t
     (s.twinOn = true →
       (Completes .heartbeatSend s fun t => t.pair.hbSend = s.pair.hbSend + 1 ∧ t.regs = s.regs ∧ KeepsRest s t) ∧
       (∀ hb : Heartbeat,
         ((s.hbSeq n = none ∨ ∃ q, s.hbSeq n = some q ∧ hb.seq = q + 1) → Completes (.twinHeartbeat lane hb) s fun t =>
           t.hbSeq n = some hb.seq ∧ t.flag Reg.CLAIM_PEER 16 = true ∧ t.fld Reg.CLAIM_PEER 0 16 = hb.claim.toNat % 65536 ∧
             t.pair.peerFrame = hb.frame ∧ t.pair.peerPhase = hb.phase.toNat ∧ t.pair.peerRole = hb.role.toNat ∧
             (s.role = 2 → s.holder = true → s.fld Reg.SYS_BOOT_STAT 28 4 ≠ 3 → hb.claim.toNat / 2 ^ 14 % 4 = 2 → s.laneUp 0 = true → s.laneUp 1 = true →
               s.pair.lockLost = false →
               t.twinSync = true) ∧ KeepsMemory s t ∧ KeepsCores s t) ∧
         (∀ q : Byte, s.hbSeq n = some q → hb.seq ≠ q + 1 → Completes (.twinHeartbeat lane hb) s fun t =>
           t.hbSeq n = some hb.seq ∧ t.reg Reg.CLAIM_PEER = s.reg Reg.CLAIM_PEER ∧ t.pair.peerFrame = s.pair.peerFrame ∧
             (s.laneUp n = true → t.fld Reg.TWIN_HB_MISS (16 * n) 16 = min (s.fld Reg.TWIN_HB_MISS (16 * n) 16 + (hb.seq - q - 1).toNat) 0xFFFF) ∧
             link t)) ∧
       (∀ rtt : BitVec 16, s.laneUp n = false → Completes (.twinLaneUp lane rtt) s fun t =>
         t.laneUp n = true ∧ (n = 0 → t.fld Reg.TWIN_LANE_STAT 16 16 = rtt.toNat) ∧ t.flag Reg.TWIN_TWIN_EVT 0 = true ∧
           (s.logOpen = true → t.shows 0x0D0 0xFFF 0x01 = true) ∧ t.laneUp (1 - n) = s.laneUp (1 - n) ∧ link t) ∧
       (∀ locked : Bool, Completes (.blockLockChange lane locked) s fun t =>
         t.flag Reg.TWIN_LANE_STAT (4 * n + 1) = locked ∧ t.flag Reg.TWIN_LANE_STAT (4 * n + 2) = (locked && !s.laneUp n) ∧
           t.laneUp n = s.laneUp n ∧ t.laneUp (1 - n) = s.laneUp (1 - n) ∧ KeepsPages [0xD0] s t ∧ KeepsRest s t) ∧
       (∀ (fault : CellFault) (mc : Bool),
         let lo := if fault = .partially ∨ fault = .oversize then 0 else 16
         ((mc = false ∨ s.laneUp (1 - n) = true) → Completes (.twinCellDiscarded lane fault mc) s fun t =>
           t.fld (Reg.TWIN_LANE_CNTk + 4 * n) lo 16 = min (s.fld (Reg.TWIN_LANE_CNTk + 4 * n) lo 16 + 1) 0xFFFF ∧ t.twinSync = s.twinSync ∧
             KeepsPages [0xD0] s t ∧ KeepsRest s t) ∧
         (s.laneUp (1 - n) = false → Completes (.twinCellDiscarded lane fault true) s fun t =>
           t.twinSync = false ∧ (if s.role = 3 ∧ s.twinSync = true then t.role = 4 ∧ StopsAll s t else t.role = s.role ∧ KeepsRest s t)))) ∧
     (s.laneUp n = true → s.laneUp (1 - n) = true → Completes (.twinLaneDown lane) s fun t =>
       t.laneUp n = false ∧ t.laneUp (1 - n) = true ∧ t.twinSync = false ∧ t.flag Reg.TWIN_TWIN_EVT 1 = true ∧
         (s.logOpen = true → t.shows 0x0D0 0xFFF 0x02 = true) ∧ (s.role ≠ 3 → t.role = s.role ∧ (s.role ≠ 4 → KeepsRest s t)) ∧
         (s.role = 3 → s.twinSync = true → t.role = 4 ∧ StopsAll s t) ∧
         (s.role = 4 → s.twinSync = false → 1 ≤ s.joinStep → s.joinStep ≤ 7 → t.joinStep = 2 ∧ StopsAll s t)) ∧
     (s.flag Reg.CLAIM_PEER 16 = true →
       let lost := fun (t : State) =>
         t.flag Reg.CLAIM_PEER 16 = false ∧ t.laneUp 0 = false ∧ t.laneUp 1 = false ∧ t.twinSync = false ∧ t.flag Reg.TWIN_TWIN_EVT 2 = true ∧
           t.pair.sched = none ∧ (s.logOpen = true → t.shows 0x0D0 0xFFF 0x03 = true)
       (s.role = 3 → s.pair.ready = true → Completes .peerLost s fun t =>
         t.role = 2 ∧ t.pair.nextRole = some 3 ∧ t.pair.verdict = true ∧ t.pair.verdictDue = (s.fld Reg.CLAIM_PEER 18 2 == 0) ∧ t.pair.ready = false ∧ lost t ∧ KeepsRest s t) ∧
       ((s.role ≠ 3 ∨ s.pair.ready = false) → s.restartable = false → Completes .peerLost s fun t =>
         t.role = s.role ∧ lost t ∧ KeepsRest s t) ∧
       ((s.role ≠ 3 ∨ s.pair.ready = false) → s.restartable = true → Completes .peerLost s fun t =>
         t.role = 0 ∧ t.claimRole = 0 ∧ t.phase = 2 ∧ lost t ∧ StopsAll s t)) ∧
     (s.pair.verdict = true → s.pair.verdictDue = true →
       (s.fld Reg.CLAIM_PEER 18 2 = 1 → Completes .claimLineVerdict s fun t =>
         t.role = 6 ∧ t.claimRole = 0 ∧ t.pair.split = true ∧ t.pair.verdict = false ∧ t.boot.running = false ∧
           (s.isolated 0x040 = false → t.flag (rk 0x040 Reg.CTRL) 0 = false)) ∧
       (s.fld Reg.CLAIM_PEER 18 2 ≠ 1 → Completes .claimLineVerdict s fun t => t.pair.verdict = false ∧ t.role = s.role ∧ t.claimRole = s.claimRole)) ∧
     (s.role = 6 →
       (s.laneUp 0 = true ∨ s.laneUp 1 = true → Completes .offLineWaitExit s fun t =>
         t.role = 4 ∧ t.phase = 4 ∧ t.fld Reg.SYS_BOOT_STAT 26 2 = 3 ∧ t.pair.nextRole = some 1 ∧ StopsAll s t) ∧
       (s.laneUp 0 = false → s.laneUp 1 = false → s.fld Reg.CLAIM_PEER 18 2 = 0 → Completes .offLineWaitExit s fun t =>
         t.role = 0 ∧ t.claimRole = 0 ∧ t.phase = 2 ∧ t.twinSync = false ∧ StopsAll s t))) ∧
  (∀ (s : State) (w : Writer) (value : W32) (group : Fin 57),
     let planned := fun (t : State) => t.pair.sched = some (s.boundaryAfter 5000, .given) ∧ KeepsPages [0xD1] s t ∧ KeepsRest s t
     let can := s.peerReady = true ∧ (s.flag Reg.PWR_SUP_STAT 8 = false ∨ s.pair.peerBrownout = false)
     (s.admits w 0x0D1 (Reg.CLAIM_SWITCH % 4096) = true → value.getLsbD 0 = true →
       (keyed value 0x5357 = true → can → s.pair.sched = none → s.pair.withdraw = false → Completes (.switchRequest w value) s planned) ∧
       ((keyed value 0x5357 = false ∨ ¬can) → Completes (.switchRequest w value) s fun t =>
         t.pair.sched = s.pair.sched ∧ (s.logOpen = true → t.shows 0x0D1 0xFFF 0x0C = true) ∧ KeepsPages [0, 0xD1] s t ∧ KeepsRest s t)) ∧
     (s.role = 2 → s.flag Reg.CLAIM_CFG 16 = true → can → s.fld Reg.CLAIM_OWN 4 10 + s.fld Reg.CLAIM_CFG 0 10 ≤ s.fld Reg.CLAIM_PEER 4 10 →
       (∃ t0, s.proof.margin = some t0 ∧ 125000000 ≤ (s.time.ltb - t0).toNat) →
       s.pair.sched = none → s.pair.withdraw = false → Completes .autoSwitchover s planned) ∧
     (∀ g : W64, notAfter g s.lfi = true →
       (s.pair.sched = some (g, .given) → Completes .switchoverEffect s fun t =>
         t.role = 3 ∧ t.claimRole = 2 ∧ t.pair.ready = true ∧ t.pair.sched = none ∧ t.pair.moved = [] ∧
           t.fld Reg.CLAIM_COUNT 0 16 = min (s.fld Reg.CLAIM_COUNT 0 16 + 1) 0xFFFF ∧ t.flag Reg.CLAIM_CLAIM_EVT 1 = true ∧
           (s.logOpen = true → t.shows 0x0D1 0xFFF 0x02 = true) ∧ KeepsRest s t) ∧
       (s.pair.sched = some (g, .faulted) → Completes .switchoverEffect s fun t =>
         t.role = 4 ∧ t.claimRole = 2 ∧ t.pair.nextRole = some 1 ∧ t.twinSync = false ∧ t.pair.sched = none ∧ t.pair.moved = [] ∧
           t.fld Reg.CLAIM_COUNT 0 16 = min (s.fld Reg.CLAIM_COUNT 0 16 + 1) 0xFFFF ∧
           (s.logOpen = true → t.shows 0x0D1 0xFFF 0x02 = true) ∧ StopsAll s t) ∧
       (s.pair.sched = some (g, .taken) → Completes .switchoverEffect s fun t =>
         t.role = 2 ∧ t.claimRole = 3 ∧ t.holder = true ∧ t.pair.ready = false ∧ t.pair.sched = none ∧ t.debugLevel < 2 ∧ t.fld Reg.CLAIM_COUNT 0 16 = min (s.fld Reg.CLAIM_COUNT 0 16 + 1) 0xFFFF ∧
           (s.logOpen = true → t.shows 0x0D1 0xFFF 0x03 = true) ∧ KeepsRest s t)) ∧
     (s.pair.withdraw = true → Completes .withdrawal s fun t =>
       t.role = 5 ∧ t.claimRole = 0 ∧ t.holder = false ∧ t.pair.withdrawn = true ∧ t.pair.withdraw = false ∧ t.twinSync = false ∧
         t.pair.moved = [] ∧ (s.logOpen = true → t.shows 0x0D1 0xFFF 0x04 = true) ∧ StopsAll s t) ∧
     (s.pair.moved.contains (grpPage group.val) = true → s.holder = true → (s.grp group.val).link.rxOk = true → Completes (.groupReturn group) s fun t =>
       t.pair.moved.contains (grpPage group.val) = false ∧ t.pair.fromPeer.contains (grpPage group.val) = false ∧
         t.flag (movedBit (grpPage group.val)).1 (movedBit (grpPage group.val)).2 = false ∧
         (s.logOpen = true → t.shows 0x0D1 (grpPage group.val) 0x0B = true) ∧ KeepsPages [0, 0xD1] s t ∧ KeepsRest s t))

/-- What the twin link's cells bring to the module that does not hold the claim, and to the holder (R304, R460, R461, R464, R468, R474,
R475, R488): relayed bursts, the image and the tasks' events, commands with their boundary, hashes, covers, receipts and the bulk
transfer. Forms that answer a next state here: trigger, relayCellReceive, mirrorCellReceive, controlCellReceive, networkReceipt,
bulkCellReceive. -/
def Obligations.TwinCellsTakeEffect : Prop :=
  ∀ (s : State),
    (∀ bursts : List (Fin 57 × List Byte), s.relays = true →
      (∀ x ∈ bursts, ∀ y ∈ bursts, x.1 = y.1 → x = y) → ∀ x ∈ bursts,
        (s.linkOn x.1.val = true → Completes (.relayCellReceive false bursts) s fun t =>
          (t.grp x.1.val).link.relay = some (0xBC :: x.2.take 47) ∧ t.regs = s.regs ∧ KeepsMemory s t ∧ KeepsCores s t) ∧
        (Completes (.relayCellReceive true bursts) s fun t =>
          sget (dflt none) t.pair.relayNext x.1.val = some (0xBC :: x.2.take 47) ∧ t.regs = s.regs ∧ KeepsRest s t)) ∧
    (∀ m : MirrorMsg, s.twinOn = true → s.follower = true → Completes (.mirrorCellReceive m) s fun t =>
      ((∀ task, m ≠ .abort task) → t.regs = s.regs ∧ KeepsCores s t) ∧ match m with
        | .region g words => s.domState 6 = 2 → s.pair.moved.contains (grpPage g.val) = false →
            (∀ x ∈ words, ∀ y ∈ words, x.1 = y.1 → x = y) → ∀ x ∈ words, x.1 < 64 → t.tpmAt (s.openBuffer + 64 + 64 * g.val + x.1) = x.2
        | .bufferWords frame ltb => s.domState 6 = 2 → t.tpmAt (s.frameBuffer frame) = { data := frame, tag := 0 } ∧
            t.tpmAt (s.frameBuffer frame + 1) = { data := ltb, tag := 0 }
        | .taskStart task snap tt => (t.task task.val).holderStart = some (snap, tt) ∧ KeepsMemory s t
        | .commit task apply => (t.task task.val).holderApply = some apply ∧ KeepsMemory s t
        | .trigger task kind id ots release => (s.task task.val).stopped = false → (s.task task.val).queue.length < (s.desc task.val).qdepth →
            ∃ e, (t.task task.val).queue = (s.task task.val).queue ++ [e] ∧ e.kind = kind.toNat ∧ e.id = id ∧ e.ots = ots ∧ e.frame = release.toNat
        | .abort _ => s.role = 3 → s.twinSync = true → t.twinSync = false ∧ t.role = 4 ∧ StopsAll s t
        | .skip task release => (t.task task.val).skipped = true ∧ (t.task task.val).ovrTotal = (s.task task.val).ovrTotal + 1 ∧
            ((s.task task.val).lateAt = some release → (t.task task.val).lateAt = none) ∧
            ((s.task task.val).lateAt ≠ some release → (s.task task.val).active = true → (s.task task.val).relFrame = release → (s.task task.val).started = false →
              (t.task task.val).active = false)) ∧
    (∀ m : ControlMsg, s.twinOn = true → Completes (.controlCellReceive m) s fun t =>
      ((s.lockstep = false ∨ s.loop.own = [] ∨ (∀ l w v n g, m ≠ .loopWrite l w v n g) ∧ ∀ l o n g, m ≠ .fix l o n g) →
        KeepsMemory s t ∧ KeepsCores s t) ∧ match m with
      | .loopWrite loop word value _ g => s.follower = true → s.lockstep = false → s.wordCheck loop.val word.toNat value = 0 →
          ∃ e, t.loop.pend = s.loop.pend ++ [e] ∧ e.loop = loop.val ∧ e.word = word.toNat ∧ e.value = value ∧ e.at_ = g ∧ e.shown = false ∧ e.master = 0x1C
      | .fix loop opt _ g => s.follower = true → s.lockstep = false →
          ∃ e, t.loop.pend = s.loop.pend ++ [e] ∧ e.loop = loop.val ∧ e.word = LW.FIXCMD ∧ e.value.data = BitVec.ofNat 64 opt.toNat ∧ e.at_ = g ∧
            e.shown = false ∧ e.master = 0x1C ∧ t.regs = s.regs
      | .regWrite p off v src g => s.follower = true → t.pair.mirrored = s.pair.mirrored ++ [(g, p, off, v, src)] ∧ t.regs = s.regs
      | .tpmWrite word v g => s.follower = true → t.pair.mirroredTpm = s.pair.mirroredTpm ++ [(g, word.toNat, v)] ∧ t.regs = s.regs
      | .switchOver g => s.role = 3 → s.pair.ready = true → t.pair.sched = some (g, .taken) ∧ t.regs = s.regs
      | .withdraw g => s.role = 3 → s.pair.ready = true → t.pair.sched = some (g, .taken) ∧ t.regs = s.regs
      | .cancelSwitch => t.pair.sched = none ∧ t.regs = s.regs
      | .hash frame h => sget (dflt none) t.pair.peerHash frame.toNat = some h ∧ t.regs = s.regs
      | .group g on adm => (t.grp g.val).link.peerDomOn = on ∧ (t.grp g.val).link.peerAdm = adm ∧ t.regs = s.regs
      | .moved g on => s.holder = false → t.pair.moved.contains (grpPage g.val) = on ∧ t.regs = s.regs
      | .brownout on => t.pair.peerBrownout = on ∧ t.regs = s.regs
      | .bulkStart => s.holder = true → t.pair.marking = true ∧ t.pair.marked = [] ∧ t.reg Reg.TWIN_BULK = 0 ∧ KeepsPages [0xD0] s t
      | .cover g on => t.proof.covered.contains g.val = on ∧ t.regs = s.regs
      | .coverAsk g pulse => (∀ c : Fin 16, pulse = some c → ((s.grp g.val).dgc c.val).on = true ∧
          s.fld (rk (grpPage g.val) (0x10C + 4 * (c.val / 8))) (4 * (c.val % 8)) 4 = 0) → (s.grp g.val).holder ≠ 0 → (s.grp g.val).link.rxOk = true → (grpKind g.val = 0x80 ∨ s.drvSel g.val = true) →
          (s.proof.queue.filter fun r => r.disturbs && r.group == g.val) = [] → t.proof.reserved.contains g.val = true ∧ t.regs = s.regs
      | .coverEnd g => t.proof.reserved.contains g.val = false ∧ t.regs = s.regs) ∧
    (∀ r : Receipt, s.follower = true →
      (match r.iface with
        | .can n => s.claimCan n.val r = none
        | .eth sw => s.claimEth sw.val r = none) → Completes (.networkReceipt r) s fun t => t.pair.owed = s.pair.owed ++ [r] ∧ t.regs = s.regs ∧ KeepsRest s t) ∧
    (∀ (r : Receipt) (n : Fin 8) (x : StagedCan), s.follower = true → r.iface = .can n →
      (s.canCtl n.val).staging.find? (fun e => e.release.isNone && crc64 (canBytes e.frame) == r.crc) = some x →
      Completes (.networkReceipt r) s fun t => t.pair.owed = s.pair.owed ∧ t.regs = s.regs ∧ KeepsRest s t ∧
        { x with release := some r.release, obj := r.dest, stamps := r.stamps } ∈ (t.canCtl n.val).staging) ∧
    (∀ m : BulkMsg, s.twinOn = true → (s.role = 4 ∨ s.follower = true) → Completes (.bulkCellReceive m) s fun t => KeepsCores s t ∧ match m with
      | .tpm word words => word.toNat + words.length ≤ 8388608 →
          (∀ i < words.length, t.tpmAt (word.toNat + i) = (words[i]?).getD {}) ∧ t.regs = s.regs ∧
            ∀ a, (a < word.toNat ∨ word.toNat + words.length ≤ a) → t.tpmAt a = s.tpmAt a
      | .loopWord loop word v => s.domState 6 = 2 → t.lw loop.val word.toNat = v ∧ t.regs = s.regs ∧ KeepsMemory s t
      | .engine loop ack session => s.domState 6 = 2 → t.loop.ack.contains loop.val = ack ∧ sget (dflt none) t.loop.tune loop.val = session ∧
          KeepsLoops s t ∧ t.regs = s.regs ∧ KeepsMemory s t
      | .ttBase v => t.boot.ttBase = v ∧ t.regs = s.regs ∧ KeepsMemory s t
      | .epoch v => t.fld (rk 0x0F0 Reg.NET_TW_EPOCH) 0 8 = v.toNat ∧ KeepsPages [0xF0] s t ∧ KeepsMemory s t
      | .canSeq n k q first => s.domState (10 + n.val) = 2 → t.objField n.val k.val Obj.OSTAT 48 8 = q.toNat ∧
          t.objField n.val k.val Obj.OSTAT 40 8 = first.toNat ∧ t.regs = s.regs
      | .canPayload n k f st g => (t.canCtl n.val).staging =
          (s.canCtl n.val).staging ++ [{ obj := k.val, frame := f, stamps := st, release := some g }] ∧ t.regs = s.regs ∧ KeepsMemory s t
      | .ethPayload sw ring b info st g => (t.eth sw.val).staging =
          (s.eth sw.val).staging ++ [{ bytes := b, info := info, stamps := st, ring := ring.val, release := some g }] ∧ t.regs = s.regs ∧ KeepsMemory s t)

/-- Re-integration (R459, R475 to R478): check, align, bulk passes, the delta at g_j, catch-up, the join of the tasks, sixteen matching
hashes, and the failure that begins again; a keyed REJOIN clears the failures. Forms that answer a next state here: reintegrationCheck,
reintegrationAlign, bulkPass, delta, catchUp, taskJoin, joinProof, joinFail, rejoin. -/
def Obligations.ReintegrationGoesStepByStep : Prop :=
  ∀ (s : State),
    (s.atStep 1 = true → ∀ (same : Bool) (digest : BitVec 384) (matrix : W32),
      (same = true → digest = s.boot.digest → Completes (.reintegrationCheck same digest matrix) s fun t =>
        t.joinStep = 2 ∧ t.role = 4 ∧ (matrixId s.laneX.table ≠ matrix.toNat → s.logOpen = true → t.shows 0x0D0 0xFFF 0x0D = true) ∧
          KeepsPages [0, 0xD0] s t ∧ KeepsRest s t) ∧
      ((same = false ∨ digest ≠ s.boot.digest) → Completes (.reintegrationCheck same digest matrix) s fun t =>
        t.role = 5 ∧ t.joinStep = 0 ∧ (s.logOpen = true → t.shows 0x0D0 0xFFF (if same then 0x09 else 0x08) = true) ∧ KeepsRest s t)) ∧
    (s.atStep 2 = true → s.laneUp 0 = true → s.laneUp 1 = true →
      (s.pair.aligned = false → Completes .reintegrationAlign s fun t =>
        t.lfi = s.pair.peerFrame ∧ t.lfiCyc = (s.pair.peerPhase + s.fld Reg.TWIN_LANE_STAT 16 16 / 8) % 15625 ∧ t.pair.aligned = true ∧
          t.pair.inTol = 0 ∧ t.fld Reg.TWIN_SYNC 0 16 = 0 ∧ t.joinStep = 2 ∧ (∀ k < 57, (t.grp k).link.wire0 = none) ∧ KeepsMemory s t ∧ KeepsCores s t) ∧
      (s.pair.aligned = true → 16 ≤ s.pair.inTol → Completes .reintegrationAlign s fun t =>
        t.joinStep = 3 ∧ t.reg Reg.TWIN_BULK = 0 ∧ KeepsPages [0xD0] s t ∧ KeepsRest s t)) ∧
    (∀ dirty : BitVec 16,
      (s.atStep 3 = true → Completes (.bulkPass dirty) s fun t =>
        t.fld Reg.TWIN_BULK 0 16 = (s.fld Reg.TWIN_BULK 0 16 + 1) % 65536 ∧ t.fld Reg.TWIN_BULK 16 16 = dirty.toNat ∧
          t.joinStep = (if dirty.toNat ≤ 64 then 4 else 3) ∧ KeepsPages [0xD0] s t ∧ KeepsRest s t) ∧
      (s.atStep 3 = false → s.pair.marking = true → Completes (.bulkPass dirty) s fun t =>
        t.fld Reg.TWIN_BULK 16 16 = min s.pair.marked.length 0xFFFF ∧ t.pair.marked = (if s.pair.marked.length ≤ 64 then s.pair.marked else []) ∧
          KeepsPages [0xD0] s t ∧ KeepsRest s t)) ∧
    (∀ g : W64,
      (s.atStep 4 = true → Completes (.delta g) s fun t => t.joinStep = 5 ∧ t.pair.joinFrame = g ∧ t.pair.joinRing = [] ∧ KeepsPages [0xD0] s t ∧ KeepsRest s t) ∧
      (s.atStep 4 = false → s.pair.marking = true → Completes (.delta g) s fun t =>
        t.pair.joinFrame = g ∧ t.pair.marking = false ∧ t.pair.joinBuf = s.loop.words.filter (fun e => sampleWord (e.1 % 256)) ∧
          t.regs = s.regs ∧ KeepsRest s t)) ∧
    (s.atStep 5 = true → (s.lfi - s.pair.joinFrame).toNat ≤ 32 → Completes .catchUp s fun t =>
      t.joinStep = 6 ∧ t.boot.running = true ∧ t.pair.joinRing = [] ∧
        (s.pair.joinRing = [] → (∀ n < 32, (t.desc n).cls ≠ .unused → (t.task n).joining = true) ∧
          (s.isolated 0x040 = false → t.flag (rk 0x040 Reg.CTRL) 0 = true) ∧ KeepsPages [0x40, 0xD0] s t ∧ KeepsRest s t)) ∧
    (∀ (task : Fin 32) (cycle prev : W64), s.atStep 6 = true → (s.task task.val).joining = true →
      (∀ n < 32, sget (dflt 0) s.mem.tpmErr (s.desc n).select = 0) →
      ((∀ n < 32, n ≠ task.val → (s.task n).joining = false) → Completes (.taskJoin task cycle prev) s fun t =>
        t.joinStep = 7 ∧ t.pair.proofRun = 0 ∧ t.pair.hashFrom = s.lfi + 1 ∧ (t.task task.val).joining = false ∧ KeepsMemory s t) ∧
      ((∃ n < 32, n ≠ task.val ∧ (s.task n).joining = true) → Completes (.taskJoin task cycle prev) s fun t =>
        t.joinStep = 6 ∧ (t.task task.val).joining = false ∧ KeepsMemory s t)) ∧
    (s.atStep 7 = true → 16 ≤ s.pair.proofRun → s.debugLevel < 2 → Completes .joinProof s fun t =>
      t.role = 3 ∧ t.joinStep = 8 ∧ t.twinSync = true ∧ t.pair.ready = true ∧ t.pair.nextRole = some 2 ∧ (s.phase = 4 → t.phase = 5) ∧
        t.flag Reg.TWIN_TWIN_EVT 5 = true ∧ (s.logOpen = true → t.shows 0x0D0 0xFFF 0x07 = true) ∧ KeepsRest s t) ∧
    ((s.atStep 5 = true ∧ 32 < (s.lfi - s.pair.joinFrame).toNat ∨ s.atStep 7 = true ∧ s.flag Reg.TWIN_SYNC 26 = true) → Completes .joinFail s fun t =>
      let l := (s.pair.joinFails.filter fun x => decide ((s.time.ltb - x).toNat < 75000000000)) ++ [s.time.ltb]
      t.pair.joinFails = l ∧ t.fld Reg.TWIN_SYNC 24 2 = min 3 l.length ∧ t.joinStep = (if 3 ≤ l.length then 0 else 2) ∧ t.role = 4 ∧
        t.flag Reg.TWIN_TWIN_EVT 4 = true ∧ (s.logOpen = true → t.shows 0x0D0 0xFFF 0x0A = true) ∧ StopsAll s t) ∧
    (∀ (w : Writer) (value : W32), s.admits w 0x0D0 (Reg.TWIN_REJOIN % 4096) = true → value.getLsbD 0 = true → keyed value 0x524A = true →
      Completes (.rejoin w value) s fun t => t.pair.joinFails = [] ∧ t.fld Reg.TWIN_SYNC 24 2 = 0 ∧ t.role = s.role ∧ (s.role = 4 → t.joinStep = 1 ∧ StopsAll s t) ∧
        (s.role ≠ 4 → KeepsRest s t))

/-- A loop frame boundary (R254, R255) and a field period (R341, R342): with tasks, loops and writes from outside at rest the index rises
by 1, LFI_CYC is 0 and SYS.IRQ_RAW bit 6 is pended where enabled; a period puts the composed burst of its group on the wire with the
claim, the time and the phase at its start. Forms that answer a next state here: loopFrameBoundary, fieldPeriodStart. -/
def Obligations.FramesAndPeriodsBegin : Prop :=
  ∀ (s : State),
    (∀ die : BitVec 16, s.sysRuns = true → s.boot.image = none → s.boot.running = false → s.boot.starting = false → s.boot.shut = .none →
      s.pair.mirrored = [] → s.pair.mirroredTpm = [] → s.pair.domReq = [] → s.twinSync = false → s.role ≠ 4 → s.loop.own = [] → s.domState 6 ≠ 2 →
      (∀ n < 8, s.testState n ≠ 1) → s.isolated 0x0D2 = true → Completes (.loopFrameBoundary die) s fun t =>
        t.lfi = s.lfi + 1 ∧ t.lfiCyc = 0 ∧ (s.flag (rk 0x000 Reg.IRQ_EN) 6 = true → t.flag (rk 0x000 Reg.IRQ_PEND) 6 = true) ∧
          t.fld Reg.CLAIM_OWN 4 10 = s.fld Reg.PROOF_SCORE 0 10 ∧ t.pair.stretch = 0 ∧ KeepsMemory s t ∧ KeepsCores s t) ∧
    (∀ (k : Fin 57) (b : List Byte), s.logicRuns = true → s.pair.nextRole = none → s.cap.snaps = [] → s.proof.busy = none → (∀ n < 8, s.testState n ≠ 1) →
      grpKind k.val ≠ 0 → s.linkOn k.val = true → s.sendsStreams = true → (s.grp k.val).link.rxOk = false →
      (s.grp k.val).link.timedOut = false → (s.grp k.val).link.missed < 5 → (s.grp k.val).link.composed = some b →
      (∀ j < 57, j ≠ k.val → s.linkOn j = false ∧ (s.grp j).link.rxOk = false ∧ (s.grp j).link.timedOut = false ∧
        (s.grp j).link.shown = false ∧ (s.grp j).link.reporting = false ∧ (s.grp j).link.relay = none ∧ (s.grp j).link.wire0 = none) → Completes .fieldPeriodStart s fun t =>
        (t.grp k.val).link.wire0 = some (s.leaving k.val 0 b) ∧ (t.grp k.val).link.missed = (s.grp k.val).link.missed + 1 ∧
          (t.grp k.val).link.wireRep = none ∧ t.pair.relayNext = [] ∧ (∀ j < 57, j ≠ k.val → t.grp j = s.grp j) ∧ KeepsMemory s t ∧ KeepsCores s t)

/-- Proof (R481 to R488, R494 to R497): a test that fails is repeated and counted, and a repeat that fails latches; a request takes a
ticket and is queued, refused or another module's; the front request runs, a test that fails once again, and its result is shown; the
health report is published. Test Strip (R634 to R640): START runs a session whose link may be tested, and refuses one with its WHY; STOP
and DUR end it in DONE with its errors counted; a second counts its errors; a checker gains and loses sync. Forms that answer a next state
here: coreSelfTestSlice, goldenVectorSet, mramScan, norImageCheck, pulseTestEnd, healthReportPublish, proofReqCoreTest,
proofReqGoldenVectors, proofReqSpareVisit, proofReqPulseTest, proofReqCalibration, proofReqLinkTest, proofReqHoldup, proofReqClearPulse,
proofRequestRun, testSessionStart, testSessionStop, testSessionDone, testSecond, checkerSyncChange. -/
def Obligations.ProofTestsAndTestSessions : Prop :=
  (∀ (s : State) (w : Writer) (core : Fin 4) (target : BitVec 16) (side : BitVec 2),
     let rest := fun (t : State) => KeepsPages [0, 0xD2] s t ∧ KeepsRest s t
     let passes := fun (b : Nat) (t : State) => t.proof.failed.contains b = false ∧ t.proof.latched = s.proof.latched ∧ rest t
     let fails := fun (b : Nat) (t : State) =>
       (s.proof.failed.contains b = false → t.proof.failed.contains b = true ∧ t.proof.latched = s.proof.latched ∧
         t.fld Reg.PROOF_ROUND 0 16 = min (s.fld Reg.PROOF_ROUND 0 16 + 1) 0xFFFF ∧ (s.logOpen = true → t.shows 0x0D2 b 0x03 = true)) ∧
       (s.proof.failed.contains b = true → t.proof.failed.contains b = false ∧ t.proof.latched.contains b = true) ∧ rest t
     (s.logicRuns = true →
       (s.coreThere core.val = true → s.coreBusy core.val = false → s.lfiCyc + 5500 ≤ 15625 →
         Completes (.coreSelfTestSlice core true true) s (fun t => passes (16 + core.val) t ∧ t.proof.done.contains core.val = true) ∧
         Completes (.coreSelfTestSlice core false true) s (fun t => t = s) ∧
         ∀ last : Bool, Completes (.coreSelfTestSlice core last false) s (fails (16 + core.val))) ∧
       (∀ last ok : Bool, (s.coreBusy core.val = true ∨ 15625 < s.lfiCyc + 5500) → Completes (.coreSelfTestSlice core last ok) s fun t => t = s) ∧
       (s.domState 6 = 2 →
         Completes (.goldenVectorSet none) s (fun t => passes 20 t ∧ t.proof.done.contains 4 = true) ∧
         ∀ v : Fin 64, Completes (.goldenVectorSet (some v)) s (fails 20)) ∧
       Completes (.norImageCheck true) s (passes 22) ∧ Completes (.norImageCheck false) s (fails 22) ∧
       (s.mem.mramErr = [] → Completes .mramScan s fun t => t.proof.mramOnce = [] ∧ t.proof.mramBad = [] ∧ t.regs = s.regs ∧ KeepsRest s t) ∧
       (∀ u : Nat, s.mem.mramErr = [(u, 2)] → Completes .mramScan s fun t =>
         t.proof.mramOnce = [u] ∧ (s.proof.mramOnce.contains u = true → t.proof.mramBad.contains u = true))) ∧
     (∀ (group : Fin 32) (outcome : BitVec 3) (ack : Nat), (s.grp group.val).pulse.map (·.1) = some ack →
       Completes (.pulseTestEnd group outcome) s fun t =>
         (t.grp group.val).pulse = none ∧ (t.grp group.val).mbAck = ack ∧
           (t.grp group.val).mbRes = (if outcome = 0 then 0 else if outcome = 5 then 5 else 4) ∧ KeepsAllButGroup group.val s t) ∧
     (s.admits w 0x0D2 (Reg.PROOF_REQ % 4096) = true →
       let requests := fun (c : Instr) (kind : Nat) =>
         let ticket := (s.fld Reg.PROOF_REQ_TKT 0 8 + 1) % 256
         let shown := fun (result : Nat) (t : State) => t.proof.queue = s.proof.queue ∧
           t.reg Reg.PROOF_REQ_RES = BitVec.ofNat 32 (result * 2 ^ 28 + kind * 2 ^ 16 + ticket) ∧ t.flag Reg.PROOF_PROOF_EVT 2 = true ∧
             (s.logOpen = true → t.shows 0x0D2 0xFFF 0x05 = true) ∧ rest t
         (targetOk kind target.toNat = true → s.proof.queue.length < 16 → (side = 0 ∨ side.toNat = s.side) → Completes c s fun t =>
           t.proof.queue = s.proof.queue ++ [{ kind := kind, target := target.toNat, ticket := ticket }] ∧
             t.fld Reg.PROOF_REQ_TKT 0 8 = ticket ∧ t.fld Reg.PROOF_REQ_TKT 8 5 = s.proof.queue.length + 1 ∧ KeepsPages [0xD2] s t ∧ KeepsRest s t) ∧
         ((targetOk kind target.toNat = false ∨ 16 ≤ s.proof.queue.length) → Completes c s (shown 5)) ∧
         (targetOk kind target.toNat = true → s.proof.queue.length < 16 → side ≠ 0 → side.toNat ≠ s.side → Completes c s (shown 6))
       requests (.proofReqCoreTest w side target) 1 ∧ requests (.proofReqGoldenVectors w side target) 2 ∧
         requests (.proofReqSpareVisit w side target) 3 ∧ requests (.proofReqPulseTest w side target) 4 ∧
         requests (.proofReqCalibration w side target) 5 ∧ requests (.proofReqLinkTest w side target) 6 ∧
         requests (.proofReqHoldup w side target) 7 ∧ requests (.proofReqClearPulse w side target) 8) ∧
     (∀ (r : ProofReq) (l : List ProofReq) (f : ProofFinding), s.logicRuns = true → s.proof.queue = r :: l →
       let ends := fun (result : Nat) (t : State) => t.proof.queue = l ∧ t.proof.busy = none ∧
         t.reg Reg.PROOF_REQ_RES = BitVec.ofNat 32 (result * 2 ^ 28 + r.kind * 2 ^ 16 + r.ticket) ∧ t.flag Reg.PROOF_PROOF_EVT 2 = true
       (r.kind = 1 ∨ r.kind = 2 →
         let b := if r.kind = 1 then 16 + r.target else 20
         ((f.ok = true ∨ s.proof.failed.contains b = true) → Completes (.proofRequestRun f) s fun t =>
           ends (if f.ok then 1 else 2) t ∧ t.proof.failed.contains b = false ∧ (f.ok = false → t.proof.latched.contains b = true)) ∧
         (f.ok = false → s.proof.failed.contains b = false → Completes (.proofRequestRun f) s fun t =>
           t.proof.queue = r :: l ∧ t.proof.failed.contains b = true ∧ t.proof.latched = s.proof.latched)) ∧
       (r.kind = 7 → Completes (.proofRequestRun f) s (ends (if f.time.toNat < 200 then 2 else 1))) ∧
       (r.kind = 8 → Completes (.proofRequestRun f) s fun t => ends 1 t ∧ t.proof.pulseBad.contains r.channel = false) ∧
       (r.disturbs = true → s.proof.busy = none →
         (s.mayDisturb r = false → Completes (.proofRequestRun f) s (ends 3)) ∧
         (s.mayDisturb r = true → r.kind = 4 → Completes (.proofRequestRun f) s fun t =>
           t.proof.queue = r :: l ∧ t.proof.busy = some (s.duty r.group) ∧ t.regs = s.regs ∧
             ∃ o, (t.grp r.group).link.special = (s.grp r.group).link.special ++ [o] ∧ o.op = 1 ∧ o.addr = 0x1F0)) ∧
       (r.kind = 5 → s.proof.busy.isSome = true → Completes (.proofRequestRun f) s fun t =>
         ends (if s.calibrated r.group f then 1 else 2) t ∧ t.proof.calBad.contains r.channel = !s.calibrated r.group f)) ∧
     (s.logicRuns = true → s.flag Reg.PROOF_CFG 16 = true → s.silent = false → s.role < 4 → s.ownPair ≠ 0 → Completes .healthReportPublish s fun t =>
       t.proof.seq = (s.proof.seq + 1) % 2 ^ 24 ∧ KeepsMemory s t ∧ KeepsCores s t ∧
         (s.ethOn 0 = false → s.ethOn 1 = false → t.regs = s.regs)) ∧
     (s.flag Reg.PROOF_CFG 16 = false → Completes .healthReportPublish s fun t => t = s)) ∧
  (∀ (s : State) (w : Writer) (session : Fin 8) (group : Fin 57) (bits : W64) (errors : W32),
     let n := session.val
     let x := s.session n
     let stat := testKey Reg.TEST_SSTAT n
     let page := fun (t : State) => KeepsPages [0, 6] s t ∧ KeepsMemory s t ∧ KeepsCores s t ∧ KeepsLoops s t
     let done := fun (t : State) => t.testState n = 2 ∧ t.flag Reg.TEST_TEST_EVT n = true ∧ (s.logOpen = true → t.shows 0x006 n 0x02 = true) ∧ page t
     (s.admits w 0x006 (testKey Reg.TEST_SCMD n % 4096) = true →
       (s.testWhy n = 0 → Completes (.testSessionStart w session) s fun t =>
         t.testState n = 1 ∧ t.fld stat 24 4 = 0 ∧ t.reg (testKey Reg.TEST_BERR n) = 0 ∧ (t.session n).dur = s.testDur n ∧ (t.session n).secs = 0 ∧
           (s.logOpen = true → t.shows 0x006 n 0x01 = true) ∧ page t) ∧
       (s.testWhy n ≠ 0 → Completes (.testSessionStart w session) s fun t =>
         t.testState n = 3 ∧ t.fld stat 24 4 = s.testWhy n ∧ (s.logOpen = true → t.shows 0x006 n 0x03 = true) ∧ page t) ∧
       (s.testState n = 1 → Completes (.testSessionStop w session bits errors) s fun t => done t ∧
         (s.unchecked n = false → (t.reg (testKey Reg.TEST_BERR n)).toNat = min ((s.reg (testKey Reg.TEST_BERR n)).toNat + errors.toNat) 0xFFFFFFFF))) ∧
     (s.testState n = 1 →
       (x.dur ≠ 0 → x.dur ≤ x.secs → Completes (.testSessionDone session) s done) ∧
       ((x.dur = 0 ∨ x.secs < x.dur) → Completes (.testSecond (.session session) bits errors) s fun t =>
         t.testState n = 1 ∧ (t.session n).secs = x.secs + 1 ∧ t.fld (testKey Reg.TEST_SEC0 n) 0 16 = min (s.fld (testKey Reg.TEST_SEC0 n) 0 16 + 1) 0xFFFF ∧
           (s.unchecked n = false → x.bad = true ∨ errors ≠ 0 →
             t.fld (testKey Reg.TEST_SEC1 n) 0 16 = min (s.fld (testKey Reg.TEST_SEC1 n) 0 16 + 1) 0xFFFF) ∧
           (s.unchecked n = false → x.bad = false → errors = 0 →
             t.fld (testKey Reg.TEST_SEC0 n) 16 16 = min (s.fld (testKey Reg.TEST_SEC0 n) 16 16 + 1) 0xFFFF) ∧ page t) ∧
       (s.unchecked n = false → ∀ sync : Bool, Completes (.checkerSyncChange (.session session) sync) s fun t =>
         t.flag stat 0 = sync ∧ t.testState n = 1 ∧ (s.flag stat 0 = true → sync = false →
           t.fld (testKey Reg.TEST_SEC1 n) 16 16 = min (s.fld (testKey Reg.TEST_SEC1 n) 16 16 + 1) 0xFFFF ∧
             (t.session n).bad = true ∧ (s.logOpen = true → t.shows 0x006 n 0x05 = true)) ∧ page t)) ∧
     (grpKind group.val ≠ 0 →
       (Completes (.testSecond (.idle group) bits errors) s fun t =>
         t.idle group.val = (s.idle group.val).second bits errors ∧ t.proof.done.contains (0x100 + group.val) = true ∧ page t) ∧
       (∀ sync : Bool, Completes (.checkerSyncChange (.idle group) sync) s fun t =>
         (t.idle group.val).sync = sync ∧ ((s.idle group.val).sync = true → sync = false →
           (t.idle group.val).lossSync = (s.idle group.val).lossSync + 1 ∧ (s.logOpen = true → t.shows 0x006 0xFFF 0x05 = true)) ∧ page t)))

/-- CAN objects (R504 to R519): a frame that a filter accepts is delivered and its object POSTED, or staged where the pair mirrors; a post
is queued, dropped by a silent module, or refused while it is under way; an abort, a release and a disable end an object; an object is
sent and DONE, and a module that has become silent drops what is posted. Forms that answer a next state here: canFrameReceive,
canFramePost, canStagingDiscard, canPost, canAbort, canRelease, canObjectDisable, canTransmitStart, canTransmitComplete. -/
def Obligations.CanObjectsReceiveAndSend : Prop :=
  ∀ (s : State) (ctrl : Fin 8) (obj : Fin 128) (stamps : Stamps),
    let n := ctrl.val
    let k := obj.val
    let x := s.canCtl n
    let frame := fun (t : State) =>
      KeepsPages [0, canPage n] s t ∧ (∀ a, (a < objAt n k ∨ objAt n k + 0x80 ≤ a) → t.canByte a = s.canByte a) ∧
        (∀ a, t.tpmAt a = s.tpmAt a) ∧ KeepsCores s t ∧ KeepsLoops s t ∧ KeepsGroups s t
    let delivered := fun (f : CanFrame) (st : Stamps) (t : State) =>
      t.objState n k = 6 ∧ (∀ i < min (min (s.ocfg n k 32 8) 64) f.data.length, t.canByte (objAt n k + 0x40 + i) = (f.data[i]?).getD 0) ∧
        t.objWord n k Obj.ORXID = orxid f ∧ t.objWord n k Obj.TSL = st.tsl ∧ t.objWord n k Obj.TSO = st.tso ∧
        t.objField n k Obj.OSTAT 36 4 = f.dlc.toNat ∧ t.flag (canKey n 0x130) 0 = true ∧ frame t
    (∀ f : CanFrame, s.canLive n = true → s.onWireObj n = none → s.acceptor n f = some k → s.headsChain n k = false →
      (s.mirroring = false → s.ocfg n k 61 1 = 0 → s.objState n k ≠ 6 → Completes (.canFrameReceive ctrl f stamps) s (delivered f stamps)) ∧
      (s.mirroring = false → s.ocfg n k 61 1 = 0 → s.objState n k = 6 → s.ocfg n k 56 1 = 0 → Completes (.canFrameReceive ctrl f stamps) s fun t =>
        t.objState n k = 6 ∧ t.objWord n k Obj.ORXID = s.objWord n k Obj.ORXID ∧ t.objField n k Obj.OSTAT 34 1 = 1 ∧
          t.flag (canKey n 0x130) 4 = true ∧ frame t) ∧
      (s.mirroring = true → s.holder = false → x.staging.length < 64 → Completes (.canFrameReceive ctrl f stamps) s fun t =>
        (t.canCtl n).staging = x.staging ++ [{ obj := k, frame := f, stamps := stamps, release := none }] ∧ t.objState n k = s.objState n k ∧ frame t)) ∧
    (∀ e : StagedCan, x.staging.find? s.canDue = some e → e.obj = k → s.holder = true →
      (s.objEn n k = true → s.headsChain n k = false → s.objState n k ≠ 6 → Completes (.canFramePost ctrl) s fun t =>
        delivered e.frame e.stamps t ∧ (t.canCtl n).staging = x.staging.erase e) ∧
      (s.objEn n k = false → Completes (.canFramePost ctrl) s fun t =>
        (t.canCtl n).staging = x.staging.erase e ∧ t.regs = s.regs ∧ KeepsRest s t)) ∧
    (∀ e : StagedCan, x.staging.find? (fun y => y.release.isNone) = some e → Completes (.canStagingDiscard ctrl) s fun t =>
      (t.canCtl n).staging = x.staging.erase e ∧ t.regs = s.regs ∧ KeepsRest s t) ∧
    (s.domState (10 + n) = 2 →
      (s.objEn n k = true → s.objTx n (s.headOf n k) = true →
        (s.objState n k ≠ 1 → s.objState n k ≠ 2 → s.twinRefused n k = false →
          (s.silent = false → s.pair.verdict = false → Completes (.canPost ctrl obj) s fun t =>
            t.objState n k = 1 ∧ (t.canCtl n).posts = x.posts ++ [k] ∧ t.objField n k Obj.OSTAT 16 8 = 0 ∧
              t.flag (canKey n 0x140 + 4 * (k / 32)) (k % 32) = true ∧ t.bus.resp = .okay ∧ frame t) ∧
          (s.silent = true → Completes (.canPost ctrl obj) s fun t => t.objState n k = 5 ∧ (t.canCtl n).posts = x.posts ∧ frame t)) ∧
        (s.objState n k = 1 ∨ s.objState n k = 2 ∨ s.twinRefused n k = true → Completes (.canPost ctrl obj) s fun t =>
          t.objState n k = s.objState n k ∧ (t.canCtl n).posts = x.posts ∧ (s.logOpen = true → t.shows (canPage n) k 0x09 = true) ∧ frame t)) ∧
      (s.objTx n (s.headOf n k) = true →
        (s.objState n k = 1 → Completes (.canAbort ctrl obj) s fun t => t.objState n k = 4 ∧ (t.canCtl n).posts.contains k = false ∧ frame t) ∧
        (s.objState n k = 2 → Completes (.canAbort ctrl obj) s fun t =>
          (t.canCtl n).aborting.contains k = true ∧ t.objState n k = 2 ∧ t.regs = s.regs ∧ frame t)) ∧
      (s.objTx n (s.headOf n k) = false → s.objState n k = 6 → Completes (.canRelease ctrl obj) s fun t =>
        t.objState n k = 0 ∧ t.flag (canKey n 0x150 + 4 * (k / 32)) (k % 32) = false ∧ frame t) ∧
      (s.objEn n k = true → s.objState n k ≠ 2 → Completes (.canObjectDisable ctrl obj) s fun t =>
        t.objState n k = 7 ∧ t.objEn n k = false ∧ t.objField n k Obj.OSTAT 56 8 = (s.objField n k Obj.OSTAT 56 8 + 1) % 256 ∧
          (t.canCtl n).posts.contains k = false ∧ frame t) ∧
      (s.objEn n k = true → s.objState n k = 2 → Completes (.canObjectDisable ctrl obj) s fun t =>
        t.objState n k = 2 ∧ t.objEn n k = false ∧ (t.canCtl n).disabling.contains k = true ∧ frame t)) ∧
    (s.canLive n = true → s.canMonitor n = false → s.pair.verdict = false → s.onWireObj n = none → s.offered n = some k →
      Completes (.canTransmitStart ctrl) s fun t =>
        t.objState n k = 2 ∧ t.objField n k Obj.OSTAT 16 8 = min 255 (s.objField n k Obj.OSTAT 16 8 + 1) ∧ t.pwr.onWire.contains (10 + n) = true ∧ frame t) ∧
    (s.canLive n = true → s.silent = true → k ∈ x.posts → s.objState n k = 1 → Completes (.canTransmitStart ctrl) s fun t =>
      t.objState n k = 5 ∧ (t.canCtl n).posts.contains k = false ∧ t.pwr = s.pwr ∧ (∀ a, t.tpmAt a = s.tpmAt a)) ∧
    (∀ delay : BitVec 7, s.onWireObj n = some k → x.disabling.contains k = false → Completes (.canTransmitComplete ctrl stamps delay) s fun t =>
      t.objState n k = 3 ∧ (t.canCtl n).posts.contains k = false ∧ t.objWord n k Obj.TSL = stamps.tsl ∧ t.objWord n k Obj.TSO = stamps.tso ∧
        t.fld (canKey n Reg.CAN_TXCNT) 0 32 = (s.fld (canKey n Reg.CAN_TXCNT) 0 32 + 1) % 2 ^ 32 ∧ t.flag (canKey n 0x130) 1 = true ∧
        t.tec n = s.tec n - 1 ∧ t.pwr.onWire.contains (10 + n) = false ∧ frame t)

/-- CAN controllers and their bus (R498 to R500, R503, R512, R516, R521 to R523): an enable integrates where the bit timing is legal;
errors are counted; bus-off drops what was posted, and recovery clears the counters; a stuck bus and a receive timeout are shown. Forms
that answer a next state here: canEnable, canErrorFrame, canBusOff, canBusOffRecovery, canBusStuck, canTransmitDominantTimeout,
canReceiveTimeout, canBusIntegrated. -/
def Obligations.CanControllersFollowTheirBus : Prop :=
  ∀ (s : State) (ctrl : Fin 8) (obj : Fin 128) (w : Writer) (value : W32),
    let n := ctrl.val
    let k := obj.val
    let x := s.canCtl n
    let p := canPage n
    let on := s.domState (10 + n) = 2 ∧ s.flag (canKey n Reg.CTRL) 0 = true
    let page := fun (t : State) => KeepsPages [0, p] s t ∧ KeepsRest s t
    (s.admits w p Reg.CTRL = true → value.getLsbD 1 = false →
      (value.getLsbD 0 = true → s.flag (rk p Reg.CTRL) 0 = false →
        (s.timingOk n = true → Completes (.canEnable w ctrl value) s fun t =>
          t.flag (rk p Reg.CTRL) 0 = true ∧ t.canState n = 3 ∧ t.reg (canKey n 0x12C) = BitVec.ofNat 32 (s.canTmax n) ∧ page t) ∧
        (s.timingOk n = false → Completes (.canEnable w ctrl value) s fun t =>
          t.flag (rk p Reg.CTRL) 0 = false ∧ t.flag (canKey n 0x130) 6 = true ∧ (s.logOpen = true → t.shows p 0xFFF 0x0E = true) ∧ page t)) ∧
      (value.getLsbD 0 = false → s.flag (rk p Reg.CTRL) 0 = true → Completes (.canEnable w ctrl value) s fun t =>
        t.flag (rk p Reg.CTRL) 0 = false ∧ t.reg (canKey n 0x12C) = 0 ∧ t.canState n = 3 ∧ page t) ∧
      (value.getLsbD 0 = true → s.flag (rk p Reg.CTRL) 0 = true → s.canState n = 2 → s.flag (canKey n Reg.CAN_CFG) 28 = false →
        Completes (.canEnable w ctrl value) s fun t => (t.canCtl n).recovering = true ∧ t.canState n = 2 ∧ page t)) ∧
    (on → s.canState n = 3 → Completes (.canBusIntegrated ctrl) s fun t =>
      t.canState n = (if 128 ≤ s.tec n ∨ 128 ≤ s.recCnt n then 1 else 0) ∧ (t.canCtl n).released = false ∧ KeepsPages [p] s t ∧ KeepsRest s t) ∧
    (on → s.canState n ≠ 2 → (∀ j ∈ x.posts, j < 128) →
      (∀ (error : CanError) (worse : Bool),
        (Completes (.canErrorFrame ctrl error true worse) s fun t =>
          t.fld (canKey n Reg.CAN_ESTAT) 24 3 = canErrorNum error ∧ t.tec n = min (s.tec n + 8) 255 ∧ t.recCnt n = s.recCnt n ∧ t.canState n = 3 ∧
            t.fld (canKey n Reg.CAN_ERRCNT) 16 16 = min (s.fld (canKey n Reg.CAN_ERRCNT) 16 16 + 1) 0xFFFF ∧ KeepsPages [0, p] s t) ∧
        (Completes (.canErrorFrame ctrl error false worse) s fun t =>
          t.fld (canKey n Reg.CAN_ESTAT) 24 3 = canErrorNum error ∧ t.tec n = s.tec n ∧ t.recCnt n = min (s.recCnt n + if worse then 8 else 1) 255 ∧
            t.canState n = 3 ∧ page t)) ∧
      (Completes (.canBusOff ctrl) s fun t =>
        t.canState n = 2 ∧ t.tec n = 255 ∧ (t.canCtl n).posts = [] ∧ (t.canCtl n).recovering = s.flag (canKey n Reg.CAN_CFG) 28 ∧
          t.fld (canKey n Reg.CAN_ERRCNT) 0 16 = min (s.fld (canKey n Reg.CAN_ERRCNT) 0 16 + 1) 0xFFFF ∧ t.flag (canKey n 0x130) 3 = true ∧
          (x.disabling = [] → s.logOpen = true → t.shows p 0xFFF 0x03 = true) ∧ KeepsPages [0, p] s t)) ∧
    (s.canState n = 2 → x.recovering = true → Completes (.canBusOffRecovery ctrl) s fun t =>
      t.canState n = 0 ∧ t.tec n = 0 ∧ t.recCnt n = 0 ∧ (t.canCtl n).recovering = false ∧ (s.logOpen = true → t.shows p 0xFFF 0x04 = true) ∧ page t) ∧
    (on → Completes (.canBusStuck ctrl) s fun t => t.flag (canKey n 0x130) 7 = true ∧ (s.logOpen = true → t.shows p 0xFFF 0x0F = true) ∧ page t) ∧
    Completes (.canTransmitDominantTimeout ctrl) s (fun t => (t.canCtl n).released = true ∧ t.regs = s.regs ∧ KeepsRest s t) ∧
    (s.domState (10 + n) = 2 → s.objEn n k = true → s.objTx n k = false → s.headOf n k = k → s.ocfg n k 16 16 ≠ 0 → s.objField n k Obj.OSTAT 33 1 = 0 →
      Completes (.canReceiveTimeout ctrl obj) s fun t =>
        t.objField n k Obj.OSTAT 33 1 = 1 ∧ t.flag (canKey n 0x160 + 4 * (k / 32)) (k % 32) = true ∧ t.flag (canKey n 0x130) 5 = true ∧
          (s.logOpen = true → t.shows p k 0x07 = true) ∧ KeepsPages [0, p] s t ∧ KeepsCores s t)

/-- The Ethernet switches (R525 to R528, R536 to R538, R540): links and frames are checked and counted, a frame of a learnt destination
leaves for its port alone, a request for the peer delay is answered with its turnaround time, rings hand descriptors over and complete
them, and what is held or learnt without use is let go. Forms that answer a next state here: ethLinkChange, ethFrameReceive,
ethReceiveRelease, ethStagingDiscard, macAgeOut, ddEntryAge. -/
def Obligations.EthernetFramesAreForwarded : Prop :=
  ∀ (s : State) (sw port : Fin 2) (b : List Byte) (stamps : Stamps) (qfull : BitVec 3) (residence : W32),
    let n := sw.val
    let p := port.val
    let k := netKey n (0x104 + 4 * p)
    let x := s.eth n
    let net := netPage n
    let time := Reg.TIME_TC_CFG / 4096
    let evt := netKey n 0x128
    let len := b.length + 4
    let receive := fun (fcsOk : Bool) => Instr.ethFrameReceive sw port b fcsOk qfull residence stamps
    let quiet := s.flag Reg.TIME_TC_CFG 30 = false ∨ ptpAt b (typeAt b) = none ∨ isTwin b = true
    let one := fun (t : State) (key lo w : Nat) => t.fld key lo w = min (s.fld key lo w + 1) (2 ^ w - 1)
    (∀ speed : BitVec 2, s.ethOn n = true → s.flag k 31 = true → Completes (.ethLinkChange sw port speed) s fun t =>
      t.fld k 26 2 = speed.toNat ∧ t.flag k 25 = decide (speed ≠ 0) ∧
        (s.flag k 25 ≠ decide (speed ≠ 0) → t.flag evt 0 = true ∧ (s.logOpen = true → t.shows net p (if speed = 0 then 2 else 1) = true)) ∧
        KeepsPages [0, net] s t ∧ KeepsRest s t) ∧
    (s.ethOn n = true → s.flag k 31 = true → s.flag k 25 = true →
      (∀ fcsOk : Bool, len < 64 ∨ 1532 < len → Completes (receive fcsOk) s fun t =>
        one t (netKey n (0x114 + 4 * p)) 0 16 ∧ t.flag evt 1 = true ∧ (t.eth n).forwarded = [] ∧ (t.eth n).table = x.table ∧
          KeepsPages [0, net] s t ∧ KeepsRest s t) ∧
      (64 ≤ len → len ≤ 1532 →
        (Completes (receive false) s fun t =>
          one t (netKey n (0x114 + 4 * p)) 16 16 ∧ (t.eth n).forwarded = [] ∧ (t.eth n).table = x.table ∧ KeepsPages [0, net] s t ∧ KeepsRest s t) ∧
        (frameNat b (typeAt b) 2 = 0x8808 → Completes (receive true) s fun t =>
          (t.eth n).forwarded = [] ∧ (t.eth n).table = x.table ∧ t.regs = s.regs ∧ KeepsRest s t) ∧
        (frameNat b (typeAt b) 2 ≠ 0x8808 →
          (∀ m : Nat, s.vlanOf n (frameVid b (s.fld k 0 12)) = none → s.flag Reg.TIME_TC_CFG 30 = true → isTwin b = false →
            ptpAt b (typeAt b) = some m → ptpValid b m = true → bAt b m % 16 = 2 → Completes (receive true) s fun t =>
              ∃ r, (t.eth n).forwarded = [(p, r)] ∧ KeepsPages [net] s t ∧ KeepsRest s t ∧
                (frameNat b (typeAt b) 2 = 0x88F7 → frameNat r 12 2 = 0x88F7 ∧ bAt r 14 % 16 = 3 ∧ frameNat r 22 8 = residence.toNat * 65536 ∧
                  frameNat r 44 2 = frameNat b (m + 30) 2)) ∧
          (quiet → s.vlanOf n (frameVid b (s.fld k 0 12)) = none → Completes (receive true) s fun t =>
            one t (netKey n (0x11C + 4 * p)) 0 16 ∧ (t.eth n).forwarded = [] ∧ (t.eth n).table = x.table ∧ KeepsPages [net, time] s t ∧ KeepsRest s t) ∧
          (∀ (v q : Nat), quiet → s.vlanOf n (frameVid b (s.fld k 0 12)) = some v → s.isMember n v p = true → s.isMember n v q = true → q < 2 → q ≠ p →
            (frameNat b 0 6 / 2 ^ 40).testBit 0 = false → sget (dflt none) x.table (frameNat b 0 6) = some q → frameNat b 6 6 ≠ frameNat b 0 6 →
            s.flag Reg.TIME_TC_CFG 31 = false →
            (qfull.getLsbD q = false → Completes (receive true) s fun t =>
              (t.eth n).forwarded = [(q, egressBytes b (frameVid b (s.fld k 0 12)) (framePcp b (s.fld k 12 3)) (s.untags n v q))] ∧
                ((frameNat b 6 6 / 2 ^ 40).testBit 0 = false → x.table.length < 2048 → sget (dflt none) (t.eth n).table (frameNat b 6 6) = some p) ∧
                KeepsPages [time] s t ∧ KeepsRest s t) ∧
            (qfull.getLsbD q = true → Completes (receive true) s fun t =>
              one t (netKey n (0x11C + 4 * q)) 16 16 ∧ (t.eth n).forwarded = [] ∧ KeepsPages [net, time] s t ∧ KeepsRest s t))))) ∧
    (∀ e : StagedEth, x.staging.find? s.ethDue = some e → e.ring < 8 →
      let i := 8 + e.ring
      let d := s.descAt n i (s.ringHead n i)
      let at_ := s.descField d 0 8 - pmBase
      let room := s.descField d 0x08 2
      s.ringOn n i = true → x.stopRun.contains i = false → s.ringHead n i ≠ s.ringTail n i → 128 ≤ s.descField d 0x0A 1 → Completes (.ethReceiveRelease sw) s fun t =>
        t.descField d 0x0A 1 < 128 ∧ t.descField d 0x0B 1 = (if room < e.bytes.length then 0x04 else 0x01) ∧
          t.descField d 0x08 2 = e.bytes.length % 65536 ∧ t.descField d 0x0C 4 = e.info.toNat ∧ t.descField d 0x10 8 = e.stamps.tsl.toNat ∧
          t.descField d 0x18 8 = e.stamps.tso.toNat ∧ t.ringHead n i = (s.ringHead n i + 1) % s.ringSize n i % 4096 ∧
          (t.eth n).staging = x.staging.erase e ∧
          (∀ a, (a < d ∨ d + 0x20 ≤ a) → t.pmByte a =
            if at_ ≤ a ∧ a < at_ + min room e.bytes.length ∧ a < 0x40000000 then (e.bytes[a - at_]?).getD 0 else s.pmByte a)) ∧
    (∀ e : StagedEth, x.staging.find? (fun y => y.release.isNone) = some e → Completes (.ethStagingDiscard sw) s fun t =>
      (t.eth n).staging = x.staging.erase e ∧ (t.eth n).table = x.table ∧ t.regs = s.regs ∧ KeepsRest s t) ∧
    (∀ mac : BitVec 48, Completes (.macAgeOut sw mac) s fun t =>
      sget (dflt none) (t.eth n).table mac.toNat = none ∧ (∀ m, m ≠ mac.toNat → sget (dflt none) (t.eth n).table m = sget (dflt none) x.table m) ∧
        t.regs = s.regs ∧ KeepsRest s t) ∧
    (∀ pair : Fin 4096, (sget (dflt none) s.net.dd pair.val).isSome = true → Completes (.ddEntryAge pair) s fun t =>
      sget (dflt none) t.net.dd pair.val = none ∧ t.fld (rk 0x0F0 Reg.NET_DD_USED) 0 11 = t.net.dd.length % 2048 ∧
        (∀ j, j ≠ pair.val → sget (dflt none) t.net.dd j = sget (dflt none) s.net.dd j) ∧ KeepsPages [0x0F0] s t ∧ KeepsRest s t)

/-- The descriptor rings (R532, R537, R538): a write of RTAIL hands descriptors over, and the DMA takes them in turn; a frame that has
left completes its descriptor with its stamps, and one of a silent module, or whose VLAN does not include the host port, is dropped. Forms
that answer a next state here: ringTailWrite, ethTransmitComplete. -/
def Obligations.RingsHandDescriptorsOver : Prop :=
  ∀ (s : State) (sw : Fin 2) (ring : Fin 16) (tx : Fin 8) (w : Writer) (value : W32) (stamps : Stamps),
    let n := sw.val
    let i := ring.val
    let x := s.eth n
    let net := netPage n
    let off := 0x30C + 0x10 * i
    let size := s.ringSize n i
    let d := s.descAt n i (s.ringHead n i)
    let ctl := s.descField d 0x0A 1
    let frame := (List.range (s.descField d 0x08 2)).map fun j => s.pmByte (s.descField d 0 8 - pmBase + j)
    (s.admits w net off = true →
      (Completes (.ringTailWrite w sw ring value) s fun t => t.fld (netKey n off) 0 12 = value.toNat % 4096 ∧ t.bus.resp = .okay ∧ KeepsLoops s t) ∧
      (i < 8 → s.ethOn n = true → s.ringOn n i = true → size ≤ 4096 → s.ringHead n i ≠ value.toNat % 4096 % size →
        (s.ringHead n i + 1) % size = value.toNat % 4096 % size → 128 ≤ ctl → s.descField d 0x08 2 ≤ 1522 → s.pair.verdict = false →
        (s.silent = false → ctl.testBit 6 = false → Completes (.ringTailWrite w sw ring value) s fun t =>
          (t.eth n).taken = x.taken ++ [{ ring := i, place := d, len := s.descField d 0x08 2 }] ∧ t.ringHead n i = (s.ringHead n i + 1) % size ∧
            (s.mirroring = true → ctl.testBit 4 = false →
              t.pair.hashAcc = (natBytes (crc64 frame).toNat 8).foldl crc64Byte s.pair.hashAcc) ∧
            KeepsPages [net] s t ∧ KeepsRest s t) ∧
        (s.silent = true → Completes (.ringTailWrite w sw ring value) s fun t =>
          (t.eth n).taken = x.taken ∧ t.descField d 0x0B 1 = 0x02 ∧ t.descField d 0x0A 1 = ctl % 128 ∧
            t.ringHead n i = (s.ringHead n i + 1) % size ∧ KeepsPages [net] s t)) ∧
      (i < 8 → s.ethOn n = true → s.ringOn n i = true → s.ringHead n i ≠ value.toNat % 4096 % size → ctl < 128 →
        Completes (.ringTailWrite w sw ring value) s fun t =>
          t.ringHead n i = s.ringHead n i ∧ (t.eth n).taken = x.taken ∧ (t.eth n).stopRun.contains i = true ∧
            (x.stopRun.contains i = false → s.logOpen = true → t.shows net i 0x0D = true) ∧ KeepsPages [0, net] s t ∧ KeepsRest s t)) ∧
    (∀ e : TakenDesc, s.pair.verdict = false → s.mayFinish n = true → x.taken.find? (fun y => y.ring == tx.val) = some e →
      let ok := s.hostVlanOk n ((List.range 18).map fun j => s.pmByte (s.descField e.place 0 8 - pmBase + j))
      (s.silent = true → Completes (.ethTransmitComplete sw tx stamps) s fun t =>
        t.descField e.place 0x0B 1 = 0x02 ∧ t.descField e.place 0x0A 1 = s.descField e.place 0x0A 1 % 128 ∧ (t.eth n).taken = x.taken.erase e ∧
          (t.eth n).forwarded = x.forwarded ∧ KeepsPages [net] s t ∧ (∀ a, (a < e.place ∨ e.place + 0x20 ≤ a) → t.pmByte a = s.pmByte a) ∧
          (∀ a, t.tpmAt a = s.tpmAt a) ∧ KeepsLoops s t ∧ KeepsGroups s t) ∧
      (s.silent = false → ok = true → Completes (.ethTransmitComplete sw tx stamps) s fun t =>
        t.descField e.place 0x0B 1 = 0x01 ∧ t.descField e.place 0x0A 1 = s.descField e.place 0x0A 1 % 128 ∧
          t.descField e.place 0x10 8 = stamps.tsl.toNat ∧ t.descField e.place 0x18 8 = stamps.tso.toNat ∧ (t.eth n).taken = x.taken.erase e ∧
          (∀ a, (a < e.place ∨ e.place + 0x20 ≤ a) → t.pmByte a = s.pmByte a) ∧ (∀ a, t.tpmAt a = s.tpmAt a) ∧ KeepsLoops s t ∧ KeepsGroups s t) ∧
      (s.silent = false → ok = false → Completes (.ethTransmitComplete sw tx stamps) s fun t =>
        t.fld (netKey n 0x124) 0 16 = min (s.fld (netKey n 0x124) 0 16 + 1) 65535 ∧ t.descField e.place 0x0B 1 = 0x02 ∧
          t.descField e.place 0x0A 1 = s.descField e.place 0x0A 1 % 128 ∧ (t.eth n).taken = x.taken.erase e ∧ KeepsPages [net] s t ∧
          (∀ a, (a < e.place ∨ e.place + 0x20 ≤ a) → t.pmByte a = s.pmByte a) ∧ (∀ a, t.tpmAt a = s.tpmAt a) ∧ KeepsLoops s t ∧ KeepsGroups s t))

/-- Sessions (R617, R618): one opens with the rights of its certificate, or is refused; a request is carried out only within its rights,
by the holder; an idle session is closed. Forms that answer a next state here: slatheRelease, taskRestart, sessionOpen, sessionCommand,
sessionIdleTimeout. -/
def Obligations.SessionsActWithinTheirRights : Prop :=
  ∀ (s : State) (session : Fin 4),
    let page := fun (t : State) => KeepsPages [0, 4] s t ∧ KeepsRest s t
    let mine := fun (t : State) => sget (dflt none) t.sec.sessions session.val
    let count := fun (t : State) => t.fld Reg.SEC_SESS 0 3 = (t.sec.sessions.filter fun e => e.2.isSome).length % 8
    (∀ cert : SessionCert, s.reachable = true →
      (∀ (n : Nat) (r : BitVec 5), s.freeSession = some n → s.sessionRights cert = some r → Completes (.sessionOpen cert) s fun t =>
        sget (dflt none) t.sec.sessions n = some r ∧ (∀ j, j ≠ n → sget (dflt none) t.sec.sessions j = sget (dflt none) s.sec.sessions j) ∧
          count t ∧ (s.logOpen = true → t.shows 4 0xFFF 0x08 = true) ∧ page t) ∧
      (s.freeSession = none ∨ s.sessionRights cert = none → Completes (.sessionOpen cert) s fun t =>
        t.sec.sessions = s.sec.sessions ∧ (s.logOpen = true → t.shows 4 0xFFF 0x09 = true) ∧ page t)) ∧
    ((mine s).isSome = true → Completes (.sessionIdleTimeout session) s fun t =>
      mine t = none ∧ count t ∧ (s.logOpen = true → t.shows 4 0xFFF 0x0A = true) ∧ page t) ∧
    (mine s = none → ∀ req : SessionReq, exec (.sessionCommand session req) s = .next s) ∧
    (∀ r : BitVec 5, mine s = some r →
      (∀ (req : SessionReq) (bit : Nat), sessionRight req = some bit → r.getLsbD bit = false → exec (.sessionCommand session req) s = .next s) ∧
      (s.holder = false → ∀ req : SessionReq, s.withoutClaim req = false → exec (.sessionCommand session req) s = .next s) ∧
      (s.reachable = true → s.holder = true →
        (r.getLsbD 0 = true → exec (.sessionCommand session .view) s = .next s) ∧
        (r.getLsbD 1 = true → ∀ (a : BitVec 23) (v : TWord), Completes (.sessionCommand session (.taskWord a v)) s fun t =>
          t.tpmAt a.toNat = v ∧ (∀ b, b ≠ a.toNat → t.tpmAt b = s.tpmAt b) ∧ t.regs = s.regs ∧ KeepsCores s t ∧ KeepsLoops s t ∧ KeepsGroups s t) ∧
        (r.getLsbD 1 = true → ∀ (k : Fin 512) (a : BitVec 8) (v : TWord), s.domState 6 = 2 → s.wordCheck k.val a.toNat v = 0 →
          Completes (.sessionCommand session (.loopWord k a v)) s fun t =>
            (t.loop.pend.map fun e => (e.loop, e.word, e.value)) = (s.loop.pend.map fun e => (e.loop, e.word, e.value)) ++ [(k.val, a.toNat, v)] ∧
              t.regs = s.regs ∧ KeepsRest s t) ∧
        (r.getLsbD 2 = true → ∀ t : Fin 32, exec (.sessionCommand session (.taskRestart t)) s = exec (.taskRestart t) s) ∧
        (r.getLsbD 2 = true → exec (.sessionCommand session .release) s = exec .slatheRelease s) ∧
        (r.getLsbD 4 = true → ∀ h, Completes (.sessionCommand session (.customerCa h)) s fun t =>
          t.sec.caHash = some h ∧ t.regs = s.regs ∧ KeepsRest s t)))

/-- The test access port (R619, R621, R642, R643): what each instruction captures and drives at its level, what DAPACC reads and writes,
and how a fuse is blown and read. Forms that answer a next state here: extest, samplePreload, idcode, clamp, highz, dapacc, fuseprog,
fuseBlowComplete, fuseread, bypass. -/
def Obligations.TestAccessPortActsAtItsLevel : Prop :=
  ∀ (s : State), s.tapPowered = true →
    let kept := fun (t : State) => t.regs = s.regs ∧ t.sec = s.sec ∧ KeepsRest s t
    let bypassed := fun (t : State) => t.test.drive = .normal ∧ t.test.tdo = 0 ∧ t.test.boundary = s.test.boundary ∧ kept t
    let full := s.debugLevel = 3
    Completes .idcode s (fun t => t.test.tdo = 0x2580838F ∧ t.test.drive = .normal ∧ kept t) ∧
    Completes .bypass s bypassed ∧
    (∀ cells : BitVec 120,
      (full → Completes (.extest cells) s fun t => t.test.drive = .extest ∧ t.test.boundary = cells ∧ t.test.tdo = s.boundaryCapture ∧ kept t) ∧
      (full → Completes (.samplePreload cells) s fun t =>
        t.test.drive = .normal ∧ t.test.boundary = cells ∧ t.test.tdo = s.boundaryCapture ∧ kept t) ∧
      (¬ full → Completes (.extest cells) s bypassed ∧ Completes (.samplePreload cells) s bypassed)) ∧
    (full → Completes .clamp s (fun t => t.test.drive = .clamp ∧ t.test.boundary = s.test.boundary ∧ kept t) ∧
      Completes .highz s (fun t => t.test.drive = .highz ∧ t.test.boundary = s.test.boundary ∧ kept t) ∧
      Completes .fuseread s (fun t => t.test.tdo.getLsbD 7 = s.test.fuseBusy.isSome ∧ t.test.tdo.getLsbD 6 = s.test.fuseValue ∧
        t.test.tdo.extractLsb' 0 3 = s.test.fuseResult ∧ kept t)) ∧
    (¬ full → Completes .clamp s bypassed ∧ Completes .highz s bypassed ∧ Completes .fuseread s bypassed ∧
      ∀ (dr : BitVec 16) (ok : Bool), Completes (.fuseprog dr ok) s bypassed) ∧
    (∀ (addr : W64) (data : W32), s.sysRuns = true →
      (s.debugLevel = 0 → ∀ op : BitVec 2, op = 1 ∨ op = 2 → Completes (.dapacc op addr data) s fun t =>
        t.test.dap.resp = .errPriv ∧ t.test.dap.data = 0 ∧ t.test.tdo = s.dapCapture ∧ kept t) ∧
      (∀ o : Nat, addr.toNat = 0x200000000 + o → o < 0x40000000 → o % 4 = 0 →
        (1 ≤ s.debugLevel → sget (dflt 0) s.mem.pmErr (o / 8) = 0 → Completes (.dapacc 1 addr data) s fun t =>
          t.test.dap.resp = .okay ∧ t.test.dap.data.toNat = leNat s.pmByte o 4 ∧ t.test.tdo = s.dapCapture ∧ kept t) ∧
        (s.debugLevel = 1 → Completes (.dapacc 2 addr data) s fun t => t.test.dap.resp = .errPriv ∧ kept t) ∧
        (2 ≤ s.debugLevel → Completes (.dapacc 2 addr data) s fun t =>
          t.test.dap.resp = .okay ∧ leNat t.pmByte o 4 = data.toNat ∧ (∀ a, (a < o ∨ o + 4 ≤ a) → t.pmByte a = s.pmByte a) ∧ t.regs = s.regs ∧
            (∀ a, t.tpmAt a = s.tpmAt a) ∧ KeepsLoops s t ∧ KeepsGroups s t))) ∧
    (full → s.rst.production = true → s.test.fuseBusy = none → ∀ (f : BitVec 14) (ok : Bool), s.fuseLocked f.toNat = false → s.fuseBlown f.toNat = false →
      Completes (.fuseprog ((1 : BitVec 2) ++ f) ok) s fun t => t.test.fuseBusy = some f.toNat ∧ t.test.fuseResult = 4 ∧ kept t) ∧
    (∀ f : Nat, s.test.fuseBusy = some f →
      (Completes (.fuseBlowComplete true) s fun t =>
        t.test.fuseBusy = none ∧ t.sec.fuses.contains f = true ∧ t.test.fuseResult = 1 ∧ t.test.fuseValue = true ∧
          (f < 0xFFF → s.logOpen = true → t.shows 6 f 0x10 = true) ∧ KeepsPages [0, 6] s t ∧ KeepsRest s t) ∧
      (Completes (.fuseBlowComplete false) s fun t =>
        t.test.fuseBusy = none ∧ t.test.fuseResult = 2 ∧ (f < 0xFFF → s.logOpen = true → t.shows 6 f 0x11 = true) ∧ KeepsPages [0, 6] s t ∧ KeepsRest s t))

/-- Right after reset the registers and memories are in canonical form and the logger's queue holds no more than its 64 records. -/
def Obligations.ResetStateIsSound : Prop := State.reset.sound = true

/-- Every step that goes on keeps the canonical form: registers and memories list only what differs from what an unlisted entry reads as,
in rising order, and the logger's queue holds no more than its 64 records (R162). -/
def Obligations.EveryStepKeepsTheCanonicalForm : Prop :=
  ∀ s t : State, s.sound = true → step s = .next t → t.sound = true
end

