-- ==== Sys2Proof/Laws/Sparse.lean ====
section
/-! SUPPORT. Laws of the sparse maps: a read after a write, and the canonical form. -/

namespace Sys2Proof.Machine

variable {α : Type} {d : Nat → α} {m : Sparse α} {k j : Nat} {v : α}

theorem sget_sins (m : Sparse α) (k j : Nat) (v : α) : sget d (sins m k v) j = if j = k then v else sget d m j := by
  induction m with
  | nil => simp [sins, sget, eq_comm]
  | cons e m ih =>
    obtain ⟨a, w⟩ := e
    simp only [sins]
    split
    · simp [sget, eq_comm]
    · split
      · subst_vars
        by_cases h : j = a <;> simp [sget, h, eq_comm]
      · simp only [sget, ih]
        by_cases h : a = j
        · subst h; simp_all [eq_comm]
        · simp [h]

theorem sget_sdel (m : Sparse α) (k j : Nat) : sget d (sdel m k) j = if j = k then d k else sget d m j := by
  induction m with
  | nil => simp only [sdel, List.filter_nil, sget]; split <;> simp_all
  | cons e m ih =>
    obtain ⟨a, w⟩ := e
    simp only [sdel] at ih ⊢
    by_cases h : a = k
    · subst h
      simp only [List.filter_cons, beq_self_eq_true, Bool.not_true, Bool.false_eq_true, if_false, ih, sget]
      by_cases hj : j = a
      · simp [hj]
      · simp [hj, Ne.symm hj]
    · simp only [List.filter_cons, h, Bool.not_eq_true', beq_eq_false_iff_ne, ne_eq, not_false_eq_true, if_true, sget, ih]
      by_cases hj : j = k
      · subst hj; simp [h]
      · simp [hj]

/-- What a map reads after a write: the value at its key, and everywhere else what it read before. -/
theorem sget_sset [DecidableEq α] (m : Sparse α) (k j : Nat) (v : α) : sget d (sset d m k v) j = if j = k then v else sget d m j := by
  unfold sset
  split
  · rename_i h; rw [sget_sdel, h]
  · rw [sget_sins]

@[simp] theorem sget_sset_same [DecidableEq α] : sget d (sset d m k v) k = v := by simp [sget_sset]

theorem sget_sset_ne [DecidableEq α] (h : j ≠ k) : sget d (sset d m k v) j = sget d m j := by simp [sget_sset, h]

/-! ## The canonical form -/

theorem keysRise_cons (e : Nat × α) (m : Sparse α) : keysRise (e :: m) = true ↔ (∀ x ∈ m, e.1 < x.1) ∧ keysRise m = true := by
  induction m generalizing e with
  | nil => simp [keysRise]
  | cons f m ih =>
    simp only [keysRise, Bool.and_eq_true, decide_eq_true_eq, List.mem_cons, forall_eq_or_imp]
    constructor
    · rintro ⟨h, hr⟩
      exact ⟨⟨h, fun x hx => Nat.lt_trans h (((ih f).1 hr).1 x hx)⟩, hr⟩
    · rintro ⟨⟨h, -⟩, hr⟩
      exact ⟨h, hr⟩

theorem keysRise_filter (p : Nat × α → Bool) (h : keysRise m = true) : keysRise (m.filter p) = true := by
  induction m with
  | nil => exact h
  | cons e m ih =>
    obtain ⟨h1, h2⟩ := (keysRise_cons e m).1 h
    rw [List.filter_cons]
    split
    · exact (keysRise_cons _ _).2 ⟨fun x hx => h1 x ((List.mem_filter.1 hx).1), ih h2⟩
    · exact ih h2

theorem mem_sins {x : Nat × α} (h : x ∈ sins m k v) : x = (k, v) ∨ x ∈ m := by
  induction m with
  | nil => simpa [sins] using h
  | cons e m ih =>
    obtain ⟨a, w⟩ := e
    simp only [sins] at h
    split at h
    · simpa using h
    · split at h
      · rcases List.mem_cons.1 h with h | h
        · exact .inl h
        · exact .inr (List.mem_cons_of_mem _ h)
      · rcases List.mem_cons.1 h with h | h
        · exact .inr (h ▸ List.mem_cons_self ..)
        · exact (ih h).imp id (List.mem_cons_of_mem _)

theorem keysRise_sins (h : keysRise m = true) : keysRise (sins m k v) = true := by
  induction m with
  | nil => rfl
  | cons e m ih =>
    obtain ⟨a, w⟩ := e
    obtain ⟨h1, h2⟩ := (keysRise_cons (a, w) m).1 h
    simp only [sins]
    split
    · rename_i hk
      refine (keysRise_cons _ _).2 ⟨fun x hx => ?_, h⟩
      rcases List.mem_cons.1 hx with rfl | hx
      · exact hk
      · exact Nat.lt_trans hk (h1 x hx)
    · split
      · rename_i hk; subst hk
        exact (keysRise_cons _ _).2 ⟨h1, h2⟩
      · refine (keysRise_cons _ _).2 ⟨fun x hx => ?_, ih h2⟩
        rcases mem_sins hx with rfl | hx
        · simp only; omega
        · exact h1 x hx

theorem swf_iff [DecidableEq α] : swf d m = true ↔ keysRise m = true ∧ ∀ e ∈ m, e.2 ≠ d e.1 := by
  simp [swf]

/-- Removing entries keeps the canonical form. -/
theorem swf_filter [DecidableEq α] (p : Nat × α → Bool) (h : swf d m = true) : swf d (m.filter p) = true := by
  rw [swf_iff] at h ⊢
  exact ⟨keysRise_filter p h.1, fun e he => h.2 e ((List.mem_filter.1 he).1)⟩

/-- A write keeps the canonical form. -/
theorem swf_sset [DecidableEq α] (h : swf d m = true) : swf d (sset d m k v) = true := by
  unfold sset
  split
  · exact swf_filter _ h
  · rename_i hv
    rw [swf_iff] at h ⊢
    refine ⟨keysRise_sins h.1, fun e he => ?_⟩
    rcases mem_sins he with rfl | he
    · exact hv
    · exact h.2 e he

@[simp] theorem swf_nil [DecidableEq α] : swf d ([] : Sparse α) = true := rfl

end Sys2Proof.Machine
end

