-- ==== Sys2Proof/Laws/State.lean ====
section
/-! SUPPORT. What each update of the state leaves as it was, one lemma for each field, and what it writes. -/

namespace Sys2Proof.Machine

variable (s : State)

/-! ## setReg -/

@[simp] theorem State.setReg_frozen (k : Nat) (v : W32) : (s.setReg k v).frozen = s.frozen := rfl
@[simp] theorem State.setReg_log (k : Nat) (v : W32) : (s.setReg k v).log = s.log := rfl
@[simp] theorem State.setReg_pwr (k : Nat) (v : W32) : (s.setReg k v).pwr = s.pwr := rfl
@[simp] theorem State.setReg_rst (k : Nat) (v : W32) : (s.setReg k v).rst = s.rst := rfl
@[simp] theorem State.setReg_carrier (k : Nat) (v : W32) : (s.setReg k v).carrier = s.carrier := rfl
@[simp] theorem State.setReg_boot (k : Nat) (v : W32) : (s.setReg k v).boot = s.boot := rfl
@[simp] theorem State.setReg_cores (k : Nat) (v : W32) : (s.setReg k v).cores = s.cores := rfl
@[simp] theorem State.setReg_mem (k : Nat) (v : W32) : (s.setReg k v).mem = s.mem := rfl
@[simp] theorem State.setReg_loop (k : Nat) (v : W32) : (s.setReg k v).loop = s.loop := rfl
@[simp] theorem State.setReg_groups (k : Nat) (v : W32) : (s.setReg k v).groups = s.groups := rfl
@[simp] theorem State.setReg_cap (k : Nat) (v : W32) : (s.setReg k v).cap = s.cap := rfl
@[simp] theorem State.setReg_laneX (k : Nat) (v : W32) : (s.setReg k v).laneX = s.laneX := rfl
@[simp] theorem State.setReg_laneY (k : Nat) (v : W32) : (s.setReg k v).laneY = s.laneY := rfl
@[simp] theorem State.setReg_net (k : Nat) (v : W32) : (s.setReg k v).net = s.net := rfl
@[simp] theorem State.setReg_time (k : Nat) (v : W32) : (s.setReg k v).time = s.time := rfl
@[simp] theorem State.setReg_pair (k : Nat) (v : W32) : (s.setReg k v).pair = s.pair := rfl
@[simp] theorem State.setReg_sec (k : Nat) (v : W32) : (s.setReg k v).sec = s.sec := rfl
@[simp] theorem State.setReg_aon (k : Nat) (v : W32) : (s.setReg k v).aon = s.aon := rfl
@[simp] theorem State.setReg_test (k : Nat) (v : W32) : (s.setReg k v).test = s.test := rfl
@[simp] theorem State.setReg_proof (k : Nat) (v : W32) : (s.setReg k v).proof = s.proof := rfl
@[simp] theorem State.setReg_disp (k : Nat) (v : W32) : (s.setReg k v).disp = s.disp := rfl
@[simp] theorem State.setReg_bus (k : Nat) (v : W32) : (s.setReg k v).bus = s.bus := rfl
@[simp] theorem State.setReg_free (k : Nat) (v : W32) : (s.setReg k v).free = s.free := rfl
@[simp] theorem State.setReg_pending (k : Nat) (v : W32) : (s.setReg k v).pending = s.pending := rfl

/-! ## setFld -/

@[simp] theorem State.setFld_frozen (k lo w n : Nat) : (s.setFld k lo w n).frozen = s.frozen := rfl
@[simp] theorem State.setFld_log (k lo w n : Nat) : (s.setFld k lo w n).log = s.log := rfl
@[simp] theorem State.setFld_pwr (k lo w n : Nat) : (s.setFld k lo w n).pwr = s.pwr := rfl
@[simp] theorem State.setFld_rst (k lo w n : Nat) : (s.setFld k lo w n).rst = s.rst := rfl
@[simp] theorem State.setFld_carrier (k lo w n : Nat) : (s.setFld k lo w n).carrier = s.carrier := rfl
@[simp] theorem State.setFld_boot (k lo w n : Nat) : (s.setFld k lo w n).boot = s.boot := rfl
@[simp] theorem State.setFld_cores (k lo w n : Nat) : (s.setFld k lo w n).cores = s.cores := rfl
@[simp] theorem State.setFld_mem (k lo w n : Nat) : (s.setFld k lo w n).mem = s.mem := rfl
@[simp] theorem State.setFld_loop (k lo w n : Nat) : (s.setFld k lo w n).loop = s.loop := rfl
@[simp] theorem State.setFld_groups (k lo w n : Nat) : (s.setFld k lo w n).groups = s.groups := rfl
@[simp] theorem State.setFld_cap (k lo w n : Nat) : (s.setFld k lo w n).cap = s.cap := rfl
@[simp] theorem State.setFld_laneX (k lo w n : Nat) : (s.setFld k lo w n).laneX = s.laneX := rfl
@[simp] theorem State.setFld_laneY (k lo w n : Nat) : (s.setFld k lo w n).laneY = s.laneY := rfl
@[simp] theorem State.setFld_net (k lo w n : Nat) : (s.setFld k lo w n).net = s.net := rfl
@[simp] theorem State.setFld_time (k lo w n : Nat) : (s.setFld k lo w n).time = s.time := rfl
@[simp] theorem State.setFld_pair (k lo w n : Nat) : (s.setFld k lo w n).pair = s.pair := rfl
@[simp] theorem State.setFld_sec (k lo w n : Nat) : (s.setFld k lo w n).sec = s.sec := rfl
@[simp] theorem State.setFld_aon (k lo w n : Nat) : (s.setFld k lo w n).aon = s.aon := rfl
@[simp] theorem State.setFld_test (k lo w n : Nat) : (s.setFld k lo w n).test = s.test := rfl
@[simp] theorem State.setFld_proof (k lo w n : Nat) : (s.setFld k lo w n).proof = s.proof := rfl
@[simp] theorem State.setFld_disp (k lo w n : Nat) : (s.setFld k lo w n).disp = s.disp := rfl
@[simp] theorem State.setFld_bus (k lo w n : Nat) : (s.setFld k lo w n).bus = s.bus := rfl
@[simp] theorem State.setFld_free (k lo w n : Nat) : (s.setFld k lo w n).free = s.free := rfl
@[simp] theorem State.setFld_pending (k lo w n : Nat) : (s.setFld k lo w n).pending = s.pending := rfl

/-! ## setFlag -/

@[simp] theorem State.setFlag_frozen (k b : Nat) (on : Bool) : (s.setFlag k b on).frozen = s.frozen := rfl
@[simp] theorem State.setFlag_log (k b : Nat) (on : Bool) : (s.setFlag k b on).log = s.log := rfl
@[simp] theorem State.setFlag_pwr (k b : Nat) (on : Bool) : (s.setFlag k b on).pwr = s.pwr := rfl
@[simp] theorem State.setFlag_rst (k b : Nat) (on : Bool) : (s.setFlag k b on).rst = s.rst := rfl
@[simp] theorem State.setFlag_carrier (k b : Nat) (on : Bool) : (s.setFlag k b on).carrier = s.carrier := rfl
@[simp] theorem State.setFlag_boot (k b : Nat) (on : Bool) : (s.setFlag k b on).boot = s.boot := rfl
@[simp] theorem State.setFlag_cores (k b : Nat) (on : Bool) : (s.setFlag k b on).cores = s.cores := rfl
@[simp] theorem State.setFlag_mem (k b : Nat) (on : Bool) : (s.setFlag k b on).mem = s.mem := rfl
@[simp] theorem State.setFlag_loop (k b : Nat) (on : Bool) : (s.setFlag k b on).loop = s.loop := rfl
@[simp] theorem State.setFlag_groups (k b : Nat) (on : Bool) : (s.setFlag k b on).groups = s.groups := rfl
@[simp] theorem State.setFlag_cap (k b : Nat) (on : Bool) : (s.setFlag k b on).cap = s.cap := rfl
@[simp] theorem State.setFlag_laneX (k b : Nat) (on : Bool) : (s.setFlag k b on).laneX = s.laneX := rfl
@[simp] theorem State.setFlag_laneY (k b : Nat) (on : Bool) : (s.setFlag k b on).laneY = s.laneY := rfl
@[simp] theorem State.setFlag_net (k b : Nat) (on : Bool) : (s.setFlag k b on).net = s.net := rfl
@[simp] theorem State.setFlag_time (k b : Nat) (on : Bool) : (s.setFlag k b on).time = s.time := rfl
@[simp] theorem State.setFlag_pair (k b : Nat) (on : Bool) : (s.setFlag k b on).pair = s.pair := rfl
@[simp] theorem State.setFlag_sec (k b : Nat) (on : Bool) : (s.setFlag k b on).sec = s.sec := rfl
@[simp] theorem State.setFlag_aon (k b : Nat) (on : Bool) : (s.setFlag k b on).aon = s.aon := rfl
@[simp] theorem State.setFlag_test (k b : Nat) (on : Bool) : (s.setFlag k b on).test = s.test := rfl
@[simp] theorem State.setFlag_proof (k b : Nat) (on : Bool) : (s.setFlag k b on).proof = s.proof := rfl
@[simp] theorem State.setFlag_disp (k b : Nat) (on : Bool) : (s.setFlag k b on).disp = s.disp := rfl
@[simp] theorem State.setFlag_bus (k b : Nat) (on : Bool) : (s.setFlag k b on).bus = s.bus := rfl
@[simp] theorem State.setFlag_free (k b : Nat) (on : Bool) : (s.setFlag k b on).free = s.free := rfl
@[simp] theorem State.setFlag_pending (k b : Nat) (on : Bool) : (s.setFlag k b on).pending = s.pending := rfl

/-! ## orReg -/

@[simp] theorem State.orReg_frozen (k : Nat) (m : W32) : (s.orReg k m).frozen = s.frozen := rfl
@[simp] theorem State.orReg_log (k : Nat) (m : W32) : (s.orReg k m).log = s.log := rfl
@[simp] theorem State.orReg_pwr (k : Nat) (m : W32) : (s.orReg k m).pwr = s.pwr := rfl
@[simp] theorem State.orReg_rst (k : Nat) (m : W32) : (s.orReg k m).rst = s.rst := rfl
@[simp] theorem State.orReg_carrier (k : Nat) (m : W32) : (s.orReg k m).carrier = s.carrier := rfl
@[simp] theorem State.orReg_boot (k : Nat) (m : W32) : (s.orReg k m).boot = s.boot := rfl
@[simp] theorem State.orReg_cores (k : Nat) (m : W32) : (s.orReg k m).cores = s.cores := rfl
@[simp] theorem State.orReg_mem (k : Nat) (m : W32) : (s.orReg k m).mem = s.mem := rfl
@[simp] theorem State.orReg_loop (k : Nat) (m : W32) : (s.orReg k m).loop = s.loop := rfl
@[simp] theorem State.orReg_groups (k : Nat) (m : W32) : (s.orReg k m).groups = s.groups := rfl
@[simp] theorem State.orReg_cap (k : Nat) (m : W32) : (s.orReg k m).cap = s.cap := rfl
@[simp] theorem State.orReg_laneX (k : Nat) (m : W32) : (s.orReg k m).laneX = s.laneX := rfl
@[simp] theorem State.orReg_laneY (k : Nat) (m : W32) : (s.orReg k m).laneY = s.laneY := rfl
@[simp] theorem State.orReg_net (k : Nat) (m : W32) : (s.orReg k m).net = s.net := rfl
@[simp] theorem State.orReg_time (k : Nat) (m : W32) : (s.orReg k m).time = s.time := rfl
@[simp] theorem State.orReg_pair (k : Nat) (m : W32) : (s.orReg k m).pair = s.pair := rfl
@[simp] theorem State.orReg_sec (k : Nat) (m : W32) : (s.orReg k m).sec = s.sec := rfl
@[simp] theorem State.orReg_aon (k : Nat) (m : W32) : (s.orReg k m).aon = s.aon := rfl
@[simp] theorem State.orReg_test (k : Nat) (m : W32) : (s.orReg k m).test = s.test := rfl
@[simp] theorem State.orReg_proof (k : Nat) (m : W32) : (s.orReg k m).proof = s.proof := rfl
@[simp] theorem State.orReg_disp (k : Nat) (m : W32) : (s.orReg k m).disp = s.disp := rfl
@[simp] theorem State.orReg_bus (k : Nat) (m : W32) : (s.orReg k m).bus = s.bus := rfl
@[simp] theorem State.orReg_free (k : Nat) (m : W32) : (s.orReg k m).free = s.free := rfl
@[simp] theorem State.orReg_pending (k : Nat) (m : W32) : (s.orReg k m).pending = s.pending := rfl

/-! ## andNotReg -/

@[simp] theorem State.andNotReg_frozen (k : Nat) (m : W32) : (s.andNotReg k m).frozen = s.frozen := rfl
@[simp] theorem State.andNotReg_log (k : Nat) (m : W32) : (s.andNotReg k m).log = s.log := rfl
@[simp] theorem State.andNotReg_pwr (k : Nat) (m : W32) : (s.andNotReg k m).pwr = s.pwr := rfl
@[simp] theorem State.andNotReg_rst (k : Nat) (m : W32) : (s.andNotReg k m).rst = s.rst := rfl
@[simp] theorem State.andNotReg_carrier (k : Nat) (m : W32) : (s.andNotReg k m).carrier = s.carrier := rfl
@[simp] theorem State.andNotReg_boot (k : Nat) (m : W32) : (s.andNotReg k m).boot = s.boot := rfl
@[simp] theorem State.andNotReg_cores (k : Nat) (m : W32) : (s.andNotReg k m).cores = s.cores := rfl
@[simp] theorem State.andNotReg_mem (k : Nat) (m : W32) : (s.andNotReg k m).mem = s.mem := rfl
@[simp] theorem State.andNotReg_loop (k : Nat) (m : W32) : (s.andNotReg k m).loop = s.loop := rfl
@[simp] theorem State.andNotReg_groups (k : Nat) (m : W32) : (s.andNotReg k m).groups = s.groups := rfl
@[simp] theorem State.andNotReg_cap (k : Nat) (m : W32) : (s.andNotReg k m).cap = s.cap := rfl
@[simp] theorem State.andNotReg_laneX (k : Nat) (m : W32) : (s.andNotReg k m).laneX = s.laneX := rfl
@[simp] theorem State.andNotReg_laneY (k : Nat) (m : W32) : (s.andNotReg k m).laneY = s.laneY := rfl
@[simp] theorem State.andNotReg_net (k : Nat) (m : W32) : (s.andNotReg k m).net = s.net := rfl
@[simp] theorem State.andNotReg_time (k : Nat) (m : W32) : (s.andNotReg k m).time = s.time := rfl
@[simp] theorem State.andNotReg_pair (k : Nat) (m : W32) : (s.andNotReg k m).pair = s.pair := rfl
@[simp] theorem State.andNotReg_sec (k : Nat) (m : W32) : (s.andNotReg k m).sec = s.sec := rfl
@[simp] theorem State.andNotReg_aon (k : Nat) (m : W32) : (s.andNotReg k m).aon = s.aon := rfl
@[simp] theorem State.andNotReg_test (k : Nat) (m : W32) : (s.andNotReg k m).test = s.test := rfl
@[simp] theorem State.andNotReg_proof (k : Nat) (m : W32) : (s.andNotReg k m).proof = s.proof := rfl
@[simp] theorem State.andNotReg_disp (k : Nat) (m : W32) : (s.andNotReg k m).disp = s.disp := rfl
@[simp] theorem State.andNotReg_bus (k : Nat) (m : W32) : (s.andNotReg k m).bus = s.bus := rfl
@[simp] theorem State.andNotReg_free (k : Nat) (m : W32) : (s.andNotReg k m).free = s.free := rfl
@[simp] theorem State.andNotReg_pending (k : Nat) (m : W32) : (s.andNotReg k m).pending = s.pending := rfl

/-! ## countSat -/

@[simp] theorem State.countSat_frozen (k lo w n : Nat) : (s.countSat k lo w n).frozen = s.frozen := rfl
@[simp] theorem State.countSat_log (k lo w n : Nat) : (s.countSat k lo w n).log = s.log := rfl
@[simp] theorem State.countSat_pwr (k lo w n : Nat) : (s.countSat k lo w n).pwr = s.pwr := rfl
@[simp] theorem State.countSat_rst (k lo w n : Nat) : (s.countSat k lo w n).rst = s.rst := rfl
@[simp] theorem State.countSat_carrier (k lo w n : Nat) : (s.countSat k lo w n).carrier = s.carrier := rfl
@[simp] theorem State.countSat_boot (k lo w n : Nat) : (s.countSat k lo w n).boot = s.boot := rfl
@[simp] theorem State.countSat_cores (k lo w n : Nat) : (s.countSat k lo w n).cores = s.cores := rfl
@[simp] theorem State.countSat_mem (k lo w n : Nat) : (s.countSat k lo w n).mem = s.mem := rfl
@[simp] theorem State.countSat_loop (k lo w n : Nat) : (s.countSat k lo w n).loop = s.loop := rfl
@[simp] theorem State.countSat_groups (k lo w n : Nat) : (s.countSat k lo w n).groups = s.groups := rfl
@[simp] theorem State.countSat_cap (k lo w n : Nat) : (s.countSat k lo w n).cap = s.cap := rfl
@[simp] theorem State.countSat_laneX (k lo w n : Nat) : (s.countSat k lo w n).laneX = s.laneX := rfl
@[simp] theorem State.countSat_laneY (k lo w n : Nat) : (s.countSat k lo w n).laneY = s.laneY := rfl
@[simp] theorem State.countSat_net (k lo w n : Nat) : (s.countSat k lo w n).net = s.net := rfl
@[simp] theorem State.countSat_time (k lo w n : Nat) : (s.countSat k lo w n).time = s.time := rfl
@[simp] theorem State.countSat_pair (k lo w n : Nat) : (s.countSat k lo w n).pair = s.pair := rfl
@[simp] theorem State.countSat_sec (k lo w n : Nat) : (s.countSat k lo w n).sec = s.sec := rfl
@[simp] theorem State.countSat_aon (k lo w n : Nat) : (s.countSat k lo w n).aon = s.aon := rfl
@[simp] theorem State.countSat_test (k lo w n : Nat) : (s.countSat k lo w n).test = s.test := rfl
@[simp] theorem State.countSat_proof (k lo w n : Nat) : (s.countSat k lo w n).proof = s.proof := rfl
@[simp] theorem State.countSat_disp (k lo w n : Nat) : (s.countSat k lo w n).disp = s.disp := rfl
@[simp] theorem State.countSat_bus (k lo w n : Nat) : (s.countSat k lo w n).bus = s.bus := rfl
@[simp] theorem State.countSat_free (k lo w n : Nat) : (s.countSat k lo w n).free = s.free := rfl
@[simp] theorem State.countSat_pending (k lo w n : Nat) : (s.countSat k lo w n).pending = s.pending := rfl

/-! ## countMod -/

@[simp] theorem State.countMod_frozen (k lo w n : Nat) : (s.countMod k lo w n).frozen = s.frozen := rfl
@[simp] theorem State.countMod_log (k lo w n : Nat) : (s.countMod k lo w n).log = s.log := rfl
@[simp] theorem State.countMod_pwr (k lo w n : Nat) : (s.countMod k lo w n).pwr = s.pwr := rfl
@[simp] theorem State.countMod_rst (k lo w n : Nat) : (s.countMod k lo w n).rst = s.rst := rfl
@[simp] theorem State.countMod_carrier (k lo w n : Nat) : (s.countMod k lo w n).carrier = s.carrier := rfl
@[simp] theorem State.countMod_boot (k lo w n : Nat) : (s.countMod k lo w n).boot = s.boot := rfl
@[simp] theorem State.countMod_cores (k lo w n : Nat) : (s.countMod k lo w n).cores = s.cores := rfl
@[simp] theorem State.countMod_mem (k lo w n : Nat) : (s.countMod k lo w n).mem = s.mem := rfl
@[simp] theorem State.countMod_loop (k lo w n : Nat) : (s.countMod k lo w n).loop = s.loop := rfl
@[simp] theorem State.countMod_groups (k lo w n : Nat) : (s.countMod k lo w n).groups = s.groups := rfl
@[simp] theorem State.countMod_cap (k lo w n : Nat) : (s.countMod k lo w n).cap = s.cap := rfl
@[simp] theorem State.countMod_laneX (k lo w n : Nat) : (s.countMod k lo w n).laneX = s.laneX := rfl
@[simp] theorem State.countMod_laneY (k lo w n : Nat) : (s.countMod k lo w n).laneY = s.laneY := rfl
@[simp] theorem State.countMod_net (k lo w n : Nat) : (s.countMod k lo w n).net = s.net := rfl
@[simp] theorem State.countMod_time (k lo w n : Nat) : (s.countMod k lo w n).time = s.time := rfl
@[simp] theorem State.countMod_pair (k lo w n : Nat) : (s.countMod k lo w n).pair = s.pair := rfl
@[simp] theorem State.countMod_sec (k lo w n : Nat) : (s.countMod k lo w n).sec = s.sec := rfl
@[simp] theorem State.countMod_aon (k lo w n : Nat) : (s.countMod k lo w n).aon = s.aon := rfl
@[simp] theorem State.countMod_test (k lo w n : Nat) : (s.countMod k lo w n).test = s.test := rfl
@[simp] theorem State.countMod_proof (k lo w n : Nat) : (s.countMod k lo w n).proof = s.proof := rfl
@[simp] theorem State.countMod_disp (k lo w n : Nat) : (s.countMod k lo w n).disp = s.disp := rfl
@[simp] theorem State.countMod_bus (k lo w n : Nat) : (s.countMod k lo w n).bus = s.bus := rfl
@[simp] theorem State.countMod_free (k lo w n : Nat) : (s.countMod k lo w n).free = s.free := rfl
@[simp] theorem State.countMod_pending (k lo w n : Nat) : (s.countMod k lo w n).pending = s.pending := rfl

/-! ## setReg64 -/

@[simp] theorem State.setReg64_frozen (lo : Nat) (v : W64) : (s.setReg64 lo v).frozen = s.frozen := rfl
@[simp] theorem State.setReg64_log (lo : Nat) (v : W64) : (s.setReg64 lo v).log = s.log := rfl
@[simp] theorem State.setReg64_pwr (lo : Nat) (v : W64) : (s.setReg64 lo v).pwr = s.pwr := rfl
@[simp] theorem State.setReg64_rst (lo : Nat) (v : W64) : (s.setReg64 lo v).rst = s.rst := rfl
@[simp] theorem State.setReg64_carrier (lo : Nat) (v : W64) : (s.setReg64 lo v).carrier = s.carrier := rfl
@[simp] theorem State.setReg64_boot (lo : Nat) (v : W64) : (s.setReg64 lo v).boot = s.boot := rfl
@[simp] theorem State.setReg64_cores (lo : Nat) (v : W64) : (s.setReg64 lo v).cores = s.cores := rfl
@[simp] theorem State.setReg64_mem (lo : Nat) (v : W64) : (s.setReg64 lo v).mem = s.mem := rfl
@[simp] theorem State.setReg64_loop (lo : Nat) (v : W64) : (s.setReg64 lo v).loop = s.loop := rfl
@[simp] theorem State.setReg64_groups (lo : Nat) (v : W64) : (s.setReg64 lo v).groups = s.groups := rfl
@[simp] theorem State.setReg64_cap (lo : Nat) (v : W64) : (s.setReg64 lo v).cap = s.cap := rfl
@[simp] theorem State.setReg64_laneX (lo : Nat) (v : W64) : (s.setReg64 lo v).laneX = s.laneX := rfl
@[simp] theorem State.setReg64_laneY (lo : Nat) (v : W64) : (s.setReg64 lo v).laneY = s.laneY := rfl
@[simp] theorem State.setReg64_net (lo : Nat) (v : W64) : (s.setReg64 lo v).net = s.net := rfl
@[simp] theorem State.setReg64_time (lo : Nat) (v : W64) : (s.setReg64 lo v).time = s.time := rfl
@[simp] theorem State.setReg64_pair (lo : Nat) (v : W64) : (s.setReg64 lo v).pair = s.pair := rfl
@[simp] theorem State.setReg64_sec (lo : Nat) (v : W64) : (s.setReg64 lo v).sec = s.sec := rfl
@[simp] theorem State.setReg64_aon (lo : Nat) (v : W64) : (s.setReg64 lo v).aon = s.aon := rfl
@[simp] theorem State.setReg64_test (lo : Nat) (v : W64) : (s.setReg64 lo v).test = s.test := rfl
@[simp] theorem State.setReg64_proof (lo : Nat) (v : W64) : (s.setReg64 lo v).proof = s.proof := rfl
@[simp] theorem State.setReg64_disp (lo : Nat) (v : W64) : (s.setReg64 lo v).disp = s.disp := rfl
@[simp] theorem State.setReg64_bus (lo : Nat) (v : W64) : (s.setReg64 lo v).bus = s.bus := rfl
@[simp] theorem State.setReg64_free (lo : Nat) (v : W64) : (s.setReg64 lo v).free = s.free := rfl
@[simp] theorem State.setReg64_pending (lo : Nat) (v : W64) : (s.setReg64 lo v).pending = s.pending := rfl

/-! ## setMapBit -/

@[simp] theorem State.setMapBit_frozen (base n : Nat) (on : Bool) : (s.setMapBit base n on).frozen = s.frozen := rfl
@[simp] theorem State.setMapBit_log (base n : Nat) (on : Bool) : (s.setMapBit base n on).log = s.log := rfl
@[simp] theorem State.setMapBit_pwr (base n : Nat) (on : Bool) : (s.setMapBit base n on).pwr = s.pwr := rfl
@[simp] theorem State.setMapBit_rst (base n : Nat) (on : Bool) : (s.setMapBit base n on).rst = s.rst := rfl
@[simp] theorem State.setMapBit_carrier (base n : Nat) (on : Bool) : (s.setMapBit base n on).carrier = s.carrier := rfl
@[simp] theorem State.setMapBit_boot (base n : Nat) (on : Bool) : (s.setMapBit base n on).boot = s.boot := rfl
@[simp] theorem State.setMapBit_cores (base n : Nat) (on : Bool) : (s.setMapBit base n on).cores = s.cores := rfl
@[simp] theorem State.setMapBit_mem (base n : Nat) (on : Bool) : (s.setMapBit base n on).mem = s.mem := rfl
@[simp] theorem State.setMapBit_loop (base n : Nat) (on : Bool) : (s.setMapBit base n on).loop = s.loop := rfl
@[simp] theorem State.setMapBit_groups (base n : Nat) (on : Bool) : (s.setMapBit base n on).groups = s.groups := rfl
@[simp] theorem State.setMapBit_cap (base n : Nat) (on : Bool) : (s.setMapBit base n on).cap = s.cap := rfl
@[simp] theorem State.setMapBit_laneX (base n : Nat) (on : Bool) : (s.setMapBit base n on).laneX = s.laneX := rfl
@[simp] theorem State.setMapBit_laneY (base n : Nat) (on : Bool) : (s.setMapBit base n on).laneY = s.laneY := rfl
@[simp] theorem State.setMapBit_net (base n : Nat) (on : Bool) : (s.setMapBit base n on).net = s.net := rfl
@[simp] theorem State.setMapBit_time (base n : Nat) (on : Bool) : (s.setMapBit base n on).time = s.time := rfl
@[simp] theorem State.setMapBit_pair (base n : Nat) (on : Bool) : (s.setMapBit base n on).pair = s.pair := rfl
@[simp] theorem State.setMapBit_sec (base n : Nat) (on : Bool) : (s.setMapBit base n on).sec = s.sec := rfl
@[simp] theorem State.setMapBit_aon (base n : Nat) (on : Bool) : (s.setMapBit base n on).aon = s.aon := rfl
@[simp] theorem State.setMapBit_test (base n : Nat) (on : Bool) : (s.setMapBit base n on).test = s.test := rfl
@[simp] theorem State.setMapBit_proof (base n : Nat) (on : Bool) : (s.setMapBit base n on).proof = s.proof := rfl
@[simp] theorem State.setMapBit_disp (base n : Nat) (on : Bool) : (s.setMapBit base n on).disp = s.disp := rfl
@[simp] theorem State.setMapBit_bus (base n : Nat) (on : Bool) : (s.setMapBit base n on).bus = s.bus := rfl
@[simp] theorem State.setMapBit_free (base n : Nat) (on : Bool) : (s.setMapBit base n on).free = s.free := rfl
@[simp] theorem State.setMapBit_pending (base n : Nat) (on : Bool) : (s.setMapBit base n on).pending = s.pending := rfl

/-! ## setDomState -/

@[simp] theorem State.setDomState_frozen (d v : Nat) : (s.setDomState d v).frozen = s.frozen := rfl
@[simp] theorem State.setDomState_log (d v : Nat) : (s.setDomState d v).log = s.log := rfl
@[simp] theorem State.setDomState_pwr (d v : Nat) : (s.setDomState d v).pwr = s.pwr := rfl
@[simp] theorem State.setDomState_rst (d v : Nat) : (s.setDomState d v).rst = s.rst := rfl
@[simp] theorem State.setDomState_carrier (d v : Nat) : (s.setDomState d v).carrier = s.carrier := rfl
@[simp] theorem State.setDomState_boot (d v : Nat) : (s.setDomState d v).boot = s.boot := rfl
@[simp] theorem State.setDomState_cores (d v : Nat) : (s.setDomState d v).cores = s.cores := rfl
@[simp] theorem State.setDomState_mem (d v : Nat) : (s.setDomState d v).mem = s.mem := rfl
@[simp] theorem State.setDomState_loop (d v : Nat) : (s.setDomState d v).loop = s.loop := rfl
@[simp] theorem State.setDomState_groups (d v : Nat) : (s.setDomState d v).groups = s.groups := rfl
@[simp] theorem State.setDomState_cap (d v : Nat) : (s.setDomState d v).cap = s.cap := rfl
@[simp] theorem State.setDomState_laneX (d v : Nat) : (s.setDomState d v).laneX = s.laneX := rfl
@[simp] theorem State.setDomState_laneY (d v : Nat) : (s.setDomState d v).laneY = s.laneY := rfl
@[simp] theorem State.setDomState_net (d v : Nat) : (s.setDomState d v).net = s.net := rfl
@[simp] theorem State.setDomState_time (d v : Nat) : (s.setDomState d v).time = s.time := rfl
@[simp] theorem State.setDomState_pair (d v : Nat) : (s.setDomState d v).pair = s.pair := rfl
@[simp] theorem State.setDomState_sec (d v : Nat) : (s.setDomState d v).sec = s.sec := rfl
@[simp] theorem State.setDomState_aon (d v : Nat) : (s.setDomState d v).aon = s.aon := rfl
@[simp] theorem State.setDomState_test (d v : Nat) : (s.setDomState d v).test = s.test := rfl
@[simp] theorem State.setDomState_proof (d v : Nat) : (s.setDomState d v).proof = s.proof := rfl
@[simp] theorem State.setDomState_disp (d v : Nat) : (s.setDomState d v).disp = s.disp := rfl
@[simp] theorem State.setDomState_bus (d v : Nat) : (s.setDomState d v).bus = s.bus := rfl
@[simp] theorem State.setDomState_free (d v : Nat) : (s.setDomState d v).free = s.free := rfl
@[simp] theorem State.setDomState_pending (d v : Nat) : (s.setDomState d v).pending = s.pending := rfl

/-! ## pendIrq -/

@[simp] theorem State.pendIrq_frozen (p : Nat) (raw : W32) : (s.pendIrq p raw).frozen = s.frozen := rfl
@[simp] theorem State.pendIrq_log (p : Nat) (raw : W32) : (s.pendIrq p raw).log = s.log := rfl
@[simp] theorem State.pendIrq_pwr (p : Nat) (raw : W32) : (s.pendIrq p raw).pwr = s.pwr := rfl
@[simp] theorem State.pendIrq_rst (p : Nat) (raw : W32) : (s.pendIrq p raw).rst = s.rst := rfl
@[simp] theorem State.pendIrq_carrier (p : Nat) (raw : W32) : (s.pendIrq p raw).carrier = s.carrier := rfl
@[simp] theorem State.pendIrq_boot (p : Nat) (raw : W32) : (s.pendIrq p raw).boot = s.boot := rfl
@[simp] theorem State.pendIrq_cores (p : Nat) (raw : W32) : (s.pendIrq p raw).cores = s.cores := rfl
@[simp] theorem State.pendIrq_mem (p : Nat) (raw : W32) : (s.pendIrq p raw).mem = s.mem := rfl
@[simp] theorem State.pendIrq_loop (p : Nat) (raw : W32) : (s.pendIrq p raw).loop = s.loop := rfl
@[simp] theorem State.pendIrq_groups (p : Nat) (raw : W32) : (s.pendIrq p raw).groups = s.groups := rfl
@[simp] theorem State.pendIrq_cap (p : Nat) (raw : W32) : (s.pendIrq p raw).cap = s.cap := rfl
@[simp] theorem State.pendIrq_laneX (p : Nat) (raw : W32) : (s.pendIrq p raw).laneX = s.laneX := rfl
@[simp] theorem State.pendIrq_laneY (p : Nat) (raw : W32) : (s.pendIrq p raw).laneY = s.laneY := rfl
@[simp] theorem State.pendIrq_net (p : Nat) (raw : W32) : (s.pendIrq p raw).net = s.net := rfl
@[simp] theorem State.pendIrq_time (p : Nat) (raw : W32) : (s.pendIrq p raw).time = s.time := rfl
@[simp] theorem State.pendIrq_pair (p : Nat) (raw : W32) : (s.pendIrq p raw).pair = s.pair := rfl
@[simp] theorem State.pendIrq_sec (p : Nat) (raw : W32) : (s.pendIrq p raw).sec = s.sec := rfl
@[simp] theorem State.pendIrq_aon (p : Nat) (raw : W32) : (s.pendIrq p raw).aon = s.aon := rfl
@[simp] theorem State.pendIrq_test (p : Nat) (raw : W32) : (s.pendIrq p raw).test = s.test := rfl
@[simp] theorem State.pendIrq_proof (p : Nat) (raw : W32) : (s.pendIrq p raw).proof = s.proof := rfl
@[simp] theorem State.pendIrq_disp (p : Nat) (raw : W32) : (s.pendIrq p raw).disp = s.disp := rfl
@[simp] theorem State.pendIrq_bus (p : Nat) (raw : W32) : (s.pendIrq p raw).bus = s.bus := rfl
@[simp] theorem State.pendIrq_free (p : Nat) (raw : W32) : (s.pendIrq p raw).free = s.free := rfl
@[simp] theorem State.pendIrq_pending (p : Nat) (raw : W32) : (s.pendIrq p raw).pending = s.pending := rfl

/-! ## irqUpdate -/

@[simp] theorem State.irqUpdate_frozen (p : Nat) : (s.irqUpdate p).frozen = s.frozen := rfl
@[simp] theorem State.irqUpdate_log (p : Nat) : (s.irqUpdate p).log = s.log := rfl
@[simp] theorem State.irqUpdate_pwr (p : Nat) : (s.irqUpdate p).pwr = s.pwr := rfl
@[simp] theorem State.irqUpdate_rst (p : Nat) : (s.irqUpdate p).rst = s.rst := rfl
@[simp] theorem State.irqUpdate_carrier (p : Nat) : (s.irqUpdate p).carrier = s.carrier := rfl
@[simp] theorem State.irqUpdate_boot (p : Nat) : (s.irqUpdate p).boot = s.boot := rfl
@[simp] theorem State.irqUpdate_cores (p : Nat) : (s.irqUpdate p).cores = s.cores := rfl
@[simp] theorem State.irqUpdate_mem (p : Nat) : (s.irqUpdate p).mem = s.mem := rfl
@[simp] theorem State.irqUpdate_loop (p : Nat) : (s.irqUpdate p).loop = s.loop := rfl
@[simp] theorem State.irqUpdate_groups (p : Nat) : (s.irqUpdate p).groups = s.groups := rfl
@[simp] theorem State.irqUpdate_cap (p : Nat) : (s.irqUpdate p).cap = s.cap := rfl
@[simp] theorem State.irqUpdate_laneX (p : Nat) : (s.irqUpdate p).laneX = s.laneX := rfl
@[simp] theorem State.irqUpdate_laneY (p : Nat) : (s.irqUpdate p).laneY = s.laneY := rfl
@[simp] theorem State.irqUpdate_net (p : Nat) : (s.irqUpdate p).net = s.net := rfl
@[simp] theorem State.irqUpdate_time (p : Nat) : (s.irqUpdate p).time = s.time := rfl
@[simp] theorem State.irqUpdate_pair (p : Nat) : (s.irqUpdate p).pair = s.pair := rfl
@[simp] theorem State.irqUpdate_sec (p : Nat) : (s.irqUpdate p).sec = s.sec := rfl
@[simp] theorem State.irqUpdate_aon (p : Nat) : (s.irqUpdate p).aon = s.aon := rfl
@[simp] theorem State.irqUpdate_test (p : Nat) : (s.irqUpdate p).test = s.test := rfl
@[simp] theorem State.irqUpdate_proof (p : Nat) : (s.irqUpdate p).proof = s.proof := rfl
@[simp] theorem State.irqUpdate_disp (p : Nat) : (s.irqUpdate p).disp = s.disp := rfl
@[simp] theorem State.irqUpdate_bus (p : Nat) : (s.irqUpdate p).bus = s.bus := rfl
@[simp] theorem State.irqUpdate_free (p : Nat) : (s.irqUpdate p).free = s.free := rfl
@[simp] theorem State.irqUpdate_pending (p : Nat) : (s.irqUpdate p).pending = s.pending := rfl

/-! ## setEvt -/

@[simp] theorem State.setEvt_frozen (k b : Nat) : (s.setEvt k b).frozen = s.frozen := rfl
@[simp] theorem State.setEvt_log (k b : Nat) : (s.setEvt k b).log = s.log := rfl
@[simp] theorem State.setEvt_pwr (k b : Nat) : (s.setEvt k b).pwr = s.pwr := rfl
@[simp] theorem State.setEvt_rst (k b : Nat) : (s.setEvt k b).rst = s.rst := rfl
@[simp] theorem State.setEvt_carrier (k b : Nat) : (s.setEvt k b).carrier = s.carrier := rfl
@[simp] theorem State.setEvt_boot (k b : Nat) : (s.setEvt k b).boot = s.boot := rfl
@[simp] theorem State.setEvt_cores (k b : Nat) : (s.setEvt k b).cores = s.cores := rfl
@[simp] theorem State.setEvt_mem (k b : Nat) : (s.setEvt k b).mem = s.mem := rfl
@[simp] theorem State.setEvt_loop (k b : Nat) : (s.setEvt k b).loop = s.loop := rfl
@[simp] theorem State.setEvt_groups (k b : Nat) : (s.setEvt k b).groups = s.groups := rfl
@[simp] theorem State.setEvt_cap (k b : Nat) : (s.setEvt k b).cap = s.cap := rfl
@[simp] theorem State.setEvt_laneX (k b : Nat) : (s.setEvt k b).laneX = s.laneX := rfl
@[simp] theorem State.setEvt_laneY (k b : Nat) : (s.setEvt k b).laneY = s.laneY := rfl
@[simp] theorem State.setEvt_net (k b : Nat) : (s.setEvt k b).net = s.net := rfl
@[simp] theorem State.setEvt_time (k b : Nat) : (s.setEvt k b).time = s.time := rfl
@[simp] theorem State.setEvt_pair (k b : Nat) : (s.setEvt k b).pair = s.pair := rfl
@[simp] theorem State.setEvt_sec (k b : Nat) : (s.setEvt k b).sec = s.sec := rfl
@[simp] theorem State.setEvt_aon (k b : Nat) : (s.setEvt k b).aon = s.aon := rfl
@[simp] theorem State.setEvt_test (k b : Nat) : (s.setEvt k b).test = s.test := rfl
@[simp] theorem State.setEvt_proof (k b : Nat) : (s.setEvt k b).proof = s.proof := rfl
@[simp] theorem State.setEvt_disp (k b : Nat) : (s.setEvt k b).disp = s.disp := rfl
@[simp] theorem State.setEvt_bus (k b : Nat) : (s.setEvt k b).bus = s.bus := rfl
@[simp] theorem State.setEvt_free (k b : Nat) : (s.setEvt k b).free = s.free := rfl
@[simp] theorem State.setEvt_pending (k b : Nat) : (s.setEvt k b).pending = s.pending := rfl

/-! ## drawn -/

@[simp] theorem State.drawn_regs : (s.drawn).regs = s.regs := rfl
@[simp] theorem State.drawn_frozen : (s.drawn).frozen = s.frozen := rfl
@[simp] theorem State.drawn_log : (s.drawn).log = s.log := rfl
@[simp] theorem State.drawn_pwr : (s.drawn).pwr = s.pwr := rfl
@[simp] theorem State.drawn_rst : (s.drawn).rst = s.rst := rfl
@[simp] theorem State.drawn_carrier : (s.drawn).carrier = s.carrier := rfl
@[simp] theorem State.drawn_boot : (s.drawn).boot = s.boot := rfl
@[simp] theorem State.drawn_cores : (s.drawn).cores = s.cores := rfl
@[simp] theorem State.drawn_mem : (s.drawn).mem = s.mem := rfl
@[simp] theorem State.drawn_loop : (s.drawn).loop = s.loop := rfl
@[simp] theorem State.drawn_groups : (s.drawn).groups = s.groups := rfl
@[simp] theorem State.drawn_cap : (s.drawn).cap = s.cap := rfl
@[simp] theorem State.drawn_laneX : (s.drawn).laneX = s.laneX := rfl
@[simp] theorem State.drawn_laneY : (s.drawn).laneY = s.laneY := rfl
@[simp] theorem State.drawn_net : (s.drawn).net = s.net := rfl
@[simp] theorem State.drawn_time : (s.drawn).time = s.time := rfl
@[simp] theorem State.drawn_pair : (s.drawn).pair = s.pair := rfl
@[simp] theorem State.drawn_sec : (s.drawn).sec = s.sec := rfl
@[simp] theorem State.drawn_aon : (s.drawn).aon = s.aon := rfl
@[simp] theorem State.drawn_test : (s.drawn).test = s.test := rfl
@[simp] theorem State.drawn_proof : (s.drawn).proof = s.proof := rfl
@[simp] theorem State.drawn_disp : (s.drawn).disp = s.disp := rfl
@[simp] theorem State.drawn_bus : (s.drawn).bus = s.bus := rfl
@[simp] theorem State.drawn_pending : (s.drawn).pending = s.pending := rfl

/-! ## setCore -/

@[simp] theorem State.setCore_regs (c : Nat) (x : Core) : (s.setCore c x).regs = s.regs := rfl
@[simp] theorem State.setCore_frozen (c : Nat) (x : Core) : (s.setCore c x).frozen = s.frozen := rfl
@[simp] theorem State.setCore_log (c : Nat) (x : Core) : (s.setCore c x).log = s.log := rfl
@[simp] theorem State.setCore_pwr (c : Nat) (x : Core) : (s.setCore c x).pwr = s.pwr := rfl
@[simp] theorem State.setCore_rst (c : Nat) (x : Core) : (s.setCore c x).rst = s.rst := rfl
@[simp] theorem State.setCore_carrier (c : Nat) (x : Core) : (s.setCore c x).carrier = s.carrier := rfl
@[simp] theorem State.setCore_boot (c : Nat) (x : Core) : (s.setCore c x).boot = s.boot := rfl
@[simp] theorem State.setCore_mem (c : Nat) (x : Core) : (s.setCore c x).mem = s.mem := rfl
@[simp] theorem State.setCore_loop (c : Nat) (x : Core) : (s.setCore c x).loop = s.loop := rfl
@[simp] theorem State.setCore_groups (c : Nat) (x : Core) : (s.setCore c x).groups = s.groups := rfl
@[simp] theorem State.setCore_cap (c : Nat) (x : Core) : (s.setCore c x).cap = s.cap := rfl
@[simp] theorem State.setCore_laneX (c : Nat) (x : Core) : (s.setCore c x).laneX = s.laneX := rfl
@[simp] theorem State.setCore_laneY (c : Nat) (x : Core) : (s.setCore c x).laneY = s.laneY := rfl
@[simp] theorem State.setCore_net (c : Nat) (x : Core) : (s.setCore c x).net = s.net := rfl
@[simp] theorem State.setCore_time (c : Nat) (x : Core) : (s.setCore c x).time = s.time := rfl
@[simp] theorem State.setCore_pair (c : Nat) (x : Core) : (s.setCore c x).pair = s.pair := rfl
@[simp] theorem State.setCore_sec (c : Nat) (x : Core) : (s.setCore c x).sec = s.sec := rfl
@[simp] theorem State.setCore_aon (c : Nat) (x : Core) : (s.setCore c x).aon = s.aon := rfl
@[simp] theorem State.setCore_test (c : Nat) (x : Core) : (s.setCore c x).test = s.test := rfl
@[simp] theorem State.setCore_proof (c : Nat) (x : Core) : (s.setCore c x).proof = s.proof := rfl
@[simp] theorem State.setCore_disp (c : Nat) (x : Core) : (s.setCore c x).disp = s.disp := rfl
@[simp] theorem State.setCore_bus (c : Nat) (x : Core) : (s.setCore c x).bus = s.bus := rfl
@[simp] theorem State.setCore_free (c : Nat) (x : Core) : (s.setCore c x).free = s.free := rfl
@[simp] theorem State.setCore_pending (c : Nat) (x : Core) : (s.setCore c x).pending = s.pending := rfl

/-! ## setGrp -/

@[simp] theorem State.setGrp_regs (k : Nat) (g : GroupState) : (s.setGrp k g).regs = s.regs := rfl
@[simp] theorem State.setGrp_frozen (k : Nat) (g : GroupState) : (s.setGrp k g).frozen = s.frozen := rfl
@[simp] theorem State.setGrp_log (k : Nat) (g : GroupState) : (s.setGrp k g).log = s.log := rfl
@[simp] theorem State.setGrp_pwr (k : Nat) (g : GroupState) : (s.setGrp k g).pwr = s.pwr := rfl
@[simp] theorem State.setGrp_rst (k : Nat) (g : GroupState) : (s.setGrp k g).rst = s.rst := rfl
@[simp] theorem State.setGrp_carrier (k : Nat) (g : GroupState) : (s.setGrp k g).carrier = s.carrier := rfl
@[simp] theorem State.setGrp_boot (k : Nat) (g : GroupState) : (s.setGrp k g).boot = s.boot := rfl
@[simp] theorem State.setGrp_cores (k : Nat) (g : GroupState) : (s.setGrp k g).cores = s.cores := rfl
@[simp] theorem State.setGrp_mem (k : Nat) (g : GroupState) : (s.setGrp k g).mem = s.mem := rfl
@[simp] theorem State.setGrp_loop (k : Nat) (g : GroupState) : (s.setGrp k g).loop = s.loop := rfl
@[simp] theorem State.setGrp_cap (k : Nat) (g : GroupState) : (s.setGrp k g).cap = s.cap := rfl
@[simp] theorem State.setGrp_laneX (k : Nat) (g : GroupState) : (s.setGrp k g).laneX = s.laneX := rfl
@[simp] theorem State.setGrp_laneY (k : Nat) (g : GroupState) : (s.setGrp k g).laneY = s.laneY := rfl
@[simp] theorem State.setGrp_net (k : Nat) (g : GroupState) : (s.setGrp k g).net = s.net := rfl
@[simp] theorem State.setGrp_time (k : Nat) (g : GroupState) : (s.setGrp k g).time = s.time := rfl
@[simp] theorem State.setGrp_pair (k : Nat) (g : GroupState) : (s.setGrp k g).pair = s.pair := rfl
@[simp] theorem State.setGrp_sec (k : Nat) (g : GroupState) : (s.setGrp k g).sec = s.sec := rfl
@[simp] theorem State.setGrp_aon (k : Nat) (g : GroupState) : (s.setGrp k g).aon = s.aon := rfl
@[simp] theorem State.setGrp_test (k : Nat) (g : GroupState) : (s.setGrp k g).test = s.test := rfl
@[simp] theorem State.setGrp_proof (k : Nat) (g : GroupState) : (s.setGrp k g).proof = s.proof := rfl
@[simp] theorem State.setGrp_disp (k : Nat) (g : GroupState) : (s.setGrp k g).disp = s.disp := rfl
@[simp] theorem State.setGrp_bus (k : Nat) (g : GroupState) : (s.setGrp k g).bus = s.bus := rfl
@[simp] theorem State.setGrp_free (k : Nat) (g : GroupState) : (s.setGrp k g).free = s.free := rfl
@[simp] theorem State.setGrp_pending (k : Nat) (g : GroupState) : (s.setGrp k g).pending = s.pending := rfl

/-! ## setPmByte -/

@[simp] theorem State.setPmByte_regs (a : Nat) (b : Byte) : (s.setPmByte a b).regs = s.regs := rfl
@[simp] theorem State.setPmByte_frozen (a : Nat) (b : Byte) : (s.setPmByte a b).frozen = s.frozen := rfl
@[simp] theorem State.setPmByte_log (a : Nat) (b : Byte) : (s.setPmByte a b).log = s.log := rfl
@[simp] theorem State.setPmByte_pwr (a : Nat) (b : Byte) : (s.setPmByte a b).pwr = s.pwr := rfl
@[simp] theorem State.setPmByte_rst (a : Nat) (b : Byte) : (s.setPmByte a b).rst = s.rst := rfl
@[simp] theorem State.setPmByte_carrier (a : Nat) (b : Byte) : (s.setPmByte a b).carrier = s.carrier := rfl
@[simp] theorem State.setPmByte_boot (a : Nat) (b : Byte) : (s.setPmByte a b).boot = s.boot := rfl
@[simp] theorem State.setPmByte_cores (a : Nat) (b : Byte) : (s.setPmByte a b).cores = s.cores := rfl
@[simp] theorem State.setPmByte_loop (a : Nat) (b : Byte) : (s.setPmByte a b).loop = s.loop := rfl
@[simp] theorem State.setPmByte_groups (a : Nat) (b : Byte) : (s.setPmByte a b).groups = s.groups := rfl
@[simp] theorem State.setPmByte_cap (a : Nat) (b : Byte) : (s.setPmByte a b).cap = s.cap := rfl
@[simp] theorem State.setPmByte_laneX (a : Nat) (b : Byte) : (s.setPmByte a b).laneX = s.laneX := rfl
@[simp] theorem State.setPmByte_laneY (a : Nat) (b : Byte) : (s.setPmByte a b).laneY = s.laneY := rfl
@[simp] theorem State.setPmByte_net (a : Nat) (b : Byte) : (s.setPmByte a b).net = s.net := rfl
@[simp] theorem State.setPmByte_time (a : Nat) (b : Byte) : (s.setPmByte a b).time = s.time := rfl
@[simp] theorem State.setPmByte_pair (a : Nat) (b : Byte) : (s.setPmByte a b).pair = s.pair := rfl
@[simp] theorem State.setPmByte_sec (a : Nat) (b : Byte) : (s.setPmByte a b).sec = s.sec := rfl
@[simp] theorem State.setPmByte_aon (a : Nat) (b : Byte) : (s.setPmByte a b).aon = s.aon := rfl
@[simp] theorem State.setPmByte_test (a : Nat) (b : Byte) : (s.setPmByte a b).test = s.test := rfl
@[simp] theorem State.setPmByte_proof (a : Nat) (b : Byte) : (s.setPmByte a b).proof = s.proof := rfl
@[simp] theorem State.setPmByte_disp (a : Nat) (b : Byte) : (s.setPmByte a b).disp = s.disp := rfl
@[simp] theorem State.setPmByte_bus (a : Nat) (b : Byte) : (s.setPmByte a b).bus = s.bus := rfl
@[simp] theorem State.setPmByte_free (a : Nat) (b : Byte) : (s.setPmByte a b).free = s.free := rfl
@[simp] theorem State.setPmByte_pending (a : Nat) (b : Byte) : (s.setPmByte a b).pending = s.pending := rfl

/-! ## zeroMram -/

@[simp] theorem State.zeroMram_regs (a n : Nat) : (s.zeroMram a n).regs = s.regs := rfl
@[simp] theorem State.zeroMram_frozen (a n : Nat) : (s.zeroMram a n).frozen = s.frozen := rfl
@[simp] theorem State.zeroMram_log (a n : Nat) : (s.zeroMram a n).log = s.log := rfl
@[simp] theorem State.zeroMram_pwr (a n : Nat) : (s.zeroMram a n).pwr = s.pwr := rfl
@[simp] theorem State.zeroMram_rst (a n : Nat) : (s.zeroMram a n).rst = s.rst := rfl
@[simp] theorem State.zeroMram_carrier (a n : Nat) : (s.zeroMram a n).carrier = s.carrier := rfl
@[simp] theorem State.zeroMram_boot (a n : Nat) : (s.zeroMram a n).boot = s.boot := rfl
@[simp] theorem State.zeroMram_cores (a n : Nat) : (s.zeroMram a n).cores = s.cores := rfl
@[simp] theorem State.zeroMram_loop (a n : Nat) : (s.zeroMram a n).loop = s.loop := rfl
@[simp] theorem State.zeroMram_groups (a n : Nat) : (s.zeroMram a n).groups = s.groups := rfl
@[simp] theorem State.zeroMram_cap (a n : Nat) : (s.zeroMram a n).cap = s.cap := rfl
@[simp] theorem State.zeroMram_laneX (a n : Nat) : (s.zeroMram a n).laneX = s.laneX := rfl
@[simp] theorem State.zeroMram_laneY (a n : Nat) : (s.zeroMram a n).laneY = s.laneY := rfl
@[simp] theorem State.zeroMram_net (a n : Nat) : (s.zeroMram a n).net = s.net := rfl
@[simp] theorem State.zeroMram_time (a n : Nat) : (s.zeroMram a n).time = s.time := rfl
@[simp] theorem State.zeroMram_pair (a n : Nat) : (s.zeroMram a n).pair = s.pair := rfl
@[simp] theorem State.zeroMram_sec (a n : Nat) : (s.zeroMram a n).sec = s.sec := rfl
@[simp] theorem State.zeroMram_aon (a n : Nat) : (s.zeroMram a n).aon = s.aon := rfl
@[simp] theorem State.zeroMram_test (a n : Nat) : (s.zeroMram a n).test = s.test := rfl
@[simp] theorem State.zeroMram_proof (a n : Nat) : (s.zeroMram a n).proof = s.proof := rfl
@[simp] theorem State.zeroMram_disp (a n : Nat) : (s.zeroMram a n).disp = s.disp := rfl
@[simp] theorem State.zeroMram_bus (a n : Nat) : (s.zeroMram a n).bus = s.bus := rfl
@[simp] theorem State.zeroMram_free (a n : Nat) : (s.zeroMram a n).free = s.free := rfl
@[simp] theorem State.zeroMram_pending (a n : Nat) : (s.zeroMram a n).pending = s.pending := rfl

/-! ## eraseSector -/

@[simp] theorem State.eraseSector_regs (sec : Nat) : (s.eraseSector sec).regs = s.regs := rfl
@[simp] theorem State.eraseSector_frozen (sec : Nat) : (s.eraseSector sec).frozen = s.frozen := rfl
@[simp] theorem State.eraseSector_log (sec : Nat) : (s.eraseSector sec).log = s.log := rfl
@[simp] theorem State.eraseSector_pwr (sec : Nat) : (s.eraseSector sec).pwr = s.pwr := rfl
@[simp] theorem State.eraseSector_rst (sec : Nat) : (s.eraseSector sec).rst = s.rst := rfl
@[simp] theorem State.eraseSector_carrier (sec : Nat) : (s.eraseSector sec).carrier = s.carrier := rfl
@[simp] theorem State.eraseSector_boot (sec : Nat) : (s.eraseSector sec).boot = s.boot := rfl
@[simp] theorem State.eraseSector_cores (sec : Nat) : (s.eraseSector sec).cores = s.cores := rfl
@[simp] theorem State.eraseSector_loop (sec : Nat) : (s.eraseSector sec).loop = s.loop := rfl
@[simp] theorem State.eraseSector_groups (sec : Nat) : (s.eraseSector sec).groups = s.groups := rfl
@[simp] theorem State.eraseSector_cap (sec : Nat) : (s.eraseSector sec).cap = s.cap := rfl
@[simp] theorem State.eraseSector_laneX (sec : Nat) : (s.eraseSector sec).laneX = s.laneX := rfl
@[simp] theorem State.eraseSector_laneY (sec : Nat) : (s.eraseSector sec).laneY = s.laneY := rfl
@[simp] theorem State.eraseSector_net (sec : Nat) : (s.eraseSector sec).net = s.net := rfl
@[simp] theorem State.eraseSector_time (sec : Nat) : (s.eraseSector sec).time = s.time := rfl
@[simp] theorem State.eraseSector_pair (sec : Nat) : (s.eraseSector sec).pair = s.pair := rfl
@[simp] theorem State.eraseSector_sec (sec : Nat) : (s.eraseSector sec).sec = s.sec := rfl
@[simp] theorem State.eraseSector_aon (sec : Nat) : (s.eraseSector sec).aon = s.aon := rfl
@[simp] theorem State.eraseSector_test (sec : Nat) : (s.eraseSector sec).test = s.test := rfl
@[simp] theorem State.eraseSector_proof (sec : Nat) : (s.eraseSector sec).proof = s.proof := rfl
@[simp] theorem State.eraseSector_disp (sec : Nat) : (s.eraseSector sec).disp = s.disp := rfl
@[simp] theorem State.eraseSector_bus (sec : Nat) : (s.eraseSector sec).bus = s.bus := rfl
@[simp] theorem State.eraseSector_free (sec : Nat) : (s.eraseSector sec).free = s.free := rfl
@[simp] theorem State.eraseSector_pending (sec : Nat) : (s.eraseSector sec).pending = s.pending := rfl

/-! ## fillPm -/

@[simp] theorem State.fillPm_regs (a n : Nat) (f : Nat → Byte) : (s.fillPm a n f).regs = s.regs := rfl
@[simp] theorem State.fillPm_frozen (a n : Nat) (f : Nat → Byte) : (s.fillPm a n f).frozen = s.frozen := rfl
@[simp] theorem State.fillPm_log (a n : Nat) (f : Nat → Byte) : (s.fillPm a n f).log = s.log := rfl
@[simp] theorem State.fillPm_pwr (a n : Nat) (f : Nat → Byte) : (s.fillPm a n f).pwr = s.pwr := rfl
@[simp] theorem State.fillPm_rst (a n : Nat) (f : Nat → Byte) : (s.fillPm a n f).rst = s.rst := rfl
@[simp] theorem State.fillPm_carrier (a n : Nat) (f : Nat → Byte) : (s.fillPm a n f).carrier = s.carrier := rfl
@[simp] theorem State.fillPm_boot (a n : Nat) (f : Nat → Byte) : (s.fillPm a n f).boot = s.boot := rfl
@[simp] theorem State.fillPm_cores (a n : Nat) (f : Nat → Byte) : (s.fillPm a n f).cores = s.cores := rfl
@[simp] theorem State.fillPm_loop (a n : Nat) (f : Nat → Byte) : (s.fillPm a n f).loop = s.loop := rfl
@[simp] theorem State.fillPm_groups (a n : Nat) (f : Nat → Byte) : (s.fillPm a n f).groups = s.groups := rfl
@[simp] theorem State.fillPm_cap (a n : Nat) (f : Nat → Byte) : (s.fillPm a n f).cap = s.cap := rfl
@[simp] theorem State.fillPm_laneX (a n : Nat) (f : Nat → Byte) : (s.fillPm a n f).laneX = s.laneX := rfl
@[simp] theorem State.fillPm_laneY (a n : Nat) (f : Nat → Byte) : (s.fillPm a n f).laneY = s.laneY := rfl
@[simp] theorem State.fillPm_net (a n : Nat) (f : Nat → Byte) : (s.fillPm a n f).net = s.net := rfl
@[simp] theorem State.fillPm_time (a n : Nat) (f : Nat → Byte) : (s.fillPm a n f).time = s.time := rfl
@[simp] theorem State.fillPm_pair (a n : Nat) (f : Nat → Byte) : (s.fillPm a n f).pair = s.pair := rfl
@[simp] theorem State.fillPm_sec (a n : Nat) (f : Nat → Byte) : (s.fillPm a n f).sec = s.sec := rfl
@[simp] theorem State.fillPm_aon (a n : Nat) (f : Nat → Byte) : (s.fillPm a n f).aon = s.aon := rfl
@[simp] theorem State.fillPm_test (a n : Nat) (f : Nat → Byte) : (s.fillPm a n f).test = s.test := rfl
@[simp] theorem State.fillPm_proof (a n : Nat) (f : Nat → Byte) : (s.fillPm a n f).proof = s.proof := rfl
@[simp] theorem State.fillPm_disp (a n : Nat) (f : Nat → Byte) : (s.fillPm a n f).disp = s.disp := rfl
@[simp] theorem State.fillPm_bus (a n : Nat) (f : Nat → Byte) : (s.fillPm a n f).bus = s.bus := rfl
@[simp] theorem State.fillPm_free (a n : Nat) (f : Nat → Byte) : (s.fillPm a n f).free = s.free := rfl
@[simp] theorem State.fillPm_pending (a n : Nat) (f : Nat → Byte) : (s.fillPm a n f).pending = s.pending := rfl

/-! ## recordFault -/

@[simp] theorem State.recordFault_frozen (p cause : Nat) : (s.recordFault p cause).frozen = s.frozen := by unfold State.recordFault; dsimp only; split <;> rfl
@[simp] theorem State.recordFault_log (p cause : Nat) : (s.recordFault p cause).log = s.log := by unfold State.recordFault; dsimp only; split <;> rfl
@[simp] theorem State.recordFault_pwr (p cause : Nat) : (s.recordFault p cause).pwr = s.pwr := by unfold State.recordFault; dsimp only; split <;> rfl
@[simp] theorem State.recordFault_rst (p cause : Nat) : (s.recordFault p cause).rst = s.rst := by unfold State.recordFault; dsimp only; split <;> rfl
@[simp] theorem State.recordFault_carrier (p cause : Nat) : (s.recordFault p cause).carrier = s.carrier := by unfold State.recordFault; dsimp only; split <;> rfl
@[simp] theorem State.recordFault_boot (p cause : Nat) : (s.recordFault p cause).boot = s.boot := by unfold State.recordFault; dsimp only; split <;> rfl
@[simp] theorem State.recordFault_cores (p cause : Nat) : (s.recordFault p cause).cores = s.cores := by unfold State.recordFault; dsimp only; split <;> rfl
@[simp] theorem State.recordFault_mem (p cause : Nat) : (s.recordFault p cause).mem = s.mem := by unfold State.recordFault; dsimp only; split <;> rfl
@[simp] theorem State.recordFault_loop (p cause : Nat) : (s.recordFault p cause).loop = s.loop := by unfold State.recordFault; dsimp only; split <;> rfl
@[simp] theorem State.recordFault_groups (p cause : Nat) : (s.recordFault p cause).groups = s.groups := by unfold State.recordFault; dsimp only; split <;> rfl
@[simp] theorem State.recordFault_cap (p cause : Nat) : (s.recordFault p cause).cap = s.cap := by unfold State.recordFault; dsimp only; split <;> rfl
@[simp] theorem State.recordFault_laneX (p cause : Nat) : (s.recordFault p cause).laneX = s.laneX := by unfold State.recordFault; dsimp only; split <;> rfl
@[simp] theorem State.recordFault_laneY (p cause : Nat) : (s.recordFault p cause).laneY = s.laneY := by unfold State.recordFault; dsimp only; split <;> rfl
@[simp] theorem State.recordFault_net (p cause : Nat) : (s.recordFault p cause).net = s.net := by unfold State.recordFault; dsimp only; split <;> rfl
@[simp] theorem State.recordFault_time (p cause : Nat) : (s.recordFault p cause).time = s.time := by unfold State.recordFault; dsimp only; split <;> rfl
@[simp] theorem State.recordFault_pair (p cause : Nat) : (s.recordFault p cause).pair = s.pair := by unfold State.recordFault; dsimp only; split <;> rfl
@[simp] theorem State.recordFault_sec (p cause : Nat) : (s.recordFault p cause).sec = s.sec := by unfold State.recordFault; dsimp only; split <;> rfl
@[simp] theorem State.recordFault_aon (p cause : Nat) : (s.recordFault p cause).aon = s.aon := by unfold State.recordFault; dsimp only; split <;> rfl
@[simp] theorem State.recordFault_test (p cause : Nat) : (s.recordFault p cause).test = s.test := by unfold State.recordFault; dsimp only; split <;> rfl
@[simp] theorem State.recordFault_proof (p cause : Nat) : (s.recordFault p cause).proof = s.proof := by unfold State.recordFault; dsimp only; split <;> rfl
@[simp] theorem State.recordFault_disp (p cause : Nat) : (s.recordFault p cause).disp = s.disp := by unfold State.recordFault; dsimp only; split <;> rfl
@[simp] theorem State.recordFault_bus (p cause : Nat) : (s.recordFault p cause).bus = s.bus := by unfold State.recordFault; dsimp only; split <;> rfl
@[simp] theorem State.recordFault_free (p cause : Nat) : (s.recordFault p cause).free = s.free := by unfold State.recordFault; dsimp only; split <;> rfl
@[simp] theorem State.recordFault_pending (p cause : Nat) : (s.recordFault p cause).pending = s.pending := by unfold State.recordFault; dsimp only; split <;> rfl

/-! ## setGreg -/

@[simp] theorem State.setGreg_regs (c r : Nat) (v : TWord) : (s.setGreg c r v).regs = s.regs := by unfold State.setGreg; split <;> rfl
@[simp] theorem State.setGreg_frozen (c r : Nat) (v : TWord) : (s.setGreg c r v).frozen = s.frozen := by unfold State.setGreg; split <;> rfl
@[simp] theorem State.setGreg_log (c r : Nat) (v : TWord) : (s.setGreg c r v).log = s.log := by unfold State.setGreg; split <;> rfl
@[simp] theorem State.setGreg_pwr (c r : Nat) (v : TWord) : (s.setGreg c r v).pwr = s.pwr := by unfold State.setGreg; split <;> rfl
@[simp] theorem State.setGreg_rst (c r : Nat) (v : TWord) : (s.setGreg c r v).rst = s.rst := by unfold State.setGreg; split <;> rfl
@[simp] theorem State.setGreg_carrier (c r : Nat) (v : TWord) : (s.setGreg c r v).carrier = s.carrier := by unfold State.setGreg; split <;> rfl
@[simp] theorem State.setGreg_boot (c r : Nat) (v : TWord) : (s.setGreg c r v).boot = s.boot := by unfold State.setGreg; split <;> rfl
@[simp] theorem State.setGreg_mem (c r : Nat) (v : TWord) : (s.setGreg c r v).mem = s.mem := by unfold State.setGreg; split <;> rfl
@[simp] theorem State.setGreg_loop (c r : Nat) (v : TWord) : (s.setGreg c r v).loop = s.loop := by unfold State.setGreg; split <;> rfl
@[simp] theorem State.setGreg_groups (c r : Nat) (v : TWord) : (s.setGreg c r v).groups = s.groups := by unfold State.setGreg; split <;> rfl
@[simp] theorem State.setGreg_cap (c r : Nat) (v : TWord) : (s.setGreg c r v).cap = s.cap := by unfold State.setGreg; split <;> rfl
@[simp] theorem State.setGreg_laneX (c r : Nat) (v : TWord) : (s.setGreg c r v).laneX = s.laneX := by unfold State.setGreg; split <;> rfl
@[simp] theorem State.setGreg_laneY (c r : Nat) (v : TWord) : (s.setGreg c r v).laneY = s.laneY := by unfold State.setGreg; split <;> rfl
@[simp] theorem State.setGreg_net (c r : Nat) (v : TWord) : (s.setGreg c r v).net = s.net := by unfold State.setGreg; split <;> rfl
@[simp] theorem State.setGreg_time (c r : Nat) (v : TWord) : (s.setGreg c r v).time = s.time := by unfold State.setGreg; split <;> rfl
@[simp] theorem State.setGreg_pair (c r : Nat) (v : TWord) : (s.setGreg c r v).pair = s.pair := by unfold State.setGreg; split <;> rfl
@[simp] theorem State.setGreg_sec (c r : Nat) (v : TWord) : (s.setGreg c r v).sec = s.sec := by unfold State.setGreg; split <;> rfl
@[simp] theorem State.setGreg_aon (c r : Nat) (v : TWord) : (s.setGreg c r v).aon = s.aon := by unfold State.setGreg; split <;> rfl
@[simp] theorem State.setGreg_test (c r : Nat) (v : TWord) : (s.setGreg c r v).test = s.test := by unfold State.setGreg; split <;> rfl
@[simp] theorem State.setGreg_proof (c r : Nat) (v : TWord) : (s.setGreg c r v).proof = s.proof := by unfold State.setGreg; split <;> rfl
@[simp] theorem State.setGreg_disp (c r : Nat) (v : TWord) : (s.setGreg c r v).disp = s.disp := by unfold State.setGreg; split <;> rfl
@[simp] theorem State.setGreg_bus (c r : Nat) (v : TWord) : (s.setGreg c r v).bus = s.bus := by unfold State.setGreg; split <;> rfl
@[simp] theorem State.setGreg_free (c r : Nat) (v : TWord) : (s.setGreg c r v).free = s.free := by unfold State.setGreg; split <;> rfl
@[simp] theorem State.setGreg_pending (c r : Nat) (v : TWord) : (s.setGreg c r v).pending = s.pending := by unfold State.setGreg; split <;> rfl

/-! ## setTpm -/

@[simp] theorem State.setTpm_regs (w : Nat) (v : TWord) : (s.setTpm w v).regs = s.regs := by unfold State.setTpm; dsimp only; split <;> rfl
@[simp] theorem State.setTpm_frozen (w : Nat) (v : TWord) : (s.setTpm w v).frozen = s.frozen := by unfold State.setTpm; dsimp only; split <;> rfl
@[simp] theorem State.setTpm_log (w : Nat) (v : TWord) : (s.setTpm w v).log = s.log := by unfold State.setTpm; dsimp only; split <;> rfl
@[simp] theorem State.setTpm_pwr (w : Nat) (v : TWord) : (s.setTpm w v).pwr = s.pwr := by unfold State.setTpm; dsimp only; split <;> rfl
@[simp] theorem State.setTpm_rst (w : Nat) (v : TWord) : (s.setTpm w v).rst = s.rst := by unfold State.setTpm; dsimp only; split <;> rfl
@[simp] theorem State.setTpm_carrier (w : Nat) (v : TWord) : (s.setTpm w v).carrier = s.carrier := by unfold State.setTpm; dsimp only; split <;> rfl
@[simp] theorem State.setTpm_boot (w : Nat) (v : TWord) : (s.setTpm w v).boot = s.boot := by unfold State.setTpm; dsimp only; split <;> rfl
@[simp] theorem State.setTpm_cores (w : Nat) (v : TWord) : (s.setTpm w v).cores = s.cores := by unfold State.setTpm; dsimp only; split <;> rfl
@[simp] theorem State.setTpm_loop (w : Nat) (v : TWord) : (s.setTpm w v).loop = s.loop := by unfold State.setTpm; dsimp only; split <;> rfl
@[simp] theorem State.setTpm_groups (w : Nat) (v : TWord) : (s.setTpm w v).groups = s.groups := by unfold State.setTpm; dsimp only; split <;> rfl
@[simp] theorem State.setTpm_cap (w : Nat) (v : TWord) : (s.setTpm w v).cap = s.cap := by unfold State.setTpm; dsimp only; split <;> rfl
@[simp] theorem State.setTpm_laneX (w : Nat) (v : TWord) : (s.setTpm w v).laneX = s.laneX := by unfold State.setTpm; dsimp only; split <;> rfl
@[simp] theorem State.setTpm_laneY (w : Nat) (v : TWord) : (s.setTpm w v).laneY = s.laneY := by unfold State.setTpm; dsimp only; split <;> rfl
@[simp] theorem State.setTpm_net (w : Nat) (v : TWord) : (s.setTpm w v).net = s.net := by unfold State.setTpm; dsimp only; split <;> rfl
@[simp] theorem State.setTpm_time (w : Nat) (v : TWord) : (s.setTpm w v).time = s.time := by unfold State.setTpm; dsimp only; split <;> rfl
@[simp] theorem State.setTpm_sec (w : Nat) (v : TWord) : (s.setTpm w v).sec = s.sec := by unfold State.setTpm; dsimp only; split <;> rfl
@[simp] theorem State.setTpm_aon (w : Nat) (v : TWord) : (s.setTpm w v).aon = s.aon := by unfold State.setTpm; dsimp only; split <;> rfl
@[simp] theorem State.setTpm_test (w : Nat) (v : TWord) : (s.setTpm w v).test = s.test := by unfold State.setTpm; dsimp only; split <;> rfl
@[simp] theorem State.setTpm_proof (w : Nat) (v : TWord) : (s.setTpm w v).proof = s.proof := by unfold State.setTpm; dsimp only; split <;> rfl
@[simp] theorem State.setTpm_disp (w : Nat) (v : TWord) : (s.setTpm w v).disp = s.disp := by unfold State.setTpm; dsimp only; split <;> rfl
@[simp] theorem State.setTpm_bus (w : Nat) (v : TWord) : (s.setTpm w v).bus = s.bus := by unfold State.setTpm; dsimp only; split <;> rfl
@[simp] theorem State.setTpm_free (w : Nat) (v : TWord) : (s.setTpm w v).free = s.free := by unfold State.setTpm; dsimp only; split <;> rfl
@[simp] theorem State.setTpm_pending (w : Nat) (v : TWord) : (s.setTpm w v).pending = s.pending := by unfold State.setTpm; dsimp only; split <;> rfl

/-! ## enqueue -/

@[simp] theorem State.enqueue_frozen (r : LogRec) : (s.enqueue r).frozen = s.frozen := by unfold State.enqueue; split <;> rfl
@[simp] theorem State.enqueue_pwr (r : LogRec) : (s.enqueue r).pwr = s.pwr := by unfold State.enqueue; split <;> rfl
@[simp] theorem State.enqueue_rst (r : LogRec) : (s.enqueue r).rst = s.rst := by unfold State.enqueue; split <;> rfl
@[simp] theorem State.enqueue_carrier (r : LogRec) : (s.enqueue r).carrier = s.carrier := by unfold State.enqueue; split <;> rfl
@[simp] theorem State.enqueue_boot (r : LogRec) : (s.enqueue r).boot = s.boot := by unfold State.enqueue; split <;> rfl
@[simp] theorem State.enqueue_cores (r : LogRec) : (s.enqueue r).cores = s.cores := by unfold State.enqueue; split <;> rfl
@[simp] theorem State.enqueue_mem (r : LogRec) : (s.enqueue r).mem = s.mem := by unfold State.enqueue; split <;> rfl
@[simp] theorem State.enqueue_loop (r : LogRec) : (s.enqueue r).loop = s.loop := by unfold State.enqueue; split <;> rfl
@[simp] theorem State.enqueue_groups (r : LogRec) : (s.enqueue r).groups = s.groups := by unfold State.enqueue; split <;> rfl
@[simp] theorem State.enqueue_cap (r : LogRec) : (s.enqueue r).cap = s.cap := by unfold State.enqueue; split <;> rfl
@[simp] theorem State.enqueue_laneX (r : LogRec) : (s.enqueue r).laneX = s.laneX := by unfold State.enqueue; split <;> rfl
@[simp] theorem State.enqueue_laneY (r : LogRec) : (s.enqueue r).laneY = s.laneY := by unfold State.enqueue; split <;> rfl
@[simp] theorem State.enqueue_net (r : LogRec) : (s.enqueue r).net = s.net := by unfold State.enqueue; split <;> rfl
@[simp] theorem State.enqueue_time (r : LogRec) : (s.enqueue r).time = s.time := by unfold State.enqueue; split <;> rfl
@[simp] theorem State.enqueue_pair (r : LogRec) : (s.enqueue r).pair = s.pair := by unfold State.enqueue; split <;> rfl
@[simp] theorem State.enqueue_sec (r : LogRec) : (s.enqueue r).sec = s.sec := by unfold State.enqueue; split <;> rfl
@[simp] theorem State.enqueue_aon (r : LogRec) : (s.enqueue r).aon = s.aon := by unfold State.enqueue; split <;> rfl
@[simp] theorem State.enqueue_test (r : LogRec) : (s.enqueue r).test = s.test := by unfold State.enqueue; split <;> rfl
@[simp] theorem State.enqueue_proof (r : LogRec) : (s.enqueue r).proof = s.proof := by unfold State.enqueue; split <;> rfl
@[simp] theorem State.enqueue_disp (r : LogRec) : (s.enqueue r).disp = s.disp := by unfold State.enqueue; split <;> rfl
@[simp] theorem State.enqueue_bus (r : LogRec) : (s.enqueue r).bus = s.bus := by unfold State.enqueue; split <;> rfl
@[simp] theorem State.enqueue_free (r : LogRec) : (s.enqueue r).free = s.free := by unfold State.enqueue; split <;> rfl
@[simp] theorem State.enqueue_pending (r : LogRec) : (s.enqueue r).pending = s.pending := by unfold State.enqueue; split <;> rfl

/-! ## logSev -/

@[simp] theorem State.logSev_frozen (src chan cause sev : Nat) (data : W64) : (s.logSev src chan cause sev data).frozen = s.frozen := by unfold State.logSev; dsimp only; split <;> split <;> simp
@[simp] theorem State.logSev_pwr (src chan cause sev : Nat) (data : W64) : (s.logSev src chan cause sev data).pwr = s.pwr := by unfold State.logSev; dsimp only; split <;> split <;> simp
@[simp] theorem State.logSev_rst (src chan cause sev : Nat) (data : W64) : (s.logSev src chan cause sev data).rst = s.rst := by unfold State.logSev; dsimp only; split <;> split <;> simp
@[simp] theorem State.logSev_carrier (src chan cause sev : Nat) (data : W64) : (s.logSev src chan cause sev data).carrier = s.carrier := by unfold State.logSev; dsimp only; split <;> split <;> simp
@[simp] theorem State.logSev_boot (src chan cause sev : Nat) (data : W64) : (s.logSev src chan cause sev data).boot = s.boot := by unfold State.logSev; dsimp only; split <;> split <;> simp
@[simp] theorem State.logSev_cores (src chan cause sev : Nat) (data : W64) : (s.logSev src chan cause sev data).cores = s.cores := by unfold State.logSev; dsimp only; split <;> split <;> simp
@[simp] theorem State.logSev_mem (src chan cause sev : Nat) (data : W64) : (s.logSev src chan cause sev data).mem = s.mem := by unfold State.logSev; dsimp only; split <;> split <;> simp
@[simp] theorem State.logSev_loop (src chan cause sev : Nat) (data : W64) : (s.logSev src chan cause sev data).loop = s.loop := by unfold State.logSev; dsimp only; split <;> split <;> simp
@[simp] theorem State.logSev_groups (src chan cause sev : Nat) (data : W64) : (s.logSev src chan cause sev data).groups = s.groups := by unfold State.logSev; dsimp only; split <;> split <;> simp
@[simp] theorem State.logSev_cap (src chan cause sev : Nat) (data : W64) : (s.logSev src chan cause sev data).cap = s.cap := by unfold State.logSev; dsimp only; split <;> split <;> simp
@[simp] theorem State.logSev_laneX (src chan cause sev : Nat) (data : W64) : (s.logSev src chan cause sev data).laneX = s.laneX := by unfold State.logSev; dsimp only; split <;> split <;> simp
@[simp] theorem State.logSev_laneY (src chan cause sev : Nat) (data : W64) : (s.logSev src chan cause sev data).laneY = s.laneY := by unfold State.logSev; dsimp only; split <;> split <;> simp
@[simp] theorem State.logSev_net (src chan cause sev : Nat) (data : W64) : (s.logSev src chan cause sev data).net = s.net := by unfold State.logSev; dsimp only; split <;> split <;> simp
@[simp] theorem State.logSev_time (src chan cause sev : Nat) (data : W64) : (s.logSev src chan cause sev data).time = s.time := by unfold State.logSev; dsimp only; split <;> split <;> simp
@[simp] theorem State.logSev_pair (src chan cause sev : Nat) (data : W64) : (s.logSev src chan cause sev data).pair = s.pair := by unfold State.logSev; dsimp only; split <;> split <;> simp
@[simp] theorem State.logSev_sec (src chan cause sev : Nat) (data : W64) : (s.logSev src chan cause sev data).sec = s.sec := by unfold State.logSev; dsimp only; split <;> split <;> simp
@[simp] theorem State.logSev_aon (src chan cause sev : Nat) (data : W64) : (s.logSev src chan cause sev data).aon = s.aon := by unfold State.logSev; dsimp only; split <;> split <;> simp
@[simp] theorem State.logSev_test (src chan cause sev : Nat) (data : W64) : (s.logSev src chan cause sev data).test = s.test := by unfold State.logSev; dsimp only; split <;> split <;> simp
@[simp] theorem State.logSev_proof (src chan cause sev : Nat) (data : W64) : (s.logSev src chan cause sev data).proof = s.proof := by unfold State.logSev; dsimp only; split <;> split <;> simp
@[simp] theorem State.logSev_disp (src chan cause sev : Nat) (data : W64) : (s.logSev src chan cause sev data).disp = s.disp := by unfold State.logSev; dsimp only; split <;> split <;> simp
@[simp] theorem State.logSev_bus (src chan cause sev : Nat) (data : W64) : (s.logSev src chan cause sev data).bus = s.bus := by unfold State.logSev; dsimp only; split <;> split <;> simp
@[simp] theorem State.logSev_free (src chan cause sev : Nat) (data : W64) : (s.logSev src chan cause sev data).free = s.free := by unfold State.logSev; dsimp only; split <;> split <;> simp
@[simp] theorem State.logSev_pending (src chan cause sev : Nat) (data : W64) : (s.logSev src chan cause sev data).pending = s.pending := by unfold State.logSev; dsimp only; split <;> split <;> simp

/-! ## logEvt -/

@[simp] theorem State.logEvt_frozen (src chan cause : Nat) (data : W64) : (s.logEvt src chan cause data).frozen = s.frozen := by simp [State.logEvt]
@[simp] theorem State.logEvt_pwr (src chan cause : Nat) (data : W64) : (s.logEvt src chan cause data).pwr = s.pwr := by simp [State.logEvt]
@[simp] theorem State.logEvt_rst (src chan cause : Nat) (data : W64) : (s.logEvt src chan cause data).rst = s.rst := by simp [State.logEvt]
@[simp] theorem State.logEvt_carrier (src chan cause : Nat) (data : W64) : (s.logEvt src chan cause data).carrier = s.carrier := by simp [State.logEvt]
@[simp] theorem State.logEvt_boot (src chan cause : Nat) (data : W64) : (s.logEvt src chan cause data).boot = s.boot := by simp [State.logEvt]
@[simp] theorem State.logEvt_cores (src chan cause : Nat) (data : W64) : (s.logEvt src chan cause data).cores = s.cores := by simp [State.logEvt]
@[simp] theorem State.logEvt_mem (src chan cause : Nat) (data : W64) : (s.logEvt src chan cause data).mem = s.mem := by simp [State.logEvt]
@[simp] theorem State.logEvt_loop (src chan cause : Nat) (data : W64) : (s.logEvt src chan cause data).loop = s.loop := by simp [State.logEvt]
@[simp] theorem State.logEvt_groups (src chan cause : Nat) (data : W64) : (s.logEvt src chan cause data).groups = s.groups := by simp [State.logEvt]
@[simp] theorem State.logEvt_cap (src chan cause : Nat) (data : W64) : (s.logEvt src chan cause data).cap = s.cap := by simp [State.logEvt]
@[simp] theorem State.logEvt_laneX (src chan cause : Nat) (data : W64) : (s.logEvt src chan cause data).laneX = s.laneX := by simp [State.logEvt]
@[simp] theorem State.logEvt_laneY (src chan cause : Nat) (data : W64) : (s.logEvt src chan cause data).laneY = s.laneY := by simp [State.logEvt]
@[simp] theorem State.logEvt_net (src chan cause : Nat) (data : W64) : (s.logEvt src chan cause data).net = s.net := by simp [State.logEvt]
@[simp] theorem State.logEvt_time (src chan cause : Nat) (data : W64) : (s.logEvt src chan cause data).time = s.time := by simp [State.logEvt]
@[simp] theorem State.logEvt_pair (src chan cause : Nat) (data : W64) : (s.logEvt src chan cause data).pair = s.pair := by simp [State.logEvt]
@[simp] theorem State.logEvt_sec (src chan cause : Nat) (data : W64) : (s.logEvt src chan cause data).sec = s.sec := by simp [State.logEvt]
@[simp] theorem State.logEvt_aon (src chan cause : Nat) (data : W64) : (s.logEvt src chan cause data).aon = s.aon := by simp [State.logEvt]
@[simp] theorem State.logEvt_test (src chan cause : Nat) (data : W64) : (s.logEvt src chan cause data).test = s.test := by simp [State.logEvt]
@[simp] theorem State.logEvt_proof (src chan cause : Nat) (data : W64) : (s.logEvt src chan cause data).proof = s.proof := by simp [State.logEvt]
@[simp] theorem State.logEvt_disp (src chan cause : Nat) (data : W64) : (s.logEvt src chan cause data).disp = s.disp := by simp [State.logEvt]
@[simp] theorem State.logEvt_bus (src chan cause : Nat) (data : W64) : (s.logEvt src chan cause data).bus = s.bus := by simp [State.logEvt]
@[simp] theorem State.logEvt_free (src chan cause : Nat) (data : W64) : (s.logEvt src chan cause data).free = s.free := by simp [State.logEvt]
@[simp] theorem State.logEvt_pending (src chan cause : Nat) (data : W64) : (s.logEvt src chan cause data).pending = s.pending := by simp [State.logEvt]

end Sys2Proof.Machine
end

