-- ==== Sys2Proof/Laws/Registers.lean ====
section
/-! SUPPORT. Reads of registers, fields and bits after a write; registers of cores, cores and field groups. -/

namespace Sys2Proof.Machine

variable (s : State)

/-! ## Whole registers -/

theorem State.reg_setReg (k j : Nat) (v : W32) : (s.setReg k v).reg j = if j = k then v else s.reg j := sget_sset _ _ _ _

@[simp] theorem State.reg_setReg_same (k : Nat) (v : W32) : (s.setReg k v).reg k = v := by simp [State.reg_setReg]

theorem State.reg_setReg_ne {k j : Nat} (v : W32) (h : j ≠ k) : (s.setReg k v).reg j = s.reg j := by simp [State.reg_setReg, h]

theorem State.reg_setFld (k lo w n j : Nat) :
    (s.setFld k lo w n).reg j = if j = k then withField (s.reg k) lo w n else s.reg j := State.reg_setReg ..

theorem State.reg_setFld_ne {k j : Nat} (lo w n : Nat) (h : j ≠ k) : (s.setFld k lo w n).reg j = s.reg j := State.reg_setReg_ne _ _ h

theorem State.reg_setFlag_ne {k j : Nat} (b : Nat) (on : Bool) (h : j ≠ k) : (s.setFlag k b on).reg j = s.reg j := State.reg_setReg_ne _ _ h

theorem State.reg_orReg (k j : Nat) (m : W32) : (s.orReg k m).reg j = if j = k then s.reg k ||| m else s.reg j := State.reg_setReg ..

theorem State.reg_countSat_ne {k j : Nat} (lo w n : Nat) (h : j ≠ k) : (s.countSat k lo w n).reg j = s.reg j := State.reg_setReg_ne _ _ h

theorem State.reg_countMod_ne {k j : Nat} (lo w n : Nat) (h : j ≠ k) : (s.countMod k lo w n).reg j = s.reg j := State.reg_setReg_ne _ _ h

/-- Writing a register with what it holds changes no register. -/
theorem State.reg_setReg_self (k j : Nat) : (s.setReg k (s.reg k)).reg j = s.reg j := by
  rw [State.reg_setReg]; split
  · rename_i h; rw [h]
  · rfl

/-! ## Fields and bits -/

theorem getLsbD_fieldMask (lo w i : Nat) : (fieldMask lo w).getLsbD i = (decide (i < 32) && decide (lo ≤ i) && decide (i < lo + w)) := by
  simp only [fieldMask, BitVec.getLsbD_ofNat, Nat.testBit_mul_two_pow, Nat.testBit_two_pow_sub_one]
  by_cases h : lo ≤ i
  · simp only [h, decide_true, Bool.true_and, Bool.and_true]
    congr 1
    exact decide_eq_decide.2 (by omega)
  · simp [h]

theorem getLsbD_withField (v : W32) (lo w n i : Nat) :
    (withField v lo w n).getLsbD i =
      if lo ≤ i ∧ i < lo + w ∧ i < 32 then n.testBit (i - lo) else v.getLsbD i := by
  simp only [withField, BitVec.getLsbD_or, BitVec.getLsbD_and, BitVec.getLsbD_not, getLsbD_fieldMask, BitVec.getLsbD_shiftLeft,
    BitVec.getLsbD_ofNat, Nat.testBit_mod_two_pow]
  by_cases h32 : i < 32
  · by_cases hlo : lo ≤ i
    · by_cases hw : i < lo + w
      · have h1 : i - lo < 32 := by omega
        have h2 : i - lo < w := by omega
        simp [h32, hlo, hw, h1, h2]
      · have h2 : ¬ i - lo < w := by omega
        simp [h32, hlo, hw, h2]
    · have h2 : i < lo := by omega
      simp [h32, hlo, h2]
  · have : v.getLsbD i = false := BitVec.getLsbD_of_ge _ _ (by omega)
    simp [h32, this]

theorem testBit_fieldOf (v : W32) (lo w i : Nat) : (fieldOf v lo w).testBit i = (decide (i < w) && v.getLsbD (lo + i)) := by
  rw [fieldOf, Nat.testBit_mod_two_pow, BitVec.testBit_toNat, BitVec.getLsbD_ushiftRight]

/-- A field reads as what was written to it. -/
theorem fieldOf_withField (v : W32) (lo w n : Nat) (h : lo + w ≤ 32) : fieldOf (withField v lo w n) lo w = n % 2 ^ w := by
  apply Nat.eq_of_testBit_eq
  intro i
  rw [testBit_fieldOf, getLsbD_withField, Nat.testBit_mod_two_pow]
  by_cases hi : i < w
  · have : lo ≤ lo + i ∧ lo + i < lo + w ∧ lo + i < 32 := by omega
    simp [hi, this]
  · simp [hi]

/-- A field keeps its value when another one, with no bit in common, is written. -/
theorem fieldOf_withField_disjoint (v : W32) (lo w n a b : Nat) (h : a + b ≤ lo ∨ lo + w ≤ a) :
    fieldOf (withField v lo w n) a b = fieldOf v a b := by
  apply Nat.eq_of_testBit_eq
  intro i
  rw [testBit_fieldOf, testBit_fieldOf, getLsbD_withField]
  by_cases hi : i < b
  · have : ¬ (lo ≤ a + i ∧ a + i < lo + w ∧ a + i < 32) := by omega
    simp [hi, this]
  · simp [hi]

theorem fieldOf_lt (v : W32) (lo w : Nat) : fieldOf v lo w < 2 ^ w := Nat.mod_lt _ (Nat.two_pow_pos w)

/-- A field reads as what was written to it (of a state). -/
theorem State.fld_setFld (k lo w n : Nat) (h : lo + w ≤ 32) : (s.setFld k lo w n).fld k lo w = n % 2 ^ w := by
  simp [State.fld, State.setFld, fieldOf_withField _ _ _ _ h]

theorem State.fld_setFld_disjoint (k lo w n a b : Nat) (h : a + b ≤ lo ∨ lo + w ≤ a) :
    (s.setFld k lo w n).fld k a b = s.fld k a b := by
  simp [State.fld, State.setFld, fieldOf_withField_disjoint _ _ _ _ _ _ h]

theorem State.fld_setFld_ne {k j : Nat} (lo w n a b : Nat) (h : j ≠ k) : (s.setFld k lo w n).fld j a b = s.fld j a b := by
  simp [State.fld, State.reg_setFld_ne s lo w n h]

theorem State.flag_setFlag (k b : Nat) (on : Bool) (h : b < 32) : (s.setFlag k b on).flag k b = on := by
  have : b ≤ b ∧ b < b + 1 ∧ b < 32 := by omega
  unfold State.flag State.setFlag State.setFld
  rw [State.reg_setReg_same, getLsbD_withField, if_pos this]
  cases on <;> simp

theorem State.flag_setFlag_other (k b c : Nat) (on : Bool) (h : c ≠ b) : (s.setFlag k b on).flag k c = s.flag k c := by
  have : ¬ (b ≤ c ∧ c < b + 1 ∧ c < 32) := by omega
  unfold State.flag State.setFlag State.setFld
  rw [State.reg_setReg_same, getLsbD_withField, if_neg this]

theorem State.flag_setFlag_ne {k j : Nat} (b c : Nat) (on : Bool) (h : j ≠ k) : (s.setFlag k b on).flag j c = s.flag j c := by
  simp [State.flag, State.reg_setFlag_ne s b on h]

/-! ## Interrupts and faults touch only their own registers (R149, R150) -/

theorem State.reg_pendIrq_ne {p j : Nat} (raw : W32) (h : j ≠ rk p Reg.IRQ_PEND) : (s.pendIrq p raw).reg j = s.reg j :=
  State.reg_setReg_ne _ _ h

theorem State.reg_irqUpdate_ne {p j : Nat} (h : j ≠ rk p Reg.IRQ_PEND) : (s.irqUpdate p).reg j = s.reg j := s.reg_pendIrq_ne _ h

theorem State.reg_recordFault_ne {p j : Nat} (cause : Nat) (h1 : j ≠ rk p Reg.FAULT_CAUSE) (h2 : j ≠ rk p Reg.STAT) :
    (s.recordFault p cause).reg j = s.reg j := by
  unfold State.recordFault
  dsimp only
  rw [State.reg_setFlag_ne _ _ _ h2]
  split
  · rw [State.reg_setFld_ne _ _ _ _ h1, State.reg_countSat_ne _ _ _ _ h1]
  · rw [State.reg_countSat_ne _ _ _ _ h1]

/-! ## Cores and field groups -/

theorem State.core_setCore (c d : Nat) (x : Core) : (s.setCore c x).core d = if d = c then x else s.core d := sget_sset _ _ _ _

@[simp] theorem State.core_setCore_same (c : Nat) (x : Core) : (s.setCore c x).core c = x := by simp [State.core_setCore]

theorem State.grp_setGrp (k j : Nat) (g : GroupState) : (s.setGrp k g).grp j = if j = k then g else s.grp j := sget_sset _ _ _ _

@[simp] theorem State.grp_setGrp_same (k : Nat) (g : GroupState) : (s.setGrp k g).grp k = g := by simp [State.grp_setGrp]

@[simp] theorem State.core_setReg (k : Nat) (v : W32) (c : Nat) : (s.setReg k v).core c = s.core c := rfl
@[simp] theorem State.core_setFld (k lo w n c : Nat) : (s.setFld k lo w n).core c = s.core c := rfl
@[simp] theorem State.core_setFlag (k b : Nat) (on : Bool) (c : Nat) : (s.setFlag k b on).core c = s.core c := rfl
@[simp] theorem State.grp_setReg (k : Nat) (v : W32) (g : Nat) : (s.setReg k v).grp g = s.grp g := rfl
@[simp] theorem State.grp_setFld (k lo w n g : Nat) : (s.setFld k lo w n).grp g = s.grp g := rfl
@[simp] theorem State.grp_setFlag (k b : Nat) (on : Bool) (g : Nat) : (s.setFlag k b on).grp g = s.grp g := rfl
@[simp] theorem State.reg_setCore (c : Nat) (x : Core) (k : Nat) : (s.setCore c x).reg k = s.reg k := rfl
@[simp] theorem State.reg_setGrp (k : Nat) (g : GroupState) (j : Nat) : (s.setGrp k g).reg j = s.reg j := rfl
@[simp] theorem State.core_setGrp (k : Nat) (g : GroupState) (c : Nat) : (s.setGrp k g).core c = s.core c := rfl
@[simp] theorem State.grp_setCore (c : Nat) (x : Core) (k : Nat) : (s.setCore c x).grp k = s.grp k := rfl

@[simp] theorem State.tpmAt_logEvt (src chan cause : Nat) (data : W64) (a : Nat) :
    (s.logEvt src chan cause data).tpmAt a = s.tpmAt a := by simp [State.tpmAt]

/-! ## Events (R158, R162): a queue with room takes the record; of the registers only those of a fault change -/

theorem State.enqueue_of_lt (r : LogRec) (h : s.log.queue.length < 64) :
    s.enqueue r = { s with log := { s.log with queue := s.log.queue ++ [r] } } := by simp [State.enqueue, h]

/-- What an event does to a register that is none of its source's fault registers and none of the logger's counters. -/
theorem State.reg_logEvt_ne {src j : Nat} (chan cause : Nat) (data : W64) (h1 : j ≠ rk src Reg.FAULT_CAUSE) (h2 : j ≠ rk src Reg.STAT)
    (h3 : j ≠ Reg.SYS_EVLOG_STAT) (h4 : j ≠ rk 0 Reg.IRQ_PEND) : (s.logEvt src chan cause data).reg j = s.reg j := by
  have hq : ∀ (t : State) (r : LogRec), (t.enqueue r).reg j = t.reg j := by
    intro t r
    unfold State.enqueue
    split
    · rfl
    · rw [State.reg_irqUpdate_ne _ h4, State.reg_countSat_ne _ _ _ _ h3]; rfl
  unfold State.logEvt State.logSev
  dsimp only
  split <;> split <;> simp only [hq, State.reg_recordFault_ne _ _ h1 h2]

end Sys2Proof.Machine
end

