-- ==== Sys2Proof/Laws/Memory.lean ====
section
/-! SUPPORT. Memories: a byte or word reads as what was written last, and every write keeps the canonical form. -/

namespace Sys2Proof.Machine

variable (s : State)

/-! ## Runs of bytes in a map -/

/-- The map after `n` writes from key `a` on. -/
def sfill {α : Type} [DecidableEq α] (d : Nat → α) (a : Nat) (f : Nat → α) (m : Sparse α) (n : Nat) : Sparse α :=
  (List.range n).foldl (fun m i => sset d m (a + i) (f i)) m

theorem sfill_succ {α : Type} [DecidableEq α] (d : Nat → α) (a : Nat) (f : Nat → α) (m : Sparse α) (n : Nat) :
    sfill d a f m (n + 1) = sset d (sfill d a f m n) (a + n) (f n) := by simp [sfill, List.range_succ]

theorem sget_sfill {α : Type} [DecidableEq α] (d : Nat → α) (a : Nat) (f : Nat → α) (m : Sparse α) (n j : Nat) :
    sget d (sfill d a f m n) j = if a ≤ j ∧ j < a + n then f (j - a) else sget d m j := by
  induction n with
  | zero => simp [sfill] <;> omega
  | succ n ih =>
    rw [sfill_succ, sget_sset, ih]
    by_cases h : j = a + n
    · subst h; simp
    · have : (a ≤ j ∧ j < a + (n + 1)) ↔ (a ≤ j ∧ j < a + n) := by omega
      simp [h, this]

theorem swf_sfill {α : Type} [DecidableEq α] (d : Nat → α) (a : Nat) (f : Nat → α) (m : Sparse α) (n : Nat) (h : swf d m = true) :
    swf d (sfill d a f m n) = true := by
  induction n with
  | zero => exact h
  | succ n ih => rw [sfill_succ]; exact swf_sset ih

/-! ## TPM (R165, R175) -/

/-- A TPM word reads as what was written last (R175). -/
theorem State.tpmAt_setTpm (w a : Nat) (v : TWord) : (s.setTpm w v).tpmAt a = if a = w then v else s.tpmAt a := by
  have h : ((s.setTpm w v).mem.tpm, (s.setTpm w v).mem.tpmFill, (s.setTpm w v).mem.tpmLost) =
      (sset (dflt s.mem.tpmFill) s.mem.tpm w (some v), s.mem.tpmFill, s.mem.tpmLost) := by
    unfold State.setTpm; dsimp only; split <;> rfl
  obtain ⟨h1, h2, h3⟩ : _ ∧ _ ∧ _ := by simpa only [Prod.mk.injEq] using h
  simp only [State.tpmAt, h1, h2, h3, sget_sset]
  by_cases ha : a = w <;> simp [ha]

@[simp] theorem State.tpmAt_setReg (k : Nat) (v : W32) (a : Nat) : (s.setReg k v).tpmAt a = s.tpmAt a := rfl
@[simp] theorem State.tpmAt_setFld (k lo w n a : Nat) : (s.setFld k lo w n).tpmAt a = s.tpmAt a := rfl
@[simp] theorem State.tpmAt_setFlag (k b : Nat) (on : Bool) (a : Nat) : (s.setFlag k b on).tpmAt a = s.tpmAt a := rfl
@[simp] theorem State.tpmAt_setCore (c : Nat) (x : Core) (a : Nat) : (s.setCore c x).tpmAt a = s.tpmAt a := rfl
@[simp] theorem State.tpmAt_setGreg (c r : Nat) (v : TWord) (a : Nat) : (s.setGreg c r v).tpmAt a = s.tpmAt a := by simp [State.tpmAt]

/-! ## Program memory -/

@[simp] theorem State.pmByte_setReg (k : Nat) (v : W32) (a : Nat) : (s.setReg k v).pmByte a = s.pmByte a := rfl
@[simp] theorem State.pmByte_setCore (c : Nat) (x : Core) (a : Nat) : (s.setCore c x).pmByte a = s.pmByte a := rfl

/-- A byte of program memory reads as what was written last. -/
theorem State.pmByte_setPmByte (a j : Nat) (b : Byte) : (s.setPmByte a b).pmByte j = if j = a then b else s.pmByte j := by
  simp only [State.pmByte, State.setPmByte, sget_sset]
  by_cases h : j = a <;> simp [h]

theorem State.pmByte_fillBytes (a n v j : Nat) :
    ((List.range n).foldl (fun s i => s.setPmByte (a + i) (natByte v i)) s).pmByte j =
      if a ≤ j ∧ j < a + n then natByte v (j - a) else s.pmByte j := by
  induction n with
  | zero => simp <;> omega
  | succ n ih =>
    rw [List.range_succ, List.foldl_append, List.foldl_cons, List.foldl_nil, State.pmByte_setPmByte, ih]
    by_cases h : j = a + n
    · subst h; simp
    · have : (a ≤ j ∧ j < a + (n + 1)) ↔ (a ≤ j ∧ j < a + n) := by omega
      simp [h, this]

/-- A store of `n` bytes writes exactly those, in rising order (R140). -/
theorem State.pmByte_setPm (a n v j : Nat) :
    (s.setPm a n v).pmByte j = if a ≤ j ∧ j < a + n then natByte v (j - a) else s.pmByte j := by
  have h : ∀ (t : State) (l : List Nat), ({ t with mem := { t.mem with dirty := l } } : State).pmByte j = t.pmByte j := fun _ _ => rfl
  unfold State.setPm
  simp only [h, List.foldl_cons, List.foldl_nil, State.pmByte_setCore, State.pmByte_fillBytes]

/-! ## MRAM, NOR, capture memory and CAN message memory -/

theorem State.mem_setMram (a n v : Nat) :
    (s.setMram a n v).mem = { s.mem with mram := sfill mramDflt a (natByte v) s.mem.mram n } := by
  unfold State.setMram
  induction n with
  | zero => rfl
  | succ n ih => rw [List.range_succ, List.foldl_append, List.foldl_cons, List.foldl_nil]; simp only [ih, sfill_succ]

/-- A store of `n` bytes of MRAM writes exactly those. -/
theorem State.mramByte_setMram (a n v j : Nat) :
    (s.setMram a n v).mramByte j = if a ≤ j ∧ j < a + n then natByte v (j - a) else s.mramByte j := by
  simp only [State.mramByte, State.mem_setMram, sget_sfill]

theorem State.mem_setNor (a n v : Nat) :
    (s.setNor a n v).mem = { s.mem with nor := sfill norDflt a (natByte v) s.mem.nor n } := by
  unfold State.setNor
  induction n with
  | zero => rfl
  | succ n ih => rw [List.range_succ, List.foldl_append, List.foldl_cons, List.foldl_nil]; simp only [ih, sfill_succ]

/-- A store of `n` bytes of NOR writes exactly those. -/
theorem State.norByte_setNor (a n v j : Nat) :
    (s.setNor a n v).norByte j = if a ≤ j ∧ j < a + n then natByte v (j - a) else s.norByte j := by
  simp only [State.norByte, State.mem_setNor, sget_sfill]

theorem State.mem_setCap (a n v : Nat) :
    (s.setCap a n v).mem = { s.mem with cap := sfill (dflt none) a (fun i => some (natByte v i)) s.mem.cap n } := by
  unfold State.setCap
  induction n with
  | zero => rfl
  | succ n ih => rw [List.range_succ, List.foldl_append, List.foldl_cons, List.foldl_nil]; simp only [ih, sfill_succ]

theorem State.mem_setCan (a n v : Nat) :
    (s.setCan a n v).mem = { s.mem with can := sfill (dflt 0) a (natByte v) s.mem.can n } := by
  unfold State.setCan
  induction n with
  | zero => rfl
  | succ n ih => rw [List.range_succ, List.foldl_append, List.foldl_cons, List.foldl_nil]; simp only [ih, sfill_succ]

/-- A store of `n` bytes of CAN message memory writes exactly those. -/
theorem State.canByte_setCan (a n v j : Nat) :
    (s.setCan a n v).canByte j = if a ≤ j ∧ j < a + n then natByte v (j - a) else s.canByte j := by
  simp only [State.canByte, State.mem_setCan, sget_sfill]

/-! ## The canonical form -/

theorem MemState.canon_iff (m : MemState) : m.canon = true ↔
    swf (dflt m.tpmFill) m.tpm = true ∧ swf (dflt none) m.pm = true ∧ swf mramDflt m.mram = true ∧ swf norDflt m.nor = true ∧
      swf (dflt none) m.cap = true ∧ swf (dflt 0) m.can = true := by
  simp only [MemState.canon, Bool.and_eq_true, and_assoc]

theorem State.canon_setTpm (w : Nat) (v : TWord) (h : s.mem.canon = true) : (s.setTpm w v).mem.canon = true := by
  rw [MemState.canon_iff] at h
  have hm : (s.setTpm w v).mem = { s.mem with
      tpm := sset (dflt s.mem.tpmFill) s.mem.tpm w (some v), tpmErr := sset (dflt 0) s.mem.tpmErr w 0 } := by
    unfold State.setTpm; dsimp only; split <;> rfl
  rw [hm, MemState.canon_iff]
  exact ⟨swf_sset h.1, h.2⟩

theorem State.canon_setPmByte (a : Nat) (b : Byte) (h : s.mem.canon = true) : (s.setPmByte a b).mem.canon = true := by
  rw [MemState.canon_iff] at h ⊢
  unfold State.setPmByte
  dsimp only
  exact ⟨h.1, swf_sset h.2.1, h.2.2⟩

theorem State.canon_setPm (a n v : Nat) (h : s.mem.canon = true) : (s.setPm a n v).mem.canon = true := by
  unfold State.setPm
  simp only [List.foldl_cons, List.foldl_nil, State.setCore_mem]
  induction n with
  | zero => exact h
  | succ n ih =>
    rw [List.range_succ, List.foldl_append, List.foldl_cons, List.foldl_nil]
    exact State.canon_setPmByte _ _ _ ih

theorem State.canon_setMram (a n v : Nat) (h : s.mem.canon = true) : (s.setMram a n v).mem.canon = true := by
  rw [MemState.canon_iff] at h
  rw [State.mem_setMram, MemState.canon_iff]
  exact ⟨h.1, h.2.1, swf_sfill _ _ _ _ _ h.2.2.1, h.2.2.2⟩

theorem State.canon_setNor (a n v : Nat) (h : s.mem.canon = true) : (s.setNor a n v).mem.canon = true := by
  rw [MemState.canon_iff] at h
  rw [State.mem_setNor, MemState.canon_iff]
  exact ⟨h.1, h.2.1, h.2.2.1, swf_sfill _ _ _ _ _ h.2.2.2.1, h.2.2.2.2⟩

theorem State.canon_setCap (a n v : Nat) (h : s.mem.canon = true) : (s.setCap a n v).mem.canon = true := by
  rw [MemState.canon_iff] at h
  rw [State.mem_setCap, MemState.canon_iff]
  exact ⟨h.1, h.2.1, h.2.2.1, h.2.2.2.1, swf_sfill _ _ _ _ _ h.2.2.2.2.1, h.2.2.2.2.2⟩

theorem State.canon_setCan (a n v : Nat) (h : s.mem.canon = true) : (s.setCan a n v).mem.canon = true := by
  rw [MemState.canon_iff] at h
  rw [State.mem_setCan, MemState.canon_iff]
  exact ⟨h.1, h.2.1, h.2.2.1, h.2.2.2.1, h.2.2.2.2.1, swf_sfill _ _ _ _ _ h.2.2.2.2.2⟩

theorem State.canon_zeroMram (a n : Nat) (h : s.mem.canon = true) : (s.zeroMram a n).mem.canon = true := by
  rw [MemState.canon_iff] at h ⊢
  exact ⟨h.1, h.2.1, swf_filter _ h.2.2.1, h.2.2.2⟩

theorem State.canon_eraseSector (sec : Nat) (h : s.mem.canon = true) : (s.eraseSector sec).mem.canon = true := by
  rw [MemState.canon_iff] at h ⊢
  exact ⟨h.1, h.2.1, h.2.2.1, swf_filter _ h.2.2.2.1, h.2.2.2.2⟩

theorem keysRise_append {α : Type} (x y : Sparse α) (h : ∀ e ∈ x, ∀ f ∈ y, e.1 < f.1) (hx : keysRise x = true) (hy : keysRise y = true) :
    keysRise (x ++ y) = true := by
  induction x with
  | nil => exact hy
  | cons e x ih =>
    obtain ⟨h1, h2⟩ := (keysRise_cons e x).1 hx
    refine (keysRise_cons _ _).2 ⟨fun f hf => ?_, ih (fun g hg => h g (List.mem_cons_of_mem _ hg)) h2⟩
    rcases List.mem_append.1 hf with hf | hf
    · exact h1 f hf
    · exact h e (List.mem_cons_self ..) f hf

theorem keysRise_map_range {α : Type} (a n : Nat) (f : Nat → α) : keysRise ((List.range n).map fun i => (a + i, f i)) = true := by
  induction n with
  | zero => rfl
  | succ n ih =>
    rw [List.range_succ, List.map_append]
    refine keysRise_append _ _ (fun e he g hg => ?_) ih rfl
    obtain ⟨i, hi, rfl⟩ := List.mem_map.1 he
    obtain rfl : g = (a + n, f n) := by simpa using hg
    have := List.mem_range.1 hi
    simp only; omega

theorem State.canon_fillPm (a n : Nat) (f : Nat → Byte) (h : s.mem.canon = true) : (s.fillPm a n f).mem.canon = true := by
  rw [MemState.canon_iff] at h ⊢
  refine ⟨h.1, ?_, h.2.2⟩
  obtain ⟨hr, hd⟩ := swf_iff.1 h.2.1
  refine swf_iff.2 ⟨?_, ?_⟩
  · refine keysRise_append _ _ (fun e he g hg => ?_) (keysRise_append _ _ (fun e he g hg => ?_) (keysRise_filter _ hr)
      (keysRise_map_range ..)) (keysRise_filter _ hr)
    · have hg2 := of_decide_eq_true (List.mem_filter.1 hg).2
      rcases List.mem_append.1 he with he | he
      · have := of_decide_eq_true (List.mem_filter.1 he).2; omega
      · obtain ⟨i, hi, rfl⟩ := List.mem_map.1 he
        have := List.mem_range.1 hi; simp only; omega
    · have := of_decide_eq_true (List.mem_filter.1 he).2
      obtain ⟨i, hi, rfl⟩ := List.mem_map.1 hg
      simp only; omega
  · intro e he
    rcases List.mem_append.1 he with he | he
    · rcases List.mem_append.1 he with he | he
      · exact hd e (List.mem_filter.1 he).1
      · obtain ⟨i, -, rfl⟩ := List.mem_map.1 he
        simp [dflt]
    · exact hd e (List.mem_filter.1 he).1

end Sys2Proof.Machine
end

