-- ==== Sys2Proof/Laws/Sound.lean ====
section
/-! SUPPORT. The shared updates keep a sound state sound: canonical registers and memories, and at most 64 records in the logger's
queue. -/

namespace Sys2Proof.Machine

variable {s t : State}

theorem State.sound_iff : s.sound = true ↔ swf regDefault s.regs = true ∧ s.mem.canon = true ∧ s.log.queue.length ≤ 64 := by
  simp only [State.sound, Bool.and_eq_true, decide_eq_true_eq, and_assoc]

/-- Soundness reads the registers, the memories and the logger's queue, and nothing else. -/
theorem State.sound_of_eq (hs : s.sound = true) (hr : t.regs = s.regs) (hm : t.mem = s.mem) (hl : t.log.queue = s.log.queue) :
    t.sound = true := by
  rw [State.sound_iff] at hs ⊢
  rw [hr, hm, hl]; exact hs

theorem State.sound_setReg (k : Nat) (v : W32) (h : s.sound = true) : (s.setReg k v).sound = true := by
  rw [State.sound_iff] at h ⊢
  exact ⟨swf_sset h.1, h.2⟩

theorem State.sound_setFld (k lo w n : Nat) (h : s.sound = true) : (s.setFld k lo w n).sound = true := State.sound_setReg _ _ h

theorem State.sound_setFlag (k b : Nat) (on : Bool) (h : s.sound = true) : (s.setFlag k b on).sound = true := State.sound_setReg _ _ h

theorem State.sound_orReg (k : Nat) (m : W32) (h : s.sound = true) : (s.orReg k m).sound = true := State.sound_setReg _ _ h

theorem State.sound_andNotReg (k : Nat) (m : W32) (h : s.sound = true) : (s.andNotReg k m).sound = true := State.sound_setReg _ _ h

theorem State.sound_countSat (k lo w n : Nat) (h : s.sound = true) : (s.countSat k lo w n).sound = true := State.sound_setReg _ _ h

theorem State.sound_countMod (k lo w n : Nat) (h : s.sound = true) : (s.countMod k lo w n).sound = true := State.sound_setReg _ _ h

theorem State.sound_setReg64 (lo : Nat) (v : W64) (h : s.sound = true) : (s.setReg64 lo v).sound = true :=
  State.sound_setReg _ _ (State.sound_setReg _ _ h)

theorem State.sound_setMapBit (base n : Nat) (on : Bool) (h : s.sound = true) : (s.setMapBit base n on).sound = true :=
  State.sound_setReg _ _ h

theorem State.sound_setDomState (d v : Nat) (h : s.sound = true) : (s.setDomState d v).sound = true := State.sound_setReg _ _ h

theorem State.sound_pendIrq (p : Nat) (raw : W32) (h : s.sound = true) : (s.pendIrq p raw).sound = true := State.sound_setReg _ _ h

theorem State.sound_irqUpdate (p : Nat) (h : s.sound = true) : (s.irqUpdate p).sound = true := State.sound_setReg _ _ h

theorem State.sound_pulseIrq (p n : Nat) (h : s.sound = true) : (s.pulseIrq p n).sound = true := State.sound_setReg _ _ h

theorem State.sound_setEvt (k b : Nat) (h : s.sound = true) : (s.setEvt k b).sound = true :=
  State.sound_irqUpdate _ (State.sound_setFlag _ _ _ h)

theorem State.sound_recordFault (p cause : Nat) (h : s.sound = true) : (s.recordFault p cause).sound = true := by
  unfold State.recordFault
  dsimp only
  apply State.sound_setFlag
  split
  · exact State.sound_setFld _ _ _ _ (State.sound_countSat _ _ _ _ h)
  · exact State.sound_countSat _ _ _ _ h

theorem State.sound_enqueue (r : LogRec) (h : s.sound = true) : (s.enqueue r).sound = true := by
  unfold State.enqueue
  split
  · rename_i hq
    rw [State.sound_iff] at h ⊢
    refine ⟨h.1, h.2.1, ?_⟩
    rw [List.length_append]; simp only [List.length_cons, List.length_nil]; omega
  · refine State.sound_irqUpdate _ (State.sound_countSat _ _ _ _ (State.sound_of_eq h rfl rfl rfl))

theorem State.sound_enqueueLost (h : s.sound = true) : s.enqueueLost.sound = true := by
  unfold State.enqueueLost
  split
  · exact h
  · rename_i hq
    rw [State.sound_iff] at h ⊢
    refine ⟨h.1, h.2.1, ?_⟩
    dsimp only
    rw [List.length_append]; simp only [List.length_cons, List.length_nil]; omega

theorem State.sound_logSev (src chan cause sev : Nat) (data : W64) (h : s.sound = true) : (s.logSev src chan cause sev data).sound = true := by
  unfold State.logSev
  dsimp only
  split <;> split
  · exact State.sound_recordFault _ _ h
  · exact State.sound_enqueue _ (State.sound_recordFault _ _ h)
  · exact h
  · exact State.sound_enqueue _ h

theorem State.sound_logEvt (src chan cause : Nat) (data : W64) (h : s.sound = true) : (s.logEvt src chan cause data).sound = true :=
  State.sound_logSev _ _ _ _ _ h

theorem State.sound_setCore (c : Nat) (x : Core) (h : s.sound = true) : (s.setCore c x).sound = true := State.sound_of_eq h rfl rfl rfl

theorem State.sound_setGreg (c r : Nat) (v : TWord) (h : s.sound = true) : (s.setGreg c r v).sound = true :=
  State.sound_of_eq h (by simp) (by simp) (by simp)

theorem State.sound_setGrp (k : Nat) (g : GroupState) (h : s.sound = true) : (s.setGrp k g).sound = true := State.sound_of_eq h rfl rfl rfl

theorem State.sound_setLw (k w : Nat) (v : TWord) (h : s.sound = true) : (s.setLw k w v).sound = true := State.sound_of_eq h rfl rfl rfl

theorem State.sound_drawn (h : s.sound = true) : s.drawn.sound = true := State.sound_of_eq h rfl rfl rfl

theorem State.sound_respond (r : Resp) (h : s.sound = true) : (s.respond r).sound = true := State.sound_of_eq h rfl rfl rfl

theorem State.sound_setTpm (w : Nat) (v : TWord) (h : s.sound = true) : (s.setTpm w v).sound = true := by
  rw [State.sound_iff] at h ⊢
  simp only [State.setTpm_regs, State.setTpm_log]
  exact ⟨h.1, State.canon_setTpm _ _ _ h.2.1, h.2.2⟩

/-- A store that changes only memory keeps soundness where it keeps the canonical form. -/
theorem State.sound_of_mem (hs : s.sound = true) (hr : t.regs = s.regs) (hl : t.log = s.log) (hm : t.mem.canon = true) : t.sound = true := by
  rw [State.sound_iff] at hs ⊢
  rw [hr, hl]; exact ⟨hs.1, hm, hs.2.2⟩

theorem State.pmFold_frame (s : State) (a n v : Nat) :
    ((List.range n).foldl (fun s i => s.setPmByte (a + i) (natByte v i)) s).regs = s.regs ∧
    ((List.range n).foldl (fun s i => s.setPmByte (a + i) (natByte v i)) s).log = s.log := by
  induction n with
  | zero => exact ⟨rfl, rfl⟩
  | succ n ih =>
    rw [List.range_succ, List.foldl_append, List.foldl_cons, List.foldl_nil]
    exact ih

theorem State.sound_setPm (a n v : Nat) (h : s.sound = true) : (s.setPm a n v).sound = true := by
  have hc := State.canon_setPm s a n v (State.sound_iff.1 h).2.1
  refine State.sound_of_mem h ?_ ?_ hc
  · unfold State.setPm; simp only [List.foldl_cons, List.foldl_nil, State.setCore_regs, (State.pmFold_frame s a n v).1]
  · unfold State.setPm; simp only [List.foldl_cons, List.foldl_nil, State.setCore_log, (State.pmFold_frame s a n v).2]

theorem State.sound_fillPm (a n : Nat) (f : Nat → Byte) (h : s.sound = true) : (s.fillPm a n f).sound = true :=
  State.sound_of_mem h rfl rfl (State.canon_fillPm _ _ _ _ (State.sound_iff.1 h).2.1)

theorem State.sound_zeroMram (a n : Nat) (h : s.sound = true) : (s.zeroMram a n).sound = true :=
  State.sound_of_mem h rfl rfl (State.canon_zeroMram _ _ _ (State.sound_iff.1 h).2.1)

theorem State.sound_eraseSector (sec : Nat) (h : s.sound = true) : (s.eraseSector sec).sound = true :=
  State.sound_of_mem h rfl rfl (State.canon_eraseSector _ _ (State.sound_iff.1 h).2.1)

/-- A register write keeps soundness where its effect does (R141). -/
theorem State.sound_access (w : Writer) (p off : Nat) (v : W32) (f : State → State) (hf : ∀ s, s.sound = true → (f s).sound = true)
    (h : s.sound = true) : (s.access w p off v f).sound = true := by
  unfold State.access
  split
  · split
    · exact State.sound_respond _ (State.sound_logEvt _ _ _ _ (State.sound_countSat _ _ _ _ h))
    · exact hf _ (State.sound_respond _ h)
  · exact State.sound_respond _ h

/-- A fold keeps soundness where each of its steps does. -/
theorem State.sound_foldl {α : Type} (l : List α) (f : State → α → State) (hf : ∀ s x, s.sound = true → (f s x).sound = true) :
    ∀ s : State, s.sound = true → (l.foldl f s).sound = true := by
  induction l with
  | nil => exact fun _ h => h
  | cons x l ih => exact fun s h => ih _ (hf s x h)

end Sys2Proof.Machine
end

