-- ==== Sys2Proof/Laws/Frames.lean ====
section
/-! SUPPORT. Frames: what keeps the memories, the cores, the loop records, the field groups and the registers of other pages, and how
frames compose. -/

namespace Sys2Proof.Machine

variable {s t u : State} {pages : List Nat}

/-! ## Composition -/

theorem KeepsPages.refl : KeepsPages pages s s := fun _ _ => rfl

theorem KeepsPages.trans (h1 : KeepsPages pages s t) (h2 : KeepsPages pages t u) : KeepsPages pages s u :=
  fun k hk => (h2 k hk).trans (h1 k hk)

/-- A frame with fewer pages is stronger. -/
theorem KeepsPages.mono {more : List Nat} (h : KeepsPages pages s t) (hp : ∀ p, pages.contains p = true → more.contains p = true) :
    KeepsPages more s t := by
  intro k hk
  refine h k ?_
  cases hc : pages.contains (k / 4096)
  · rfl
  · rw [hp _ hc] at hk; cases hk

theorem KeepsPages.of_regs (h : t.regs = s.regs) : KeepsPages pages s t := fun _ _ => by simp [State.reg, h]

theorem KeepsPages.setReg (k : Nat) (v : W32) (hk : pages.contains (k / 4096) = true) : KeepsPages pages s (s.setReg k v) := by
  intro j hj
  refine State.reg_setReg_ne s v ?_
  rintro rfl
  simp_all

theorem KeepsPages.setFld (k lo w n : Nat) (hk : pages.contains (k / 4096) = true) : KeepsPages pages s (s.setFld k lo w n) :=
  KeepsPages.setReg _ _ hk

theorem KeepsPages.setFlag (k b : Nat) (on : Bool) (hk : pages.contains (k / 4096) = true) : KeepsPages pages s (s.setFlag k b on) :=
  KeepsPages.setReg _ _ hk

theorem KeepsPages.irqUpdate (p : Nat) (hp : pages.contains (rk p Reg.IRQ_PEND / 4096) = true) : KeepsPages pages s (s.irqUpdate p) :=
  KeepsPages.setReg _ _ hp

/-- An event changes registers of its source's page and of page 0 only. -/
theorem KeepsPages.logEvt (src chan cause : Nat) (data : W64) (h0 : pages.contains 0 = true)
    (h1 : pages.contains (rk src Reg.FAULT_CAUSE / 4096) = true) (h2 : pages.contains (rk src Reg.STAT / 4096) = true) :
    KeepsPages pages s (s.logEvt src chan cause data) := by
  intro j hj
  refine State.reg_logEvt_ne s chan cause data ?_ ?_ ?_ ?_
  · rintro rfl; simp_all
  · rintro rfl; simp_all
  · rintro rfl; rw [show Reg.SYS_EVLOG_STAT / 4096 = 0 by decide] at hj; simp_all
  · rintro rfl; rw [show rk 0 Reg.IRQ_PEND / 4096 = 0 by decide] at hj; simp_all

theorem KeepsMemory.refl : KeepsMemory s s := fun _ => ⟨rfl, rfl, rfl, rfl, rfl, rfl⟩

theorem KeepsMemory.trans (h1 : KeepsMemory s t) (h2 : KeepsMemory t u) : KeepsMemory s u := fun a =>
  ⟨(h2 a).1.trans (h1 a).1, (h2 a).2.1.trans (h1 a).2.1, (h2 a).2.2.1.trans (h1 a).2.2.1, (h2 a).2.2.2.1.trans (h1 a).2.2.2.1,
    (h2 a).2.2.2.2.1.trans (h1 a).2.2.2.2.1, (h2 a).2.2.2.2.2.trans (h1 a).2.2.2.2.2⟩

/-- The same memories read the same. -/
theorem KeepsMemory.of_mem (h : t.mem = s.mem) : KeepsMemory s t := by
  intro a
  simp only [State.tpmAt, State.pmByte, State.mramByte, State.norByte, State.capByte, State.canByte, h, and_self]

theorem KeepsCores.refl : KeepsCores s s := fun _ => rfl
theorem KeepsCores.trans (h1 : KeepsCores s t) (h2 : KeepsCores t u) : KeepsCores s u := fun c => (h2 c).trans (h1 c)
theorem KeepsCores.of_cores (h : t.cores = s.cores) : KeepsCores s t := fun _ => by simp [State.core, h]

theorem KeepsLoops.refl : KeepsLoops s s := fun _ _ => rfl
theorem KeepsLoops.trans (h1 : KeepsLoops s t) (h2 : KeepsLoops t u) : KeepsLoops s u := fun k w => (h2 k w).trans (h1 k w)
theorem KeepsLoops.of_loop (h : t.loop = s.loop) : KeepsLoops s t := fun _ _ => by simp [State.lw, h]

theorem KeepsGroups.refl : KeepsGroups s s := fun _ => rfl
theorem KeepsGroups.trans (h1 : KeepsGroups s t) (h2 : KeepsGroups t u) : KeepsGroups s u := fun g => (h2 g).trans (h1 g)
theorem KeepsGroups.of_groups (h : t.groups = s.groups) : KeepsGroups s t := fun _ => by simp [State.grp, h]

theorem KeepsRest.refl : KeepsRest s s := ⟨KeepsMemory.refl, KeepsCores.refl, KeepsLoops.refl, KeepsGroups.refl⟩

theorem KeepsRest.trans (h1 : KeepsRest s t) (h2 : KeepsRest t u) : KeepsRest s u :=
  ⟨h1.1.trans h2.1, h1.2.1.trans h2.2.1, h1.2.2.1.trans h2.2.2.1, h1.2.2.2.trans h2.2.2.2⟩

/-- An update that leaves the memories, the cores, the loop engine and the groups as they are. -/
theorem KeepsRest.of_eq (hm : t.mem = s.mem) (hc : t.cores = s.cores) (hl : t.loop = s.loop) (hg : t.groups = s.groups) : KeepsRest s t :=
  ⟨KeepsMemory.of_mem hm, KeepsCores.of_cores hc, KeepsLoops.of_loop hl, KeepsGroups.of_groups hg⟩

theorem KeepsRest.setReg (k : Nat) (v : W32) : KeepsRest s (s.setReg k v) := KeepsRest.of_eq rfl rfl rfl rfl
theorem KeepsRest.setFld (k lo w n : Nat) : KeepsRest s (s.setFld k lo w n) := KeepsRest.of_eq rfl rfl rfl rfl
theorem KeepsRest.setFlag (k b : Nat) (on : Bool) : KeepsRest s (s.setFlag k b on) := KeepsRest.of_eq rfl rfl rfl rfl
theorem KeepsRest.irqUpdate (p : Nat) : KeepsRest s (s.irqUpdate p) := KeepsRest.of_eq rfl rfl rfl rfl
theorem KeepsRest.setEvt (k b : Nat) : KeepsRest s (s.setEvt k b) := KeepsRest.of_eq rfl rfl rfl rfl
theorem KeepsRest.logEvt (src chan cause : Nat) (data : W64) : KeepsRest s (s.logEvt src chan cause data) :=
  KeepsRest.of_eq (by simp) (by simp) (by simp) (by simp)

/-! ## Loop records (R258) -/

theorem State.lw_setLw (k w j x : Nat) (v : TWord) (s : State) :
    (s.setLw k w v).lw j x = if j * 256 + x = k * 256 + w then v else s.lw j x := sget_sset _ _ _ _

end Sys2Proof.Machine
end

