-- ==== Sys2Proof/Laws/Instr.lean ====
section
/-! SUPPORT. The shared operations of instructions and register writes, each said once: what an instruction of a ready core does, and
what a write of a register does at each answer of the gate. -/

namespace Sys2Proof.Machine

variable {s : State} {c : CoreId}

/-! ## Instructions -/

/-- Where nothing waits, nothing is accepted (R191). -/
theorem State.lxWhile_of_false (n : Nat) (p : State → Bool) (h : p s = false) : s.lxWhile n p = s := by
  unfold State.lxWhile
  induction n with
  | zero => rfl
  | succ n ih => rw [List.range_succ, List.foldl_append, ih]; simp [h]

/-- The region that `place` lets pass is that of the address. -/
theorem State.place_region {a : W64} {n : Nat} {w : Bool} {r : Region} (h : s.place a n w = (.okay, some r)) : regionOf a = some r := by
  unfold State.place at h
  split at h
  · cases h
  · rename_i r' hr
    rw [hr]
    split at h
    · cases h
    · cases r' <;> simp only at h <;> (try split at h) <;> cases h <;> rfl

theorem State.lxWait_of_empty (l : List GReg) (h : (s.core c.val).lxq = []) : s.lxWait c.val l = s := by
  have hh : l.any (s.lxHolds c.val) = false := by
    rw [List.any_eq_false]; intro r _; simp [State.lxHolds, h]
  exact State.lxWhile_of_false 64 _ hh

/-- A fetch that meets no check error leaves the state as it is (R168, R195). -/
theorem State.fetchTouch_of_plain (h : s.fetchPlain c = true) : s.fetchTouch c = s := by
  have hc : ∀ a, sget (dflt 0) s.mem.cacheErr (a.toNat / 64) = 0 → s.cacheBad a = false ∧ s.cacheTouched c.val a = s := by
    intro a ha; simp [State.cacheBad, State.cacheTouched, ha]
  unfold State.fetchPlain at h
  simp only [Bool.and_eq_true, beq_iff_eq] at h
  obtain ⟨h1, h2⟩ := h
  obtain ⟨h3, h4⟩ := hc _ h1
  unfold State.fetchTouch
  dsimp only
  split
  · rfl
  · split
    · rename_i r hp
      rw [h3, h4]
      simp only [Bool.false_eq_true, if_false]
      have hr : regionOf (s.core c.val).pc = some r := State.place_region hp
      rw [hr] at h2
      cases r <;> simp_all [State.memRead, State.readPm, State.readMram, State.pmTouched, State.mramTouched]
    · rfl

/-- What `ready` says, one condition at a time. -/
theorem State.ready_iff : s.ready c = true ↔
    s.retires c.val = true ∧ s.sec.stepping.contains c.val = false ∧ (s.core c.val).lxq = [] ∧ s.fetchFault c = none ∧
      s.fetchPlain c = true ∧ (s.core c.val).wdogPend = false ∧ (s.core c.val).overrunPend = false := by
  simp only [State.ready, Bool.and_eq_true, Bool.not_eq_true', List.isEmpty_iff, Option.isNone_iff_eq_none, and_assoc]

/-- An instruction of a ready core: its effect, or the exception it raises; then what waits is taken (R180, R191). -/
theorem State.instr_ready (l : List GReg) (f : State → Except (Exc × State) (State × W64)) (h : s.ready c = true) :
    s.instr c l f = .next (match f s with
      | .error e => e.2.raise c.val e.1
      | .ok (t, pc) =>
        if (t.core c.val).inReset || t.rst.phase != .running then t
        else (t.setCore c.val { t.core c.val with pc := pc }).takeAsync c.val) := by
  obtain ⟨h1, h2, h3, h4, h5, -, -⟩ := State.ready_iff.1 h
  have hf : s.sec.stepping.filter (· != c.val) = s.sec.stepping := by
    rw [List.filter_eq_self]
    intro x hx
    have : x ≠ c.val := by
      rintro rfl
      have := List.contains_iff_mem.2 hx
      simp_all
    simp [this]
  unfold State.instr
  rw [if_pos h1]
  dsimp only
  rw [State.lxWait_of_empty l h3, hf, h4, State.fetchTouch_of_plain h5]
  first | done | rfl

/-- Nothing waits: nothing is taken at the boundary (R180). -/
theorem State.takeAsync_of_none (h1 : (s.core c.val).wdogPend = false) (h2 : (s.core c.val).overrunPend = false) :
    s.takeAsync c.val = s := by
  unfold State.takeAsync
  split
  · rfl
  · simp [h1, h2]

/-- An instruction that leaves the core's reset, pending exceptions and the module's phase alone goes on at `pc`. -/
theorem State.instr_ready_ok (l : List GReg) (f : State → Except (Exc × State) (State × W64)) (t : State) (pc : W64) (h : s.ready c = true)
    (hf : f s = .ok (t, pc)) (hr : (t.core c.val).inReset = (s.core c.val).inReset)
    (hw : (t.core c.val).wdogPend = (s.core c.val).wdogPend) (ho : (t.core c.val).overrunPend = (s.core c.val).overrunPend)
    (hp : t.rst = s.rst) : s.instr c l f = .next (t.goTo c pc) := by
  obtain ⟨h1, -, -, -, -, h5, h6⟩ := State.ready_iff.1 h
  have hq : s.rst.phase = .running ∧ (s.core c.val).inReset = false := by
    simp only [State.retires, Bool.and_eq_true, beq_iff_eq, Bool.not_eq_true'] at h1
    exact ⟨h1.1.1.1.1, h1.1.2⟩
  rw [State.instr_ready l f h, hf]
  have e : ((t.core c.val).inReset || t.rst.phase != .running) = false := by rw [hr, hp, hq.1, hq.2]; rfl
  have : (t.goTo c pc).takeAsync c.val = t.goTo c pc := by
    apply State.takeAsync_of_none <;> simp [State.goTo, hw, ho, h5, h6]
  simp only [e, Bool.false_eq_true, if_false]
  exact congrArg _ this

/-- An instruction that raises an exception enters it, or ends in LOCKUP (R180, R181). -/
theorem State.instr_ready_error (l : List GReg) (f : State → Except (Exc × State) (State × W64)) (e : Exc) (t : State) (h : s.ready c = true)
    (hf : f s = .error (e, t)) : s.instr c l f = .next (t.raise c.val e) := by rw [State.instr_ready l f h, hf]

/-- `compute` with no operand that raises TAGBAD (R172, R202). -/
theorem State.compute_ok (rd : GReg) (ops : List Tag) (r : W64) (lim : Bool) (h : s.tagBad c ops = none) :
    s.compute c rd ops r lim = .ok (s.setGreg c.val rd.val { data := r, tag := resultTag ops lim }, s.pcNext c) := by
  simp [State.compute, h]

theorem State.compute_error (rd : GReg) (ops : List Tag) (r : W64) (lim : Bool) (e : Exc) (h : s.tagBad c ops = some e) :
    s.compute c rd ops r lim = .error (e, s) := by simp [State.compute, h]

/-! ## General registers (R169) -/

theorem State.core_setGreg (n r d : Nat) (v : TWord) :
    (s.setGreg n r v).core d = if d = n ∧ r ≠ 0 then { s.core n with g := sset (dflt {}) (s.core n).g r v } else s.core d := by
  unfold State.setGreg
  by_cases hr : r = 0
  · simp [hr]
  · simp only [hr, if_false, State.core_setCore, ne_eq, not_false_eq_true, and_true]

/-- A write of a general register leaves what else its core holds. -/
theorem State.core_setGreg_frame (n r d : Nat) (v : TWord) :
    ((s.setGreg n r v).core d).pc = (s.core d).pc ∧ ((s.setGreg n r v).core d).inReset = (s.core d).inReset ∧
      ((s.setGreg n r v).core d).lxq = (s.core d).lxq ∧ ((s.setGreg n r v).core d).wdogPend = (s.core d).wdogPend ∧
      ((s.setGreg n r v).core d).overrunPend = (s.core d).overrunPend := by
  rw [State.core_setGreg]
  split
  · rename_i h; obtain ⟨rfl, -⟩ := h; exact ⟨rfl, rfl, rfl, rfl, rfl⟩
  · exact ⟨rfl, rfl, rfl, rfl, rfl⟩

/-- An instruction whose effect is one result in a register (R203): it completes with the result and goes on. -/
theorem State.instr_computes (l : List GReg) (f : State → Except (Exc × State) (State × W64)) (rd : GReg) (ops : List Tag) (r : W64) (lim : Bool)
    (h : s.ready c = true) (hf : f s = s.compute c rd ops r lim) (ht : s.tagBad c ops = none) :
    s.instr c l f = .next (s.wrote c rd { data := r, tag := resultTag ops lim }) := by
  rw [State.compute_ok rd ops r lim ht] at hf
  obtain ⟨-, h2, -, h4, h5⟩ := State.core_setGreg_frame (s := s) c.val rd.val c.val { data := r, tag := resultTag ops lim }
  exact State.instr_ready_ok l f _ _ h hf h2 h4 h5 (by simp)

/-! ## Register writes (R141, R144, R157) -/

/-- A write that is admitted has its effect, on the state that shows the response OKAY. -/
theorem State.access_of_admits (w : Writer) (p off : Nat) (v : W32) (f : State → State) (h : s.admits w p off = true) :
    s.access w p off v f = f (s.respond .okay) := by
  simp only [State.admits, Bool.and_eq_true, beq_iff_eq, Bool.not_eq_true'] at h
  simp [State.access, h.1, h.2]

/-- A write that the gate turns away only shows its response. -/
theorem State.access_of_gate (w : Writer) (p off : Nat) (v : W32) (f : State → State) (h : s.gate w.master p off ≠ .okay) :
    s.access w p off v f = s.respond (s.gate w.master p off) := by
  unfold State.access
  split
  · exact absurd ‹_› h
  · rfl

/-- A write that the tag check refuses is counted and logged (R157). -/
theorem State.access_of_tag (w : Writer) (p off : Nat) (v : W32) (f : State → State) (h : s.gate w.master p off = .okay)
    (ht : s.tagRefused p off (writeTag w) = true) :
    s.access w p off v f = ((s.countRefused p).logRefusal p 0xF2 w off v).respond .errTag := by
  simp [State.access, h, ht]

end Sys2Proof.Machine
end

