-- ==== Sys2Proof/Tests/Slice0.lean ====
section
/-! SUPPORT. Tests: an ill-formed command for each check of WellFormed, single commands with the values of the spec's rules and worked
examples, and for every statement with hypotheses states that meet them. -/

namespace Sys2Proof.Tests

open Sys2Proof Sys2Proof.Machine

set_option Elab.async false

/-! ## States -/

/-- The module after its resets, all logic running. -/
def run0 : State := { State.reset with rst := { State.reset.rst with phase := .running } }

/-- ECORE0 in service with its program counter in PM. -/
def ready0 : State := (run0.setDomState 2 2).setCore 0 { pc := 0x200001000 }

/-- Some registers of ECORE0 written. -/
def withG (s : State) (l : List (Nat × W64 × Nat)) : State := l.foldl (fun s e => s.setGreg 0 e.1 { data := e.2.1, tag := BitVec.ofNat 8 e.2.2 }) s

/-- Some words of TPM written. -/
def withTpm (s : State) (l : List (Nat × W64 × Nat)) : State := l.foldl (fun s e => s.setTpm e.1 { data := e.2.1, tag := BitVec.ofNat 8 e.2.2 }) s

/-- Domains 0 to 29 ON. -/
def domsOn (s : State) : State := (List.range 30).foldl (fun s d => s.setDomState d 2) s

/-- A page unlocked. -/
def unlock (s : State) (p : Nat) : State := (s.setFlag (rk p Reg.CTRL) 31 false).setFld (rk p Reg.LOCK) 0 2 2

/-- A block enabled. -/
def en (s : State) (p : Nat) : State := (s.setFlag (rk p Reg.CTRL) 0 true).setFlag (rk p Reg.STAT) 0 true

/-- Role and claim role of the module. -/
def role (s : State) (r c : Nat) : State := (s.setFld Reg.CLAIM_OWN 16 3 r).setFld Reg.CLAIM_OWN 14 2 c

/-- One channel group changed. -/
def setG (s : State) (k : Nat) (f : GroupState → GroupState) : State := s.setGrp k (f (s.grp k))

/-- The outcome is a next state that satisfies `p`. -/
def gives (r : Res) (p : State → Bool) : Bool :=
  match r with
  | .next t => p t
  | _ => false

/-! ## Ill-formed commands are refused, one for each check -/

def core0 : Writer := { master := .core 0, tag := 0 }

theorem test_wf_page : (Instr.lockArm core0 0x400).wf = false := by decide
theorem test_wf_offset : (Instr.registerWrite core0 3 0x102 5).wf = false ∧ (Instr.registerWrite core0 3 0x1000 5).wf = false := by decide
theorem test_wf_group_page : (Instr.outClearWrite core0 0x0B9 1).wf = false ∧ (Instr.counterClear core0 0x0B3 1).wf = false := by decide
theorem test_wf_supply_point : (Instr.fieldSupplyStateChange (.afs1 31) .lost).wf = false := by decide
theorem test_wf_converter : (∀ x, (Instr.conversion 52 0 x).wf = false) := fun _ => rfl
theorem test_wf_counted : (Instr.counterLatch 52 [⟨3, []⟩, ⟨3, []⟩]).wf = false := by decide
theorem test_wf_image : (Instr.runtimeInit { tasks := [(32, {})] }).wf = false ∧ (Instr.runtimeInit { domains := [80] }).wf = false := by decide
theorem test_wf_record : (Instr.cidRecordRead []).wf = false := by decide
theorem test_wf_claim_line : (Instr.claimLinePeriod 1000 1001).wf = false := by decide
theorem test_wf_can_frame :
    (Instr.canFrameReceive 0 ⟨0x800, false, false, false, false, false, 0, []⟩ ⟨0, 0⟩).wf = false ∧
    (Instr.canFrameReceive 0 ⟨5, false, false, true, false, false, 9, [1, 2, 3]⟩ ⟨0, 0⟩).wf = false := by decide
theorem test_wf_bursts : (Instr.relayCellReceive false [(3, []), (3, [1])]).wf = false := by decide
theorem test_wf_receipt : (Instr.networkReceipt { iface := .eth 0, dest := 9, len := 0, crc := 0, release := 0, stamps := ⟨0, 0⟩ }).wf = false := by
  decide
theorem test_wf_control : (Instr.controlCellReceive (.regWrite 0x400 0 0 .dbg 0)).wf = false := by decide
theorem test_wf_bulk :
    (Instr.bulkCellReceive (.canPayload 0 0 ⟨5, false, true, true, false, false, 0, []⟩ ⟨0, 0⟩ 0)).wf = false := by decide
theorem test_wf_session : (Instr.sessionCommand 0 (.staging 927 [1, 2])).wf = false := by decide
theorem test_wf_accepts : (Instr.lockArm core0 0x3FF).wf = true ∧ (Instr.sessionCommand 0 (.staging 926 [1, 2])).wf = true := by decide

/-! ## The queue -/

theorem test_step_takes_the_front :
    gives (step { State.reset with pending := [.feedLost .lsA, .add 0 1 2 3] }) (fun t => t.pending == [.add 0 1 2 3]) = true := by
  decide +kernel

theorem test_no_word_spells_a_command : decodeTableWord 32 0x60BD0120 = none := rfl

/-! ## ECORE instructions: rules and the worked example of spec/08 (lubricating oil alarm) -/

def regs1 : State := withG ready0 [(1, 0xFFFFFFFFFFFFFFFF, 0), (2, 1, 0x70), (4, 0x7FFFFFFFFFFFFFFF, 0)]

/-- ADD wraps modulo 2^64; the tag is that of the worse operand (R172, R203). -/
theorem test_add_wraps :
    gives (execAdd 0 3 1 2 regs1) (fun t => t.greg 0 3 == { data := 0, tag := 0x70 } && (t.core 0).pc == 0x200001004) = true := by
  decide +kernel

/-- ADDS clamps at 2^63 − 1 and sets L (R172, R203). -/
theorem test_adds_clamps :
    gives (execAdds 0 3 4 2 regs1) (fun t => t.greg 0 3 == { data := 0x7FFFFFFFFFFFFFFF, tag := 0x71 }) = true := by decide +kernel

/-- A division by 0 at DIV0_EN 0 gives 0 with BAD, cause 5 (R173, R204). -/
theorem test_division_by_zero :
    gives (execDiv 0 3 1 0 (regs1.setFlag (coreKey 0 0x12C) 5 false)) (fun t => t.greg 0 3 == { data := 0, tag := 0xA8 }) = true := by decide +kernel

/-- A write to G0 has no effect (R169). -/
theorem test_g0_discards : gives (execAdd 0 0 1 2 regs1) (fun t => t.greg 0 0 == { data := 0, tag := 0 }) = true := by decide +kernel

/-- The square root of a negative number is the canonical quiet NaN; a binary32 one has [63:32] zero (R170, R207). -/
theorem test_canonical_nan :
    gives (execFsqrt 0 3 1 .rne .binary64 (withG ready0 [(1, 0xBFF0000000000000, 0)])) (fun t => (t.greg 0 3).data == 0x7FF8000000000000) = true ∧
    gives (execFsqrt 0 3 1 .rne .binary32 (withG ready0 [(1, 0xBF800000, 0)])) (fun t => (t.greg 0 3).data == 0x7FC00000) = true := by
  decide +kernel

/-- The smaller of +0 and −0 is −0 (R206). -/
theorem test_fmin_zero :
    gives (execFmin 0 3 1 2 .binary64 (withG ready0 [(1, 0, 0), (2, 0x8000000000000000, 0)]))
      (fun t => (t.greg 0 3).data == 0x8000000000000000) = true := by decide +kernel

/-- Pressure in G5, IB at TPM word 0x20, TB at word 0x10 with the task time; HYS with HI 2.2 and LO 1.8 at words 2 to 4, TIM with
PT 2 s at words 5 to 8. -/
def oil (p : W64) (tag : Nat) (high pin : Nat) (et last now : W64) : State :=
  withTpm (withG ready0 [(5, p, tag), (6, 1, tag), (28, 0x100000100, 0), (29, 0x100000080, 0)])
    [(0x10, now, 0), (0x22, 0x400199999999999A, 0), (0x23, 0x3FFCCCCCCCCCCCCD, 0), (0x24, BitVec.ofNat 64 high, 0),
     (0x25, 0x0EE6B280, 0), (0x26, et, 0), (0x27, last, 0), (0x28, BitVec.ofNat 64 (16 + 2 * pin), 0)]

/-- 2.05 bar holds the state at 1: G6 is 0. 1.79 bar makes it 0: G6 is 1. With tag 0x98 the state is held. -/
theorem test_oil_alarm_hysteresis :
    gives (execHys 0 6 5 2 true (oil 0x4000666666666666 0 1 0 0 0 0)) (fun t => t.greg 0 6 == { data := 0, tag := 0 }) = true ∧
    gives (execHys 0 6 5 2 true (oil 0x3FFCA3D70A3D70A4 0 1 0 0 0 0)) (fun t => t.greg 0 6 == { data := 1, tag := 0 }) = true ∧
    gives (execHys 0 6 5 2 true (oil 0x3FFCA3D70A3D70A4 0x98 1 0 0 0 0)) (fun t => t.greg 0 6 == { data := 0, tag := 0x98 }) = true := by
  decide +kernel

/-- At 2 099.98 ms ET is 1 999.95 ms and the alarm waits; at 2 200.01 ms ET is held at PT and G7 is 1. -/
theorem test_oil_alarm_timer :
    gives (execTim 0 7 6 5 .onDelay (oil 0 0 0 1 0x8672C92 0 0x66F9FFC))
      (fun t => t.greg 0 7 == { data := 0, tag := 0 } && (t.tpmAt 0x26).data == 0x0ED6CC8E) = true ∧
    gives (execTim 0 7 6 5 .onDelay (oil 0 0 0 1 249993750 0 12503750))
      (fun t => t.greg 0 7 == { data := 1, tag := 0 } && (t.tpmAt 0x26).data == 250000000) = true := by
  decide +kernel

/-! ## The lock and the power budget (worked example of spec/06) -/

/-- Side A, ACTIVE, PWR's page armed for master 0x01 with WSEQ 0x17. -/
def armed1 : State :=
  (((role (domsOn ready0) 2 3).setFld Reg.SYS_CT_ID 0 2 1).setReg (rk 3 Reg.WSEQ) 0x17).setLock 3 1 (some { master := 1, tag := 0 })

def last (t : State) : LogRec := (t.log.queue.getLast?).getD ⟨0, 0, 0, 0, 0, 0⟩

/-- ECORE2's second word locks the page and logs 0x003F_FFF0 with DATA 0x0200_0020_0000_ED0C, ROLE 0x42 and SEV 0x01. -/
theorem test_wrong_master_locks :
    gives (execLockUnlock { master := .core 2, tag := 0 } 3 0xED0C armed1) (fun t =>
      (last t).code == 0x003FFFF0 && (last t).data == 0x020000200000ED0C && (last t).sev == 1 && (last t).role == 0x42 && t.fld (rk 3 Reg.LOCK) 0 2 == 0) = true := by
  decide +kernel

/-- ECORE1's write of BUDGET to the locked page has no effect, counts REFUSED and logs 0x003F_FFF1. -/
theorem test_locked_budget :
    gives (execBudgetWrite { master := .core 1, tag := 0 } 0xD8 (domsOn ready0)) (fun t =>
      (last t).code == 0x003FFFF1 && t.fld (rk 3 Reg.LOCK) 8 8 == 1) = true := by decide +kernel

/-- On the unlocked page BUDGET takes effect and WSEQ reads 0x18. -/
theorem test_unlocked_budget :
    gives (execBudgetWrite { master := .core 1, tag := 0 } 0xD8 (unlock armed1 3)) (fun t =>
      t.reg (rk 3 Reg.WSEQ) == 0x18 && t.fld Reg.PWR_BUDGET 0 12 == 0xD8) = true := by decide +kernel

/-! ## Event codes and values of the worked examples -/

/-- Feedback loss on LP020, the re-erase of sector 0x2A7, and SHORTER on CCH04 of CG0 (spec/11, spec/05, spec/15). -/
theorem test_event_codes :
    eventCode 0x040 0x014 0x12 = 0x04001412 ∧ eventCode 0x000 0x2A7 0x50 = 0x0002A750 ∧ eventCode 0x0B4 4 0x06 = 0x0B400406 := by decide

/-- VAL 0x1AB_8000 at EXP −15 is 855.0 A (spec/14). -/
theorem test_motor_current : valueOf 0x1AB8000 (-15) = 0x408AB80000000000 := by decide +kernel

/-- A sector whose marker is incomplete is re-erased and logged at ROM_SCAN (R125, spec/05). -/
theorem test_rom_scan_re_erases :
    gives (execRomScan (run0.setNor (0x2A7 * 0x40000 + 0x3FFF8) 8 0x1234)) (fun t =>
      (last t).code == 0x0002A750 && t.badSectors == []) = true := by decide +kernel

/-! ## States that meet the hypotheses of the statements -/

namespace S1

def g1 := withG ready0 [(1, 5, 0), (2, 7, 0x41), (3, 0xFFFFFFFFFFFFFFFF, 0xFF), (4, 0x8000000000000000, 0x86), (5, 0x4010000000000000, 0), (6, 0x40400000, 0), (7, 0x7FF8000000000000, 0x10)]

theorem witness_RegisterZeroReadsZeroAndDiscards :
    (∃ (r : Nat),
      r ≠ 0) ∧
    (∃ (c : Nat) (r : Nat) (d : Nat) (q : Nat),
      (d ≠ c ∨ q ≠ r)) :=
  ⟨⟨1, by decide +kernel⟩,
   ⟨0, 0, 0, 1, by decide +kernel⟩⟩

theorem witness_ResultTagsFollowTheOperands :
    ∃ (ops : List Tag) (before : List Tag) (after : List Tag) (w : Tag),
      ops ≠ [] ∧ ops = before ++ w :: after ∧ (∀ x ∈ before, tagQ x < tagQ w) ∧ (∀ x ∈ after, tagQ x ≤ tagQ w) :=
  ⟨[0], [], [], 0, by decide +kernel⟩

theorem witness_IntegerInstructionsCompute :
    ∃ (s : State) (c : CoreId) (ra : GReg) (rb : GReg),
      let ta  := (s.greg c.val ra.val).tag
      let tb  := (s.greg c.val rb.val).tag
      s.ready c = true ∧ s.tagBad c [ta, tb] = none :=
  ⟨g1, 0, 1, 1, by decide +kernel⟩

theorem witness_DivisionAndDivisionByZero :
    (∃ (s : State) (c : CoreId) (ra : GReg) (rb : GReg),
      let b  := (s.greg c.val rb.val).data
      s.ready c = true ∧ s.tagBad c [(s.greg c.val ra.val).tag, (s.greg c.val rb.val).tag] = none ∧ b ≠ 0) ∧
    (∃ (s : State) (c : CoreId) (rd : GReg) (ra : GReg) (rb : GReg) (i : Instr),
      let b  := (s.greg c.val rb.val).data
      s.ready c = true ∧ s.tagBad c [(s.greg c.val ra.val).tag, (s.greg c.val rb.val).tag] = none ∧ b = 0 ∧ i ∈ [Instr.div c rd ra rb, .divu c rd ra rb, .rem c rd ra rb, .remu c rd ra rb]) :=
  ⟨⟨g1, 0, 1, 1, by decide +kernel⟩,
   ⟨g1, 0, 1, 1, 0, .div 0 1 1 0, by decide +kernel⟩⟩

theorem witness_LogicShiftCompareAndSethCompute :
    (∃ (s : State) (c : CoreId) (ra : GReg) (rb : GReg),
      let ta  := (s.greg c.val ra.val).tag
      let tb  := (s.greg c.val rb.val).tag
      s.ready c = true ∧ s.tagBad c [ta, tb] = none) ∧
    (∃ (s : State) (c : CoreId) (ra : GReg),
      let ta  := (s.greg c.val ra.val).tag
      s.ready c = true ∧ s.tagBad c [ta] = none) ∧
    (∃ (s : State) (c : CoreId) (rd : GReg) (ra : GReg) (rb : GReg),
      let d  := s.greg c.val rd.val
      let v  := if d.data ≠ 0 then s.greg c.val ra.val else s.greg c.val rb.val
      s.ready c = true ∧ s.tagBad c [d.tag, v.tag] = none) ∧
    (∃ (s : State) (c : CoreId) (rd : GReg),
      s.ready c = true ∧ s.tagBad c [(s.greg c.val rd.val).tag] = none) :=
  ⟨⟨g1, 0, 1, 1, by decide +kernel⟩,
   ⟨g1, 0, 1, by decide +kernel⟩,
   ⟨g1, 0, 1, 1, 1, by decide +kernel⟩,
   ⟨g1, 0, 1, by decide +kernel⟩⟩

theorem witness_TagOperationsNeverRaise :
    ∃ (s : State) (c : CoreId),
      s.ready c = true :=
  ⟨g1, 0, by decide +kernel⟩

theorem witness_FloatingPointInstructionsCompute :
    (∃ (s : State) (c : CoreId) (ra : GReg),
      let a  := s.greg c.val ra.val
      s.ready c = true ∧ s.tagBad c [a.tag] = none) ∧
    (∃ (s : State) (c : CoreId) (ra : GReg) (rb : GReg),
      let a  := s.greg c.val ra.val
      let b  := s.greg c.val rb.val
      s.ready c = true ∧ s.tagBad c [a.tag, b.tag] = none) :=
  ⟨⟨g1, 0, 1, by decide +kernel⟩,
   ⟨g1, 0, 1, 1, by decide +kernel⟩⟩

theorem witness_BranchesGoWhereTheySay :
    (∃ (s : State) (c : CoreId) (ra : GReg),
      let a  := s.greg c.val ra.val
      s.ready c = true ∧ s.tagBad c [a.tag] = none) ∧
    (∃ (s : State) (c : CoreId) (ra : GReg),
      let a  := s.greg c.val ra.val
      s.ready c = true ∧ a.data.toNat % 4 = 0) ∧
    (∃ (s : State) (c : CoreId) (ra : GReg),
      let a  := s.greg c.val ra.val
      s.ready c = true ∧ a.data.toNat % 4 ≠ 0) :=
  ⟨⟨g1, 0, 1, by decide +kernel⟩,
   ⟨g1, 0, 4, by decide +kernel⟩,
   ⟨g1, 0, 1, by decide +kernel⟩⟩

end S1

namespace S1b

def g1 := (withG ready0 [(1, 5, 0), (2, 7, 0x41), (3, 0xFFFFFFFFFFFFFFFF, 0xFF), (4, 0x8000000000000000, 0x86)]).setFlag (coreKey 0 0x12C) 8 true

theorem witness_AbsentOperandsRaiseTagbad :
    ∃ (s : State) (c : CoreId),
      s.ready c = true ∧ s.flag (coreKey c.val 0x12C) 8 = true :=
  ⟨g1, 0, by decide +kernel⟩

end S1b

namespace S2

def m0 := withG ready0 [(1, 0x100000000, 0), (2, 0x200000100, 0), (3, 0x100000008, 0x41), (4, 0x3FF8000000000000, 0x86), (5, 0x200000FF8, 0), (28, 0x100000100, 0x10), (29, 0x100000010, 0), (30, 0x200000400, 0), (31, 0x200000800, 0x41)]
def m1 := ((withTpm m0 [(0, 0x1122334455667788, 0x81), (1, 0xFFFFFFFFFFFFFFF0, 0x48), (2, 500, 0x40), (0x20, 0x3FF8000000000000, 0), (0x21, 0x4008000000000000, 0), (0x22, 1, 0), (0x23, 0x13, 0), (0x24, 1, 0), (0x25, 3, 0x82)]).setPm 0x100 8 0x8899AABBCCDDEEFF).setPm 0x800 16 0x11223344556677889900

theorem witness_LoadsReadTheirMemory :
    (∃ (s : State) (c : CoreId) (rb : GReg) (at_ : LoadAt),
      let a  := s.memAddr c rb at_.disp
      let w  := (a.toNat - 0x100000000) / 8
      s.ready c = true ∧ 0x100000000 ≤ a.toNat ∧ a.toNat ≤ 0x103FFFFFF ∧ a.toNat % 8 = 0 ∧ s.allowed c.val a 31 = true ∧ sget (dflt 0) s.mem.tpmErr w = 0) ∧
    (∃ (s : State) (c : CoreId) (rb : GReg) (disp : BitVec 16),
      let a  := s.memAddr c rb disp
      let o  := a.toNat - 0x200000000
      s.ready c = true ∧ 0x200000000 ≤ a.toNat ∧ a.toNat ≤ 0x23FFFFFFF ∧ s.allowed c.val a 31 = true ∧ sget (dflt 0) s.mem.pmErr (o / 8) = 0 ∧ sget (dflt 0) s.mem.cacheErr (a.toNat / 64) = 0 ∧ a.toNat % 8 = 0) ∧
    (∃ (s : State) (c : CoreId) (rb : GReg) (disp : BitVec 16),
      let a  := s.memAddr c rb disp
      let o  := a.toNat - 0x200000000
      s.ready c = true ∧ 0x200000000 ≤ a.toNat ∧ a.toNat ≤ 0x23FFFFFFF ∧ s.allowed c.val a 31 = true ∧ sget (dflt 0) s.mem.pmErr (o / 8) = 0 ∧ sget (dflt 0) s.mem.cacheErr (a.toNat / 64) = 0 ∧ a.toNat % 4 = 0) ∧
    (∃ (s : State) (c : CoreId) (rb : GReg) (disp : BitVec 16) (f : CacheFinding),
      let a  := s.memAddr c rb disp
      let o  := a.toNat - 0x200000000
      s.ready c = true ∧ 0x200000000 ≤ a.toNat ∧ a.toNat ≤ 0x23FFFFFFF ∧ s.allowed c.val a 31 = true ∧ sget (dflt 0) s.mem.pmErr (o / 8) = 0 ∧ a.toNat % 8 = 0 ∧ f ∈ [CacheFinding.parity, .correctable, .l1Data, .l2Clean]) ∧
    (∃ (s : State) (c : CoreId) (rb : GReg) (disp : BitVec 16),
      let a  := s.memAddr c rb disp
      let o  := a.toNat - 0x200000000
      s.ready c = true ∧ 0x200000000 ≤ a.toNat ∧ a.toNat ≤ 0x23FFFFFFF ∧ s.allowed c.val a 31 = true ∧ s.mem.dirty.contains (o / 64) = true ∧ s.excActive c.val = false ∧ s.logOpen = true ∧ a.toNat % 8 = 0) :=
  ⟨⟨m1, 0, 1, { disp := 0 }, by decide +kernel⟩,
   ⟨m1, 0, 2, 0, by decide +kernel⟩,
   ⟨m1, 0, 2, 0, by decide +kernel⟩,
   ⟨m1, 0, 2, 0, .parity, by decide +kernel⟩,
   ⟨m1, 0, 2, 0, by decide +kernel⟩⟩

theorem witness_StoresAndCasWriteOnlyTheirBytes :
    (∃ (s : State) (c : CoreId) (rb : GReg) (disp : BitVec 16),
      let a  := s.memAddr c rb disp
      s.ready c = true ∧ s.allowed c.val a 30 = true ∧ 0x100000000 ≤ a.toNat ∧ a.toNat ≤ 0x103FFFFFF ∧ a.toNat % 8 = 0) ∧
    (∃ (s : State) (c : CoreId) (rd : GReg) (rb : GReg) (disp : BitVec 16) (e : Instr × Nat),
      let a  := s.memAddr c rb disp
      s.ready c = true ∧ s.allowed c.val a 30 = true ∧ 0x200000000 ≤ a.toNat ∧ a.toNat ≤ 0x23FFFFFFF ∧ e ∈ [(Instr.st c rd rb disp, 8), (.sw c rd rb disp, 4), (.sb c rd rb disp, 1)] ∧ a.toNat % e.2 = 0) ∧
    (∃ (s : State) (c : CoreId) (ra : GReg),
      let a  := (s.greg c.val ra.val).data
      let w  := (a.toNat - 0x100000000) / 8
      s.ready c = true ∧ 0x100000000 ≤ a.toNat ∧ a.toNat ≤ 0x103FFFFFF ∧ a.toNat % 8 = 0 ∧ s.allowed c.val a 31 = true ∧ s.allowed c.val a 30 = true ∧ sget (dflt 0) s.mem.tpmErr w = 0) :=
  ⟨⟨m1, 0, 1, 0, by decide +kernel⟩,
   ⟨m1, 0, 1, 5, 0, (.st 0 1 5 0, 8), by decide +kernel⟩,
   ⟨m1, 0, 1, by decide +kernel⟩⟩

theorem witness_CallsPushAndReturnsPop :
    (∃ (s : State) (c : CoreId) (ra : GReg) (ri : GReg) (disp : BitVec 21) (e : Instr × W64),
      let sp  := s.greg c.val 31
      let pc  := (s.core c.val).pc
      s.ready c = true ∧ 0x200000010 ≤ sp.data.toNat ∧ sp.data.toNat ≤ 0x240000000 ∧ sp.data.toNat % 8 = 0 ∧ s.allowed c.val (sp.data - 16) 30 = true ∧ s.allowed c.val (sp.data - 8) 30 = true ∧ e ∈ [(Instr.fcall c ri disp, pc + BitVec.ofInt 64 (4 * disp.toInt)), (.fcallr c ra ri, (s.greg c.val ra.val).data)] ∧ e.2.toNat % 4 = 0) ∧
    (∃ (s : State) (c : CoreId),
      let sp  := s.greg c.val 31
      let lk  := s.greg c.val 30
      let o  := sp.data.toNat - 0x200000000
      s.ready c = true ∧ 0x200000000 ≤ sp.data.toNat ∧ sp.data.toNat ≤ 0x23FFFFFF0 ∧ sp.data.toNat % 8 = 0 ∧ lk.data.toNat % 4 = 0 ∧ s.allowed c.val sp.data 31 = true ∧ s.allowed c.val (sp.data + 8) 31 = true ∧ sget (dflt 0) s.mem.pmErr (o / 8) = 0 ∧ sget (dflt 0) s.mem.pmErr (o / 8 + 1) = 0 ∧ sget (dflt 0) s.mem.cacheErr (sp.data.toNat / 64) = 0 ∧ sget (dflt 0) s.mem.cacheErr ((sp.data.toNat + 8) / 64) = 0) :=
  ⟨⟨m1, 0, 1, 1, 8, (.fcall 0 1 8, 0x200001020), by decide +kernel⟩,
   ⟨m1, 0, by decide +kernel⟩⟩

end S2

namespace S3

def m0 := withG ready0 [(1, 0x3FF0000000000001, 0), (2, 0x3, 0x40), (3, 0xFFFFFFFFFFFFFFFF, 0xC1), (4, 0x20000010, 0x86), (5, 0x20000801, 0), (28, 0x100000100, 0x10), (29, 0x100000010, 0), (30, 0x200000400, 0), (31, 0x200000800, 0x41)]
def m1 := ((withTpm m0 [(0, 0x1122334455667788, 0x81), (1, 0xFFFFFFFFFFFFFFF0, 0x48), (2, 50000, 0x40), (0x20, 0x3FF8000000000000, 0), (0x21, 0x4008000000000000, 0), (0x22, 1, 0), (0x23, 0x13, 0), (0x24, 1, 0), (0x25, 3, 0x82)]).setPm 0x100 8 0x8899AABBCCDDEEFF).setReg (coreKey 0 0x114) 0x00001230
def win (s : State) := (s.setReg (coreKey 0 0x180) 0x200000).setReg (coreKey 0 0x184) 0xE0240000
def m2 := win (m1.setFlag (coreKey 0 0x100) 2 false)
def m3 := (m1.setFlag (coreKey 0 0x100) 3 true)
def m4 := ((m1.setFlag (coreKey 0 0x100) 4 true).setReg (coreKey 0 0x200) 0x80000002).setReg (rk 2 Reg.IRQ_PEND) 1
def w1 := ((m3.setReg (coreKey 0 0x130) 0x80010005).setReg (coreKey 0 0x140) 5)
def w2 := w1.setReg (coreKey 0 0x138) 1
def lx := (domsOn m1).setCore 0 { m1.core 0 with lxq := [.read 0x20000010 3, .fix 0x20000010 1] }

theorem witness_ExceptionsAndInterruptsAreEntered :
    (∃ (s : State) (c : CoreId) (word : W32),
      s.ready c = true ∧ s.excActive c.val = false ∧ assignedWord word = false) ∧
    (∃ (s : State) (c : CoreId),
      s.ready c = true ∧ s.excActive c.val = false ∧ s.levelP c.val = false) ∧
    (∃ (s : State) (c : CoreId) (n : Nat) (m : Nat),
      s.coreRuns c.val = true ∧ s.intsOn c.val = true ∧ s.excActive c.val = false ∧ s.irqSlot c.val = some n ∧ m < 32 ∧ s.slotPending c.val m = true) :=
  ⟨⟨m1, 0, 0, by decide +kernel⟩,
   ⟨m2, 0, by decide +kernel⟩,
   ⟨m4, 0, 0, 0, by decide +kernel⟩⟩

theorem witness_EretReturns :
    ∃ (s : State) (c : CoreId),
      s.ready c = true ∧ s.levelP c.val = true :=
  ⟨m1, 0, by decide +kernel⟩

theorem witness_LoopCommandsAreQueuedAndCarriedOut :
    (∃ (s : State) (c : CoreId),
      s.ready c = true) ∧
    (∃ (s : State) (c : CoreId) (a : W64) (d : GReg) (l : List LxCmd),
      (s.core c.val).lxq = .read a d :: l ∧ s.lxTurn = some c.val ∧ d ≠ 0 ∧ 0x20000000 ≤ a.toNat ∧ a.toNat ≤ 0x200FFFFF ∧ s.isolated 0x040 = false) :=
  ⟨⟨m1, 0, by decide +kernel⟩,
   ⟨lx, 0, 0x20000010, 3, [.fix 0x20000010 1], by decide +kernel⟩⟩

theorem witness_CoreWatchdogAndBudgetExpire :
    (∃ (s : State) (c : CoreId),
      s.excActive c.val = true ∧ s.cwdgStage c.val = some 0) ∧
    (∃ (s : State) (c : CoreId),
      s.excActive c.val = true ∧ s.cwdgStage c.val = some 1) ∧
    (∃ (s : State) (c : CoreId),
      let k  := coreKey c.val
      s.excActive c.val = true ∧ s.coreRuns c.val = true ∧ s.reg (k 0x140) ≠ 0) :=
  ⟨⟨w1, 0, by decide +kernel⟩,
   ⟨w2, 0, by decide +kernel⟩,
   ⟨w1, 0, by decide +kernel⟩⟩

end S3

namespace S3b

def m0 := withG ready0 [(1, 0x3FF0000000000001, 0), (2, 0x3, 0x40), (3, 0xFFFFFFFFFFFFFFFF, 0xC1), (4, 0x20000010, 0x86), (5, 0x20000801, 0), (28, 0x100000100, 0x10), (29, 0x100000010, 0), (30, 0x200000400, 0), (31, 0x200000800, 0x41)]
def m1 := ((withTpm m0 [(0, 0x1122334455667788, 0x81), (1, 0xFFFFFFFFFFFFFFF0, 0x48), (2, 50000, 0x40), (0x20, 0x3FF8000000000000, 0), (0x21, 0x4008000000000000, 0), (0x22, 1, 0), (0x23, 0x13, 0), (0x24, 1, 0), (0x25, 3, 0x82)]).setPm 0x100 8 0x8899AABBCCDDEEFF).setReg (coreKey 0 0x114) 0x00001230

theorem witness_PrimitivesUpdateTheirBlock :
    (∃ (s : State) (c : CoreId) (ra : GReg),
      let a  := s.greg c.val ra.val
      s.ready c = true ∧ s.levelP c.val = true ∧ tagQ a.tag < 2 ∧ a.data.getLsbD 2 = false ∧ a.data.getLsbD 3 = false) ∧
    (∃ (s : State) (c : CoreId) (ra : GReg) (n : BitVec 14),
      let a  := s.greg c.val ra.val
      let ib  := (s.greg c.val 28).data
      let tb  := (s.greg c.val 29).data
      let w  := (ib.toNat - 0x100000000) / 8 + n.toNat
      let x  := fun i => s.tpmAt (w + i)
      let tt  := s.tpmAt ((tb.toNat - 0x100000000) / 8)
      let r : W64 × Nat × Bool × Bool := if 2 ≤ tagQ a.tag ∨ dNan a.data = true then ((x 0).data, 0, false, false)
        else if (x 4).data.getLsbD 0 = false then (a.data, 0, false, false)
        else rampStep a.data (x 0).data (x 1).data (x 2).data (tt.data.toNat - (x 3).data.toNat)
      s.ready c = true ∧ s.levelP c.val = true ∧ ib.toNat % 8 = 0 ∧ 0x100000000 ≤ ib.toNat ∧ w + 5 ≤ 8388608 ∧ (∀ j < 5, sget (dflt 0) s.mem.tpmErr (w + j) = 0) ∧ tb.toNat % 8 = 0 ∧ 0x100000000 ≤ tb.toNat ∧ tb.toNat ≤ 0x103FFFFFF ∧ sget (dflt 0) s.mem.tpmErr ((tb.toNat - 0x100000000) / 8) = 0 ∧ s.tagBad c [a.tag] = none ∧ r.2.1 &&& s.fld (coreKey c.val 0x12C) 0 5 = 0) :=
  ⟨⟨m1, 0, 1, by decide +kernel⟩,
   ⟨m1, 0, 1, 0, by decide +kernel⟩⟩

end S3b

namespace S4

def b0 := (domsOn ready0).setReg Reg.DBG_DLEVEL 3
def lostA (s : State) : State := { s with pwr := { s.pwr with feedA := { s.pwr.feedA with tripped := true }, feedB := { s.pwr.feedB with tripped := true } } }
def s1 := lostA b0
def s3 := b0.setFlag Reg.PWR_SUP_STAT 8 true
def u := unlock (unlock b0 3) 2
def d0 := (b0.setDomState 3 0).setReg Reg.PWR_BUDGET 0x118
def d1 := (b0.setDomState 3 0).setReg Reg.PWR_BUDGET 0x10
def d2 := ((b0.setDomState 3 1).setDomState 4 3)
def d3 := ((b0.setDomState 30 0).setReg Reg.PWR_BUDGET 0x118)
def d4 : State := { b0 with pwr := { b0.pwr with fieldReq := [(30, 1)] } }
def offA : State := (b0.setFlag Reg.TWIN_SYNC 27 true).setFld Reg.CLAIM_OWN 14 2 3
def offB := (b0.setDomState 3 3)

theorem witness_FeedsAndBrownOut :
    (∃ (s : State) (f : Feed),
      (s.feed f).clamped = false) ∧
    (∃ (s : State) (f : Feed),
      (s.feed f).tripped = false) ∧
    (∃ (s : State),
      s.pwr.hold.lost = false) ∧
    (∃ (s : State),
      s.bothLost = true ∧ s.flag Reg.PWR_SUP_STAT 8 = false) ∧
    (∃ (s : State) (f : Feed),
      s.flag Reg.PWR_SUP_STAT 8 = true ∧ (s.feed f).lost = false) :=
  ⟨⟨b0, .lsA, by decide +kernel⟩,
   ⟨b0, .lsA, by decide +kernel⟩,
   ⟨b0, by decide +kernel⟩,
   ⟨s1, by decide +kernel⟩,
   ⟨s3, .lsA, by decide +kernel⟩⟩

theorem witness_PowerDomainsSwitch :
    (∃ (s : State) (w : Writer) (page : Nat),
      let d  := pageDomain page
      let budget  := s.fld Reg.PWR_BUDGET 0 12
      let fits  := budget != 0 && (s.charged d || decide (s.loadEst + domainFigure d ≤ budget))
      s.admits w page Reg.PWR_REQ = true ∧ fieldDomain d = false ∧ [0, 1, 20, 21, 79].contains d = false ∧ s.domState d = 0 ∧ fits = true) ∧
    (∃ (s : State) (w : Writer) (page : Nat),
      let d  := pageDomain page
      let budget  := s.fld Reg.PWR_BUDGET 0 12
      let fits  := budget != 0 && (s.charged d || decide (s.loadEst + domainFigure d ≤ budget))
      s.admits w page Reg.PWR_REQ = true ∧ fieldDomain d = false ∧ [0, 1, 20, 21, 79].contains d = false ∧ s.domState d = 0 ∧ fits = false) ∧
    (∃ (s : State) (w : Writer) (page : Nat),
      let d  := pageDomain page
      let budget  := s.fld Reg.PWR_BUDGET 0 12
      let fits  := budget != 0 && (s.charged d || decide (s.loadEst + domainFigure d ≤ budget))
      s.admits w page Reg.PWR_REQ = true ∧ fieldDomain d = false ∧ [0, 1, 20, 21, 79].contains d = false ∧ s.domState d = 3 ∧ fits = true) ∧
    (∃ (s : State) (w : Writer) (page : Nat),
      let d  := pageDomain page
      s.admits w page Reg.PWR_REQ = true ∧ fieldDomain d = false ∧ [0, 1, 20, 21, 79].contains d = false ∧ s.domState d = 2 ∧ s.offDenied w.master d = 0) ∧
    (∃ (s : State) (w : Writer) (page : Nat),
      let d  := pageDomain page
      s.admits w page Reg.PWR_REQ = true ∧ fieldDomain d = true ∧ s.domainWaits w.master page = true) ∧
    (∃ (s : State) (w : Writer) (page : Nat),
      let d  := pageDomain page
      let budget  := s.fld Reg.PWR_BUDGET 0 12
      let fits  := budget != 0 && (s.charged d || decide (s.loadEst + domainFigure d ≤ budget))
      s.admits w page Reg.PWR_REQ = true ∧ fieldDomain d = true ∧ s.domainWaits w.master page = false ∧ s.domState d ≠ 2 ∧ fits = true) ∧
    (∃ (s : State) (w : Writer) (page : Nat),
      let d  := pageDomain page
      s.admits w page Reg.PWR_REQ = true ∧ fieldDomain d = true ∧ s.domainWaits w.master page = false ∧ s.domState d ≠ 0) ∧
    (∃ (s : State) (domain : Fin 80),
      fieldDomain domain.val = false ∧ [0, 1, 20, 21, 79].contains domain.val = false ∧ sget (dflt 0) s.pwr.held domain.val = 0 ∧ s.domState domain.val = 3) ∧
    (∃ (s : State) (domain : Fin 80),
      fieldDomain domain.val = false ∧ [0, 1, 20, 21, 79].contains domain.val = false ∧ sget (dflt 0) s.pwr.held domain.val = 0 ∧ s.domState domain.val = 1) ∧
    (∃ (s : State) (domain : Fin 80),
      fieldDomain domain.val = true ∧ sget (dflt 0) s.pwr.fieldReq domain.val ≠ 0) ∧
    (∃ (s : State) (w : Writer),
      s.admits w 0x003 0x118 = true ∧ s.locked 0x003 = false) :=
  ⟨⟨d0, { master := .core 0, tag := 0 }, 0x11, by decide +kernel⟩,
   ⟨d1, { master := .core 0, tag := 0 }, 0x11, by decide +kernel⟩,
   ⟨offB, { master := .core 0, tag := 0 }, 0x11, by decide +kernel⟩,
   ⟨b0, { master := .core 0, tag := 0 }, 0x11, by decide +kernel⟩,
   ⟨offA, { master := .core 0, tag := 0 }, 0x80, by decide +kernel⟩,
   ⟨d3, { master := .core 0, tag := 0 }, 0x86, by decide +kernel⟩,
   ⟨b0, { master := .core 0, tag := 0 }, 0x80, by decide +kernel⟩,
   ⟨offB, 3, by decide +kernel⟩,
   ⟨d2, 3, by decide +kernel⟩,
   ⟨d4, 30, by decide +kernel⟩,
   ⟨u, { master := .core 0, tag := 0 }, by decide +kernel⟩⟩

end S4

namespace S5

def b0 := ((domsOn ready0).setReg Reg.DBG_DLEVEL 3)
def s1 := (b0.setFlag Reg.PWR_SUP_STAT 8 true).setFlag Reg.RST_WDG_CTRL 16 true
def s2 : State := { b0 with rst := { b0.rst with badWindow := true } }
def s3 : State := { b0 with rst := { b0.rst with phase := .asserted, causes := [] } }
def s5 : State := { b0 with rst := { b0.rst with phase := .waitPll } }
def s5g : State := { s5 with rst := { s5.rst with goodWindows := 10 } }
def s6 : State := { b0 with rst := { b0.rst with phase := .sysReleased } }
def u := unlock (b0.setReg Reg.RST_WDG_CTRL 0x64) 2
def k0 : State := { b0 with rst := { b0.rst with kickOpen := some 0, sinceKick := 5 } }
def kz := (b0.setReg Reg.RST_WDG_CTRL 0x00010064).setReg Reg.RST_WDG_STAT 0
def k00 := k0.setReg Reg.RST_WDG_CTRL 0x00000064
def k2 := (k0.setReg Reg.RST_WDG_CTRL 0x00010064).setReg Reg.RST_WDG_WIN 30
def u1 := (unlock (b0.setReg Reg.RST_WDG_CTRL 0x00010064) 2).setReg Reg.DBG_DLEVEL 1
def c2 := ((b0.setCore 1 { inReset := true }).setFlag (coreKey 1 Reg.CTRL) 1 true).setFlag (coreKey 1 Reg.CTRL) 0 true
def c3 := ((b0.setFlag (rk 0x40 Reg.CTRL) 1 true).setFlag (rk 0x40 Reg.CTRL) 0 true)

theorem witness_ResetsAreAssertedAndReleased :
    (∃ (s : State),
      s.flag Reg.PWR_SUP_STAT 8 = true) ∧
    (∃ (s : State),
      s.rst.causes.contains 2 = false ∧ s.unpowered = false) ∧
    (∃ (s : State),
      s.watchdogOn = true ∧ s.fld Reg.DBG_RUNCTL 0 4 = 0 ∧ s.fld Reg.RST_WDG_STAT 16 16 = 0) ∧
    (∃ (s : State) (w : Writer) (v : W32),
      s.admits w 0x002 0x110 = true ∧ keyed v 0x5253 = true ∧ v.getLsbD 0 = true) ∧
    (∃ (s : State) (w : Writer) (v : W32),
      s.admits w 0x007 0x10C = true ∧ keyed v 0x4452 = true ∧ fieldOf v 0 3 = 7 ∧ 2 ≤ s.debugLevel) ∧
    (∃ (s : State) (edges : BitVec 12),
      (s.rst.phase ≠ .asserted ∨ s.rst.causes.contains 6 = false) ∧ (edges.toNat < 2300 ∨ 2710 < edges.toNat) ∧ s.rst.badWindow = true) ∧
    (∃ (s : State) (edges : BitVec 12),
      s.rst.phase = .running ∧ 2300 ≤ edges.toNat ∧ edges.toNat ≤ 2710) ∧
    (∃ (s : State) (edges : BitVec 12),
      (s.rst.phase = .waitPll ∨ s.rst.phase = .asserted) ∧ 2300 ≤ edges.toNat ∧ edges.toNat ≤ 2710) ∧
    (∃ (s : State) (edges : BitVec 12),
      s.rst.phase = .running ∧ (edges.toNat < 2300 ∨ 2710 < edges.toNat) ∧ s.rst.badWindow = false) ∧
    (∃ (s : State) (f : Feed),
      (s.feed f).lost = false) ∧
    (∃ (s : State),
      s.rst.phase = .asserted ∧ s.rst.causes = [] ∧ s.rst.cfStay = false ∧ s.unpowered = false) ∧
    (∃ (s : State),
      s.rst.phase = .waitPll ∧ s.rst.goodWindows = 10) ∧
    (∃ (s : State),
      s.rst.phase = .sysReleased) :=
  ⟨⟨s1, by decide +kernel⟩,
   ⟨b0, by decide +kernel⟩,
   ⟨kz, by decide +kernel⟩,
   ⟨b0, { master := .core 0, tag := 0 }, 0x52530001, by decide +kernel⟩,
   ⟨b0, { master := .core 0, tag := 0 }, 0x44520007, by decide +kernel⟩,
   ⟨s2, 2299, by decide +kernel⟩,
   ⟨b0, 2300, by decide +kernel⟩,
   ⟨s3, 2300, by decide +kernel⟩,
   ⟨b0, 2299, by decide +kernel⟩,
   ⟨b0, .lsA, by decide +kernel⟩,
   ⟨s3, by decide +kernel⟩,
   ⟨s5g, by decide +kernel⟩,
   ⟨s6, by decide +kernel⟩⟩

theorem witness_WatchdogCoreAndBlockResets :
    (∃ (s : State) (w : Writer),
      s.admits w 0x002 0x128 = true ∧ s.rst.kickOpen.isSome = true ∧ s.flag Reg.RST_WDG_CTRL 16 = true ∧ s.fld Reg.RST_WDG_WIN 0 16 ≤ s.rst.sinceKick) ∧
    (∃ (s : State) (w : Writer),
      s.admits w 0x002 0x128 = true ∧ s.rst.kickOpen.isSome = true ∧ s.flag Reg.RST_WDG_CTRL 16 = true ∧ s.rst.sinceKick < s.fld Reg.RST_WDG_WIN 0 16) ∧
    (∃ (s : State) (w : Writer),
      s.admits w 0x002 0x128 = true ∧ s.rst.kickOpen.isSome = true ∧ s.flag Reg.RST_WDG_CTRL 16 = false) ∧
    (∃ (s : State) (w : Writer) (inWindow : Bool) (value : W32),
      s.admits w 0x002 0x128 = true ∧ value ≠ 0x0000A5C3 ∧ (value ≠ 0x00003C5A ∨ s.rst.kickOpen = none ∨ inWindow = false)) ∧
    (∃ (s : State) (w : Writer) (value : W32),
      s.admits w 0x002 0x120 = true ∧ s.locked 0x002 = false ∧ s.flag Reg.RST_WDG_CTRL 16 = false ∧ value.getLsbD 16 = true) ∧
    (∃ (s : State) (w : Writer) (value : W32),
      let wdg  := s.fld Reg.RST_WDG_CTRL 0 16
      s.admits w 0x002 0x120 = true ∧ s.locked 0x002 = false ∧ s.flag Reg.RST_WDG_CTRL 16 = true ∧ s.debugLevel < 2 ∧ wdg ≠ 0 ∧ fieldOf value 0 16 = wdg) ∧
    (∃ (s : State) (w : Writer) (c : Fin 4),
      s.admits w (ecorePage c.val) Reg.CTRL = true ∧ (s.core c.val).inReset = false ∧ (∀ k : CoreId, w.master = .core k → k ≠ c) ∧ [Master.dmaA, .dmaB, .proof].contains w.master = false) ∧
    (∃ (s : State) (c : Fin 4),
      (s.core c.val).inReset = true ∧ s.flag (coreKey c.val Reg.CTRL) 0 = true) ∧
    (∃ (s : State) (w : Writer) (page : Nat),
      s.admits w page Reg.CTRL = true ∧ s.blockResetDenied page = false ∧ (page < 0x010 ∨ 0x013 < page) ∧ s.flag (rk page Reg.CTRL) 1 = false) ∧
    (∃ (s : State) (page : Nat),
      (pageInfo page).isSome = true ∧ (page < 0x010 ∨ 0x013 < page) ∧ s.flag (rk page Reg.CTRL) 1 = true) ∧
    (∃ (s : State) (w : Writer) (page : Nat) (value : W32),
      s.admits w 0x002 0x114 = true ∧ keyed value 0x4652 = true ∧ fieldOf value 0 10 = page ∧ (pageInfo page).isSome = true ∧ s.blockResetDenied page = false ∧ (page < 0x010 ∨ 0x013 < page) ∧ s.domState (pageDomain page) = 2) :=
  ⟨⟨k0, { master := .core 0, tag := 0 }, by decide +kernel⟩,
   ⟨k2, { master := .core 0, tag := 0 }, by decide +kernel⟩,
   ⟨k00, { master := .core 0, tag := 0 }, by decide +kernel⟩,
   ⟨b0, { master := .core 0, tag := 0 }, false, 0, by decide +kernel⟩,
   ⟨u, { master := .core 0, tag := 0 }, 0x52530001, by decide +kernel⟩,
   ⟨u1, { master := .core 0, tag := 0 }, 0x00010064, by decide +kernel⟩,
   ⟨b0, { master := .core 0, tag := 0 }, 1, by decide +kernel⟩,
   ⟨c2, 1, by decide +kernel⟩,
   ⟨b0, { master := .core 0, tag := 0 }, 0x40, by decide +kernel⟩,
   ⟨c3, 0x40, by decide +kernel⟩,
   ⟨b0, { master := .core 0, tag := 0 }, 0x40, 0x46520040, by decide +kernel⟩⟩

end S5

namespace S6a


theorem witness_RegisterWritesPassTheGate :
    (∃ (s : State) (w : Writer) (page : Nat) (off : Nat),
      (page < 0x010 ∨ 0x013 < page) ∧ s.gate w.master page off ≠ .okay) ∧
    (∃ (s : State) (w : Writer) (page : Nat) (off : Nat),
      (page < 0x010 ∨ 0x013 < page) ∧ s.gate w.master page off = .okay ∧ s.tagRefused page off (writeTag w) = true) ∧
    (∃ (s : State) (w : Writer) (page : Nat),
      (page < 0x010 ∨ 0x013 < page) ∧ s.admits w page Reg.IRQ_EN = true) ∧
    (∃ (s : State) (w : Writer) (page : Nat),
      (page < 0x010 ∨ 0x013 < page) ∧ s.admits w page Reg.IRQ_PEND = true) :=
  ⟨⟨ready0, { master := .core 0, tag := 0 }, 0, 2, by decide +kernel⟩,
   ⟨ready0, { master := .core 1, tag := 0xFF }, 0, 0x108, by decide +kernel⟩,
   ⟨ready0, { master := .core 0, tag := 0 }, 0, by decide +kernel⟩,
   ⟨ready0, { master := .core 0, tag := 0 }, 0, by decide +kernel⟩⟩

end S6a

namespace S6b

def b0 := ((domsOn ready0).setReg Reg.DBG_DLEVEL 3)
def armed (s : State) (p : Nat) : State := s.setLock p 1 (some { master := 0, tag := 0 })
def s1 := armed (armed b0 0x40) 0
def s2 := unlock (unlock (unlock b0 0x40) 0x10) 0x80

theorem witness_LocksArmUnlockAndRelock :
    (∃ (s : State) (w : Writer) (page : Nat),
      let st  := fun (t : State) => t.fld (rk page Reg.LOCK) 0 2
      s.admits w page Reg.LOCK = true ∧ st s = 0) ∧
    (∃ (s : State) (w : Writer) (page : Nat),
      let st  := fun (t : State) => t.fld (rk page Reg.LOCK) 0 2
      s.admits w page Reg.LOCK = true ∧ st s = 1 ∧ (sget (dflt none) s.carrier.armed page).map (·.master) = some w.master.num) ∧
    (∃ (s : State) (w : Writer) (page : Nat) (value : W32),
      let st  := fun (t : State) => t.fld (rk page Reg.LOCK) 0 2
      s.admits w page Reg.LOCK = true ∧ st s = 1 ∧ value ≠ 0x0000ED0C) ∧
    (∃ (s : State) (w : Writer) (page : Nat),
      let st  := fun (t : State) => t.fld (rk page Reg.LOCK) 0 2
      s.admits w page Reg.LOCK = true ∧ st s = 2) ∧
    (∃ (s : State) (page : Nat),
      (sget (dflt none) s.carrier.armed page).isSome = true) ∧
    (∃ (s : State) (w : Writer) (value : W32),
      s.admits w 0x000 0x308 = true ∧ s.locked 0x000 = true ∧ fieldOf value 0 8 ≤ 4 ∧ fieldOf (value ^^^ s.reg Reg.SYS_EVLOG_CTRL) 0 8 ≠ 0) :=
  ⟨⟨ready0, { master := .core 0, tag := 0 }, 0, by decide +kernel⟩,
   ⟨s1, { master := .core 0, tag := 0 }, 0, by decide +kernel⟩,
   ⟨s1, { master := .core 0, tag := 0 }, 0, 0, by decide +kernel⟩,
   ⟨s2, { master := .core 0, tag := 0 }, 0x40, by decide +kernel⟩,
   ⟨s1, 0, by decide +kernel⟩,
   ⟨ready0, { master := .core 0, tag := 0 }, 1, by decide +kernel⟩⟩

theorem witness_CommonRegistersAct :
    (∃ (s : State) (w : Writer) (page : Nat) (value : W32),
      s.admits w page Reg.CTRL = true ∧ (alwaysOn page = false ∨ page = 0x0D1 ∨ value.getLsbD 0 = true) ∧ value.getLsbD 1 = false ∧ pageBlock page ≠ 0xE0) ∧
    (∃ (s : State) (w : Writer) (page : Nat) (value : W32),
      s.admits w page Reg.CTRL = true ∧ value.getLsbD 1 = false ∧ value.getLsbD 0 = s.flag (rk page Reg.CTRL) 0 ∧ value.getLsbD 2 = true ∧ s.flag (rk page Reg.CTRL) 2 = false) ∧
    (∃ (s : State) (w : Writer) (page : Nat) (value : W32),
      s.admits w page Reg.FAULT_CAUSE = true ∧ value.getLsbD 31 = true) ∧
    (∃ (s : State) (w : Writer) (c : CoreId),
      s.admits w (ecorePage c.val) 0x134 = true ∧ w.master = .core c) ∧
    (∃ (s : State) (w : Writer) (c : CoreId) (value : W32),
      let k  := coreKey c.val
      s.admits w (ecorePage c.val) 0x130 = true ∧ s.locked (ecorePage c.val) = false ∧ s.flag (k 0x130) 16 = false ∧ value.getLsbD 16 = true) ∧
    (∃ (s : State) (w : Writer) (c : CoreId) (value : W32),
      s.admits w (ecorePage c.val) 0x150 = true ∧ value.getLsbD 0 = true) ∧
    (∃ (s : State) (w : Writer) (c : CoreId) (value : W32),
      s.admits w (ecorePage c.val) 0x100 = true ∧ value.getLsbD 3 = true ∧ (s.core c.val).wdogPend = false ∧ (s.core c.val).overrunPend = false) :=
  ⟨⟨ready0, { master := .core 0, tag := 0 }, 0, 1, by decide +kernel⟩,
   ⟨ready0, { master := .core 0, tag := 0 }, 0, 5, by decide +kernel⟩,
   ⟨ready0, { master := .core 0, tag := 0 }, 0, 0x80000000, by decide +kernel⟩,
   ⟨ready0, { master := .core 0, tag := 0 }, 0, by decide +kernel⟩,
   ⟨s2, { master := .core 0, tag := 0 }, 0, 0x00010000, by decide +kernel⟩,
   ⟨ready0, { master := .core 0, tag := 0 }, 0, 1, by decide +kernel⟩,
   ⟨ready0, { master := .core 0, tag := 0 }, 0, 0xED0C, by decide +kernel⟩⟩

end S6b

namespace S33

def b0 := (domsOn ready0)
def burst (kind k place : Nat) : List Byte := sealBurst ((((List.replicate 44 (0 : Byte)).set 0 0xBC).set 1 (BitVec.ofNat 8 (16 + kind))).set place (BitVec.ofNat 8 k))
def good0 := burst 1 0 11
def bad0 := good0.set 20 7
def rep52 := burst 2 52 42
def repBad := rep52.set 20 7
def val52 := burst 3 52 2
def lk (s : State) (k : Nat) (f : LinkEnd → LinkEnd) : State := setG s k fun g => { g with link := f g.link }
def onWire := lk b0 0 fun l => { l with wire0 := some good0 }
def onWireBad := lk b0 0 fun l => { l with wire0 := some bad0 }
def onRelay := lk (setG b0 0 fun g => { g with tied := true }) 0 fun l => { l with relay := some good0 }
def actB := sealBurst ((((List.replicate 44 (0 : Byte)).set 0 0xBC).set 1 0x11).set 3 0xC0)
def held1 := setG b0 0 fun g => { g with rx0 := some actB, own := { g.own with adm := true, last := 65535 } }
def rep1 := lk (en b0 0xB4) 52 fun l => { l with wireRep := some rep52 }
def rep2 := lk (en b0 0xB4) 52 fun l => { l with wireRep := some repBad }
def val1 := lk (en b0 0xB4) 52 fun l => { l with wireVal := some val52, rep := some (0, 1000) }
def val2 := lk (en b0 0xB4) 52 fun l => { l with wireVal := some val52 }
def composes := lk (role (en b0 0x80) 2 3) 0 fun l => { l with composed := some good0 }
def recGood : List Byte := let r := (List.replicate 30 (0 : Byte)).set 0 1; r ++ [(crc16 r).extractLsb' 8 8, (crc16 r).extractLsb' 0 8]
def tied1 := setG b0 0 fun g => { g with tied := true, released := false }
def dom1 := setG b0 0 fun g => { g with dom := 1 }
def dom3 := setG b0 0 fun g => { g with dom := 3 }
def begun := setG b0 0 fun g => { g with started := true }
def looped := setG begun 0 fun g => { g with loopback := 3 }
def link1 := lk (en b0 0x80) 0 fun l => { l with rxOk := true }
def offAll := (List.range 30).foldl (fun s d => s.setDomState d 0) run0
def lfb : State := { (b0.setDomState 6 0).setDomState 23 0 with boot := { b0.boot with image := none } }

theorem witness_CarrierPinsAreFollowed :
    (∃ (rec : List Byte),
      recordOk rec = true) ∧
    (∃ (rec : List Byte),
      recordOk rec = false) ∧
    (∃ (s : State) (side : BitVec 2),
      s.fld Reg.SYS_CT_IN0 0 2 ≠ side.toNat) ∧
    (∃ (s : State),
      s.rst.phase = .running ∧ s.flag Reg.SYS_CT_ID 4 = true) ∧
    (∃ (s : State) (seated : Bool),
      s.flag Reg.SYS_CT_ID 5 ≠ seated) ∧
    (∃ (period : Nat) (high : Nat),
      800 ≤ period ∧ period ≤ 1200 ∧ (650 ≤ high ∧ high ≤ 850 ∨ 150 ≤ high ∧ high ≤ 350)) :=
  ⟨⟨recGood, by decide +kernel⟩,
   ⟨good0, by decide +kernel⟩,
   ⟨lfb.setReg (rk 0 Reg.IRQ_EN) 0xFFFFFFFF, 1, by decide +kernel⟩,
   ⟨lfb.setReg (rk 0 Reg.IRQ_EN) 0xFFFFFFFF, by decide +kernel⟩,
   ⟨lfb.setReg (rk 0 Reg.IRQ_EN) 0xFFFFFFFF, true, by decide +kernel⟩,
   ⟨1000, 0xB4, by decide +kernel⟩⟩

theorem witness_MemoryErrorsAreTreated :
    (∃ (s : State) (word : BitVec 23),
      let w  := word.toNat
      s.fld Reg.TPMC_SCRUB 0 16 ≠ 0 ∧ sget (dflt 0) s.mem.tpmErr w = 0) ∧
    (∃ (s : State) (unit : BitVec 27),
      let u  := unit.toNat
      s.fld Reg.PMC_SCRUB 0 16 ≠ 0 ∧ sget (dflt 0) s.mem.pmErr u = 0) ∧
    (∃ (s : State) (wr : Writer),
      s.admits wr 0x020 0x11C = true) :=
  ⟨⟨lfb.setReg (rk 0 Reg.IRQ_EN) 0xFFFFFFFF, 77, by decide +kernel⟩,
   ⟨lfb.setReg (rk 0 Reg.IRQ_EN) 0xFFFFFFFF, 77, by decide +kernel⟩,
   ⟨lfb.setReg (rk 0 Reg.IRQ_EN) 0xFFFFFFFF, { master := .core 0, tag := 0 }, by decide +kernel⟩⟩

theorem witness_FieldGroupControllersObeyAndReport :
    (∃ (s : State) (group : Fin 57) (b : List Byte),
      let k  := group.val
      let g  := s.grp k
      grpKind k ≠ 0 ∧ g.held = false ∧ g.loopback = 0 ∧ g.link.wire0 = some b ∧ burstOk b 1 k 11 = true) ∧
    (∃ (s : State) (group : Fin 57) (b : List Byte),
      let k  := group.val
      let g  := s.grp k
      grpKind k ≠ 0 ∧ g.held = false ∧ g.loopback = 0 ∧ g.link.wire0 = some b ∧ burstOk b 1 k 11 = false) ∧
    (∃ (s : State) (group : Fin 57) (b : List Byte),
      let k  := group.val
      let g  := s.grp k
      grpKind k ≠ 0 ∧ g.held = false ∧ g.loopback = 0 ∧ g.tied = true ∧ g.link.relay = some b ∧ burstOk b 1 k 11 = true) ∧
    (∃ (s : State) (group : Fin 57),
      let k  := group.val
      let g  := s.grp k
      grpKind k ≠ 0 ∧ g.held = false ∧ g.rx0 = none ∧ g.rx1 = none) ∧
    (∃ (s : State) (group : Fin 57) (st : Nat) (b : List Byte),
      let k  := group.val
      let g  := s.grp k
      grpKind k ≠ 0 ∧ g.held = false ∧ (g.admitted k).obeyedBurst = some (st, b)) ∧
    (∃ (s : State) (group : Fin 57),
      let k  := group.val
      let g  := s.grp k
      grpKind k ≠ 0 ∧ g.held = false ∧ g.safe = false) ∧
    (∃ (s : State) (group : Fin 57),
      let k  := group.val
      let g  := s.grp k
      grpKind k ≠ 0 ∧ g.held = false ∧ g.released = false ∧ g.tied = true) ∧
    (∃ (s : State) (group : Fin 57),
      let k  := group.val
      let g  := s.grp k
      grpKind k ≠ 0 ∧ g.held = false ∧ g.dom = 1) ∧
    (∃ (s : State) (group : Fin 57),
      let k  := group.val
      let g  := s.grp k
      grpKind k ≠ 0 ∧ g.held = false ∧ g.dom = 3) ∧
    (∃ (group : Fin 57) (n : Fin 32),
      let k  := group.val
      grpKind k ≠ 0 ∧ k = n.val) ∧
    (∃ (s : State) (group : Fin 57),
      let k  := group.val
      let g  := s.grp k
      grpKind k ≠ 0 ∧ g.held = false ∧ g.started = true ∧ g.loopback = 0) ∧
    (∃ (s : State) (group : Fin 57),
      let k  := group.val
      let g  := s.grp k
      grpKind k ≠ 0 ∧ g.held = false ∧ g.started = true ∧ g.loopback ≠ 0) :=
  ⟨⟨onWire, 0, good0, by decide +kernel⟩,
   ⟨onWireBad, 0, bad0, by decide +kernel⟩,
   ⟨onRelay, 0, good0, by decide +kernel⟩,
   ⟨lfb.setReg (rk 0 Reg.IRQ_EN) 0xFFFFFFFF, 0, by decide +kernel⟩,
   ⟨held1, 0, 1, actB, by decide +kernel⟩,
   ⟨lfb.setReg (rk 0 Reg.IRQ_EN) 0xFFFFFFFF, 0, by decide +kernel⟩,
   ⟨tied1, 0, by decide +kernel⟩,
   ⟨dom1, 0, by decide +kernel⟩,
   ⟨dom3, 0, by decide +kernel⟩,
   ⟨0, 0, by decide +kernel⟩,
   ⟨begun, 0, by decide +kernel⟩,
   ⟨looped, 0, by decide +kernel⟩⟩

theorem witness_LinkEndsTakeReportsAndCommands :
    (∃ (s : State) (group : Fin 57) (b : List Byte),
      let k  := group.val
      let l  := (s.grp k).link
      grpKind k ≠ 0 ∧ s.linkOn k = true ∧ l.wireRep = some b ∧ burstOk b 2 k 42 = true) ∧
    (∃ (s : State) (group : Fin 57) (b : List Byte),
      let k  := group.val
      let l  := (s.grp k).link
      grpKind k ≠ 0 ∧ s.linkOn k = true ∧ l.wireRep = some b ∧ burstOk b 2 k 42 = false) ∧
    (∃ (s : State) (group : Fin 57),
      let k  := group.val
      let l  := (s.grp k).link
      grpKind k ≠ 0 ∧ s.linkOn k = true ∧ l.timedOut = false ∧ (l.rxOk = true ∨ l.shown = true)) ∧
    (∃ (s : State) (group : Fin 57) (b : List Byte) (at_ : W64),
      let k  := group.val
      let l  := (s.grp k).link
      grpKind k ≠ 0 ∧ s.linkOn k = true ∧ (grpKind k = 0xA0 ∨ grpKind k = 0xB4) ∧ l.wireVal = some b ∧ l.rep = some (bAt b 3, at_) ∧ burstOk b 3 k 2 = true) ∧
    (∃ (s : State) (group : Fin 57) (b : List Byte),
      let k  := group.val
      let l  := (s.grp k).link
      grpKind k ≠ 0 ∧ s.linkOn k = true ∧ (grpKind k = 0xA0 ∨ grpKind k = 0xB4) ∧ l.wireVal = some b ∧ l.rep = none) ∧
    (∃ (s : State) (w : Writer) (page : Nat) (value : W32),
      (pageBlock page = 0x80 ∨ pageBlock page = 0xB8) ∧ s.admits w page 0x114 = true ∧ fieldOf value 0 16 ≠ 0) ∧
    (∃ (s : State) (w : Writer) (page : Nat),
      pageBlock page = 0xB4 ∧ s.admits w page 0x114 = true) ∧
    (∃ (s : State) (w : Writer) (page : Nat),
      pageBlock page = 0xB4 ∧ s.admits w page 0x12C = true) ∧
    (∃ (s : State) (w : Writer) (page : Nat) (c : Fin 16),
      pageBlock page = 0xB4 ∧ s.admits w page (0x204 + 8 * c.val) = true) :=
  ⟨⟨rep1, 52, rep52, by decide +kernel⟩,
   ⟨rep2, 52, repBad, by decide +kernel⟩,
   ⟨link1, 0, by decide +kernel⟩,
   ⟨val1, 52, val52, 1000, by decide +kernel⟩,
   ⟨val2, 52, val52, by decide +kernel⟩,
   ⟨lfb.setReg (rk 0 Reg.IRQ_EN) 0xFFFFFFFF, { master := .core 0, tag := 0 }, 0x80, 0x81, by decide +kernel⟩,
   ⟨lfb.setReg (rk 0 Reg.IRQ_EN) 0xFFFFFFFF, { master := .core 0, tag := 0 }, 0xB4, by decide +kernel⟩,
   ⟨lfb.setReg (rk 0 Reg.IRQ_EN) 0xFFFFFFFF, { master := .core 0, tag := 0 }, 0xB4, by decide +kernel⟩,
   ⟨lfb.setReg (rk 0 Reg.IRQ_EN) 0xFFFFFFFF, { master := .core 0, tag := 0 }, 0xB4, 1, by decide +kernel⟩⟩

theorem witness_FramesAndPeriodsBegin :
    (∃ (s : State),
      s.sysRuns = true ∧ s.boot.image = none ∧ s.boot.running = false ∧ s.boot.starting = false ∧ s.boot.shut = .none ∧ s.pair.mirrored = [] ∧ s.pair.mirroredTpm = [] ∧ s.pair.domReq = [] ∧ s.twinSync = false ∧ s.role ≠ 4 ∧ s.loop.own = [] ∧ s.domState 6 ≠ 2 ∧ (∀ n < 8, s.testState n ≠ 1) ∧ s.isolated 0x0D2 = true) ∧
    (∃ (s : State) (k : Fin 57) (b : List Byte),
      s.logicRuns = true ∧ s.pair.nextRole = none ∧ s.cap.snaps = [] ∧ s.proof.busy = none ∧ (∀ n < 8, s.testState n ≠ 1) ∧ grpKind k.val ≠ 0 ∧ s.linkOn k.val = true ∧ s.sendsStreams = true ∧ (s.grp k.val).link.rxOk = false ∧ (s.grp k.val).link.timedOut = false ∧ (s.grp k.val).link.missed < 5 ∧ (s.grp k.val).link.composed = some b ∧ (∀ j < 57, j ≠ k.val → s.linkOn j = false ∧ (s.grp j).link.rxOk = false ∧ (s.grp j).link.timedOut = false ∧
        (s.grp j).link.shown = false ∧ (s.grp j).link.reporting = false ∧ (s.grp j).link.relay = none ∧ (s.grp j).link.wire0 = none)) :=
  ⟨⟨offAll, by decide +kernel⟩,
   ⟨composes, 0, good0, by decide +kernel⟩⟩

theorem witness_EveryStepKeepsTheCanonicalForm :
    ∃ (s : State) (t : State),
      s.sound = true ∧ step s = .next t :=
  ⟨{ ready0 with pending := [.add 0 1 2 3] }, _, ⟨by decide +kernel, rfl⟩⟩

end S33

namespace S7


theorem witness_EventsAreLoggedAndPosted :
    (∃ (s : State) (r : LogRec) (l : List LogRec),
      s.log.queue = r :: l ∧ s.log.drops = 0) ∧
    (∃ (s : State) (w : Writer) (code : W32),
      s.admits w 0x000 0x31C = true ∧ 0x800 ≤ fieldOf code 20 12 ∧ fieldOf code 0 8 ≠ 0 ∧ s.logOpen = true) ∧
    (∃ (s : State) (m : Master),
      s.readGate m 0x000 0x400 = .okay) :=
  ⟨⟨ready0, (State.reset.log.queue.head?).getD { ots := 0, ltb := 0, data := 0, code := 0, role := 0, sev := 0 }, [], by decide +kernel⟩,
   ⟨ready0, { master := .core 0, tag := 0 }, 0x83200101, by decide +kernel⟩,
   ⟨ready0, .core 0, by decide +kernel⟩⟩

end S7

namespace S8

def b0 := domsOn ready0
def withHdr (s : State) (bank ver : Nat) : State :=
  let o := bank * 0x8000000
  ((((((s.setNor o 4 0x38535052).setNor (o+4) 2 1).setNor (o+6) 1 0).setNor (o+7) 1 ver).setNor (o+8) 4 5).setNor (o+0xC) 4 0x100000).setNor (o+0x18) 8 0x200000100
def p (s : State) (n : Nat) : State := s.setPhase n
def slots (s : State) : State := s.setReg Reg.OTP_KSTAT 1
def v0 := slots (p (withHdr b0 0 3) 1)
def v1 := slots (p (withHdr (withHdr b0 0 3) 1 4) 1)
def task0 : TaskDesc := { cls := .cyclic, core := 0, block0 := 0x100, block1 := 0x300, select := 0x500, stackTop := 0x200010000, fbList := [(0x200000100, 0x100000800)], instances := [0x600], retains := [0x601], outLen := 4 }
def ev0 : TaskDesc := { task0 with cls := .event, instances := [], retains := [], block0 := 0x800, block1 := 0xA00, select := 0xC00, outLen := 0 }
def bg0 : TaskDesc := { ev0 with cls := .background, block0 := 0x1800, block1 := 0x1A00, select := 0x1C00 }
def img : ImageDesc := { domains := [2, 6], tasks := [(0, task0), (1, ev0), (2, bg0), (3, bg0)] }
def img3 : ImageDesc := { img with domains := [2, 7] }
def img2 : ImageDesc := { tasks := [(0, task0), (5, task0)] }
def r0 := p b0 2
def w0 (s : State) : State := { p s 3 with boot := { s.boot with peerWait := true, image := some img } }
def w1 := (w0 b0).setFld Reg.SYS_CT_ID 0 2 3
def w2 := (w0 b0).setFld Reg.SYS_CT_ID 0 2 1
def w3 := (w2.setFlag Reg.SYS_CT_ID 5 true)
def x0 (k : Nat) : State := { ((p b0 4).setFld Reg.SYS_BOOT_STAT 26 2 k) with boot := { b0.boot with image := some img } }

theorem witness_StartUpGoesOnToItsRole :
    (∃ (s : State),
      s.rst.phase = .running ∧ s.phase = 0 ∧ (s.flag Reg.SEC_LCSTATE 3 = false ∨ 3 ≤ s.lifecycle)) ∧
    (∃ (s : State) (a : BankCheck) (b : BankCheck),
      let first  := if s.bankBFirst then 1 else 0
      let good  := fun k => s.lifecycle != 4 && s.bankGood k (if k = 0 then a else b)
      s.rst.phase = .running ∧ s.phase = 1 ∧ good first = true) ∧
    (∃ (s : State) (a : BankCheck) (b : BankCheck),
      let first  := if s.bankBFirst then 1 else 0
      let good  := fun k => s.lifecycle != 4 && s.bankGood k (if k = 0 then a else b)
      s.rst.phase = .running ∧ s.phase = 1 ∧ good first = false ∧ good (1 - first) = true) ∧
    (∃ (s : State) (a : BankCheck) (b : BankCheck),
      let first  := if s.bankBFirst then 1 else 0
      let good  := fun k => s.lifecycle != 4 && s.bankGood k (if k = 0 then a else b)
      s.rst.phase = .running ∧ s.phase = 1 ∧ good first = false ∧ good (1 - first) = false) ∧
    (∃ (s : State) (image : ImageDesc),
      let i  := { image with tasks := image.tasks.map fun t => (t.1, storedBudget t.2) }
      let accepted  := imageAccepted i && decide ((imageRetainWords i).length * 16 ≤ 1916 * 1024)
      s.rst.phase = .running ∧ s.phase = 2 ∧ accepted = true ∧ s.domainsReady i = true ∧ s.blocksReady i = true) ∧
    (∃ (s : State) (image : ImageDesc),
      let i  := { image with tasks := image.tasks.map fun t => (t.1, storedBudget t.2) }
      let accepted  := imageAccepted i && decide ((imageRetainWords i).length * 16 ≤ 1916 * 1024)
      s.rst.phase = .running ∧ s.phase = 2 ∧ accepted = true ∧ s.domainsReady i = true ∧ s.blocksReady i = false) ∧
    (∃ (s : State) (image : ImageDesc),
      let i  := { image with tasks := image.tasks.map fun t => (t.1, storedBudget t.2) }
      let accepted  := imageAccepted i && decide ((imageRetainWords i).length * 16 ≤ 1916 * 1024)
      s.rst.phase = .running ∧ s.phase = 2 ∧ accepted = false) ∧
    (∃ (s : State) (r : Nat),
      s.phase = 3 ∧ s.boot.peerWait = true ∧ s.roleChoice false = some r) ∧
    (∃ (s : State) (r : Nat),
      s.phase = 3 ∧ s.boot.peerWait = true ∧ s.roleChoice false = none ∧ s.roleChoice true = some r) ∧
    (∃ (s : State) (i : ImageDesc),
      s.boot.image = some i ∧ s.phase = 4 ∧ (s.fld Reg.SYS_BOOT_STAT 26 2 = 1 ∨ s.fld Reg.SYS_BOOT_STAT 26 2 = 2) ∧ s.boot.running = false ∧ s.boot.starting = false) :=
  ⟨⟨b0, by decide +kernel⟩,
   ⟨v0, ⟨true, true, true⟩, ⟨true, true, true⟩, by decide +kernel⟩,
   ⟨v1, ⟨true, true, true⟩, ⟨true, false, true⟩, by decide +kernel⟩,
   ⟨v0, ⟨true, false, true⟩, ⟨true, true, true⟩, by decide +kernel⟩,
   ⟨r0, img, by decide +kernel⟩,
   ⟨r0, img3, by decide +kernel⟩,
   ⟨r0, img2, by decide +kernel⟩,
   ⟨w1, 1, by decide +kernel⟩,
   ⟨w3, 2, by decide +kernel⟩,
   ⟨x0 1, img, by decide +kernel⟩⟩

end S8

namespace S9

def b0 := domsOn ready0
def p (s : State) (n : Nat) : State := s.setPhase n
def task0 : TaskDesc := { cls := .cyclic, core := 0, block0 := 0x100, block1 := 0x300, select := 0x500, stackTop := 0x200010000, fbList := [(0x200000100, 0x100000800)], instances := [0x600], retains := [0x601], outLen := 4 }
def ev0 : TaskDesc := { task0 with cls := .event, instances := [], retains := [], block0 := 0x800, block1 := 0xA00, select := 0xC00, outLen := 0 }
def bg0 : TaskDesc := { ev0 with cls := .background, block0 := 0x1800, block1 := 0x1A00, select := 0x1C00 }
def img : ImageDesc := { domains := [2, 6], tasks := [(0, task0), (1, ev0), (2, bg0), (3, bg0)] }
def act (s : State) (k : Nat) (f : TaskState → TaskState) : State := s.setTask k (f (s.task k))
def bt (s : State) : State := { s with boot := { s.boot with running := true, image := some img } }
def a5 := p (bt b0) 5
def a6 := p (bt b0) 6
def a5a := act a5 0 fun x => { x with active := true }
def rdy (s : State) : State := ((s.setFld Reg.CLAIM_OWN 16 3 2).setFlag Reg.CLAIM_PEER 16 true).setFld Reg.CLAIM_PEER 14 2 2
def a5c := rdy a5a
def a7 : State := { (act a5a 1 fun x => { x with active := true }) with boot := { a5a.boot with shut := .stopping, tasks := (act a5a 1 fun x => { x with active := true }).boot.tasks } }
def c1 : State := { a5a with boot := { a5a.boot with onCore := [(0, some 0)] } }
def c3 := act (withG a5 [(4, 1, 0)]) 5 fun x => { x with stopped := true }
def atRt (s : State) : State := s.setCore 0 { s.core 0 with pc := runtimeAddr }
def task2 : TaskDesc := { task0 with fbList := [(0x200000100, 0x100000800), (0x200000200, 0x100000900)] }
def cY (n : Nat) : State := let s := act c1 0 fun x => { x with started := true, working := 1, calls := n }; { s with boot := { s.boot with image := some { img with tasks := [(0, task2), (1, ev0), (2, bg0), (3, bg0)] } } }
def c4 := atRt (cY 1)
def c5 := atRt (cY 2)

theorem witness_ShutDownAndRetain :
    (∃ (s : State) (w : Writer) (value : W32),
      s.admits w 0x000 0x108 = true ∧ value.getLsbD 0 = true ∧ keyed value 0x5344 = true ∧ (s.phase = 5 ∨ s.phase = 6) ∧ s.role ≠ 2 ∧ s.anyActive = true) ∧
    (∃ (s : State) (w : Writer) (value : W32),
      s.admits w 0x000 0x108 = true ∧ value.getLsbD 0 = true ∧ keyed value 0x5344 = true ∧ (s.phase = 5 ∨ s.phase = 6) ∧ s.role = 2 ∧ s.peerReady = true) ∧
    (∃ (s : State) (w : Writer) (value : W32),
      s.admits w 0x000 0x108 = true ∧ value.getLsbD 0 = true ∧ (keyed value 0x5344 = false ∨ (s.phase ≠ 5 ∧ s.phase ≠ 6))) ∧
    (∃ (s : State) (task : Fin 32) (u : Fin 32),
      s.boot.shut = .stopping ∧ u ≠ task ∧ (s.task u.val).active = true) ∧
    (∃ (s : State),
      s.phase = 5) ∧
    (∃ (s : State),
      s.phase = 6) ∧
    (∃ (s : State) (u : Fin 32),
      s.boot.retain = none ∧ s.brownoutLate = false ∧ 5 ≤ s.phase ∧ s.phase ≤ 7 ∧ (s.desc u.val).cls ≠ .unused ∧ (s.task u.val).active = true) :=
  ⟨⟨a5a, { master := .core 0, tag := 0 }, 0x53440001, by decide +kernel⟩,
   ⟨a5c, { master := .core 0, tag := 0 }, 0x53440001, by decide +kernel⟩,
   ⟨a5, { master := .core 0, tag := 0 }, 0x12340001, by decide +kernel⟩,
   ⟨a7, 1, 0, by decide +kernel⟩,
   ⟨a5, by decide +kernel⟩,
   ⟨a6, by decide +kernel⟩,
   ⟨a5a, 0, by decide +kernel⟩⟩

theorem witness_TasksStartCommitAndRestart :
    (∃ (s : State) (task : Fin 32),
      let d  := s.desc task.val
      let x  := s.task task.val
      s.boot.running = true ∧ s.running d.core.val = some task.val ∧ x.started = false ∧ x.holderStart = none ∧ (s.follower = false ∨ d.cls = .background)) ∧
    (∃ (s : State) (task : Fin 32) (call : W64 × W64),
      let d  := s.desc task.val
      let x  := s.task task.val
      s.boot.running = true ∧ s.running d.core.val = some task.val ∧ x.started = true ∧ s.inRuntime d.core.val = true ∧ d.fbList[x.calls]? = some call) ∧
    (∃ (s : State) (task : Fin 32),
      let d  := s.desc task.val
      s.cycleDone task.val = true ∧ d.cls ≠ .background ∧ s.follower = false ∧ s.boot.retain = none) ∧
    (∃ (s : State) (c : CoreId),
      let n  := (s.greg c.val 4).data.toNat % 32
      (s.desc n).cls = .event ∧ (s.task n).stopped = false ∧ s.follower = false ∧ (s.task n).queue.length < (s.desc n).qdepth) ∧
    (∃ (s : State) (task : Fin 32),
      let x  := s.task task.val
      x.stopped = true) :=
  ⟨⟨c1, 0, by decide +kernel⟩,
   ⟨c4, 0, (0x200000200, 0x100000900), ⟨by decide +kernel, by decide +kernel, by decide +kernel, (by simp [c4, atRt, State.inRuntime] : c4.inRuntime 0 = true), by decide +kernel⟩⟩,
   ⟨c5, 0, ⟨(by have h := (by simp [c5, atRt, State.inRuntime] : c5.inRuntime 0 = true); have h2 : (c5.boot.running && c5.running 0 == some 0 && (c5.task 0).started && decide ((c5.desc 0).fbList.length ≤ (c5.task 0).calls)) = true := (by decide +kernel); exact Bool.and_eq_true_iff.mpr ⟨h2, h⟩ : c5.cycleDone 0 = true), by decide +kernel, by decide +kernel, by decide +kernel⟩⟩,
   ⟨c3, 0, by decide +kernel⟩,
   ⟨c3, 5, by decide +kernel⟩⟩

end S9

namespace S10

def b0 := domsOn ready0
def mode (s : State) (k : Nat) (v : W64) := s.setLw k LW.MODE { data := v, tag := 0 }
def l1 := ((mode b0 0 0x8000000000000000).setLw 0 LW.MODE { data := 0x80000000, tag := 0 }).setLw 0 LW.OMAP { data := 0x8000000000000007, tag := 0 }
def l1t := ((l1.setTpm 7 { data := 5, tag := 0x41 }).setFlag (rk 0x40 Reg.CTRL) 0 true).setLw 0 (LW.OMAP + 3) { data := 0x8000000000000009, tag := 0 }
def f1 := l1.applyFix 0 1 5
def cap0 := ((b0.setFlag (rk 0x41 Reg.CTRL) 0 true).setReg (capKey Reg.CAPT_LEN 1) 1)
def cap2 (st : Nat) := ((cap0.setReg (capKey Reg.CAPT_SCTRL 1) (BitVec.ofNat 32 (st * 2^25 + 2))).setReg (capKey Reg.CAPT_SIGk 1) 0x00000005).setReg (capKey Reg.CAPT_SIGk 1 + 4) 0x40000007
def tu2 := b0.setLw 1 LW.TUNE_STAT { data := 0x20000000, tag := 0 }

theorem witness_LoopWritesAndFixCommands :
    (∃ (s : State) (k : Nat) (w : Nat) (v : TWord) (j : Nat) (x : Nat),
      let code  := s.wordCheck k w v
      code = 0 ∧ (j ≠ k ∨ x ≠ w)) ∧
    (∃ (s : State) (k : Nat) (w : Nat) (v : TWord),
      let code  := s.wordCheck k w v
      code ≠ 0) ∧
    (∃ (s : State),
      s.lockstep = false) ∧
    (∃ (loop : Fin 512) (opt : Nat) (j : Nat) (w : Nat),
      let k  := loop.val
      opt < 3 ∧ (j ≠ k ∨ w ≠ LW.FIX_STAT) ∧ w < 256) ∧
    (∃ (s : State) (loop : Fin 512),
      let k  := loop.val
      s.fixPending k = true ∧ s.logOpen = true) ∧
    (∃ (s : State) (w : Writer) (value : W32),
      s.admits w 0x040 0x104 = true ∧ value.getLsbD 31 = true) :=
  ⟨⟨b0, 0, 0, {}, 0, 1, by decide +kernel⟩,
   ⟨b0, 0, 0, { data := 5, tag := 0x81}, by decide +kernel⟩,
   ⟨b0, by decide +kernel⟩,
   ⟨0, 0, 0, 0, by decide +kernel⟩,
   ⟨f1, 0, by decide +kernel⟩,
   ⟨b0, { master := .core 0, tag := 0 }, 0x80000000, by decide +kernel⟩⟩

theorem witness_EngineStopsAndCapturesRecord :
    (∃ (s : State) (w : Writer) (value : W32),
      s.admits w 0x040 Reg.CTRL = true ∧ value.getLsbD 1 = false ∧ value.getLsbD 0 = false ∧ s.flag (rk 0x040 Reg.CTRL) 0 = true) ∧
    (∃ (s : State) (w : Writer) (value : W32),
      s.admits w 0x040 Reg.CTRL = true ∧ value.getLsbD 1 = false ∧ value.getLsbD 0 = true ∧ s.flag (rk 0x040 Reg.CTRL) 0 = false) ∧
    (∃ (s : State) (loop : Fin 512),
      let k  := loop.val
      s.lf k LW.TUNE_STAT 28 4 = 2) ∧
    (∃ (s : State) (w : Writer) (session : Fin 16),
      let n  := session.val
      let off  := 0x200 + 0x80 * n
      s.admits w 0x041 off = true ∧ s.capState n = 1) ∧
    (∃ (s : State) (w : Writer) (session : Fin 16),
      let n  := session.val
      let off  := 0x200 + 0x80 * n
      s.admits w 0x041 off = true ∧ s.capState n = 2) ∧
    (∃ (s : State) (session : Fin 16),
      let n  := session.val
      s.domState 7 = 2 ∧ s.flag (rk 0x041 Reg.CTRL) 0 = true ∧ (s.capState n = 1 ∨ s.capState n = 2) ∧ (∀ m < 16, m ≠ n → s.capState m ≠ 1 ∧ s.capState m ≠ 2) ∧ s.flag (capKey Reg.CAPT_SCLK n) 31 = false ∧ sget (dflt 0) s.loop.capPoint n % (s.fld (capKey Reg.CAPT_SCLK n) 9 16 + 1) = 0 ∧ s.capNsig n ≤ 8 ∧ (∀ x, sget (dflt 0) s.mem.tpmErr x = 0)) :=
  ⟨⟨l1t, { master := .core 0, tag := 0 }, 0, by decide +kernel⟩,
   ⟨b0, { master := .core 0, tag := 0 }, 1, by decide +kernel⟩,
   ⟨tu2, 1, by decide +kernel⟩,
   ⟨cap2 1, { master := .core 0, tag := 0 }, 1, by decide +kernel⟩,
   ⟨cap2 2, { master := .core 0, tag := 0 }, 1, by decide +kernel⟩,
   ⟨cap2 1, 1, ⟨by decide +kernel, by decide +kernel, by decide +kernel, by decide +kernel, by decide +kernel, by decide +kernel, by decide +kernel, fun _ => rfl⟩⟩⟩

end S10

namespace S11

def b0 := domsOn ready0
def dgm (m : Nat) (retry : Nat) (f : GroupState → GroupState) := setG b0 0 fun g => f { g with cfg := [(0x140, BitVec.ofNat 32 (m * 0x10000 + retry * 0x200000)), (0x144, BitVec.ofNat 32 (m * 0x10000 + retry * 0x200000))] }
def onG (g : GroupState) : GroupState := g.setDg 0 { want := true, on := true }
def agm (k m : Nat) (f : GroupState → GroupState) := setG b0 k fun g => f { g with cfg := [(0x100, 0x05800010), (0x140, BitVec.ofNat 32 (m * 0x100000)), (0x144, BitVec.ofNat 32 (m * 0x100000)), (0x14C, BitVec.ofNat 32 (m * 0x100000))] }
def tgm (k m : Nat) (f : GroupState → GroupState) := setG b0 k fun g => f { g with cfg := [(0x140, BitVec.ofNat 32 (m * 0x10000000))] }

theorem witness_DigitalChannelsFollowTheField :
    (∃ (s : State) (dch : Fin 512) (n : Nat) (was : Bool),
      let k  := dch.val / 16
      let c  := dch.val % 16
      let g  := s.grp k
      let wire  := g.mode k c == 2 || g.mode k c == 3
      let x  := g.dgc c
      g.held = false ∧ 0 < n ∧ wire = false ∧ x.raw = some was) ∧
    (∃ (s : State) (dch : Fin 512) (reading : BitVec 32) (n : Nat),
      let k  := dch.val / 16
      let c  := dch.val % 16
      let g  := s.grp k
      let wire  := g.mode k c == 2 || g.mode k c == 3
      let x  := g.dgc c
      let mv  := reading.toNat
      let high  := if g.mode k c = 1 then 11000 else 15000
      g.held = false ∧ 0 < n ∧ wire = false ∧ x.raw = none ∧ (high ≤ mv ∨ mv ≤ 5000) ∧ x.first = true) ∧
    (∃ (s : State) (dch : Fin 512) (n : Nat),
      let k  := dch.val / 16
      let c  := dch.val % 16
      let g  := s.grp k
      let wire  := g.mode k c == 2 || g.mode k c == 3
      g.held = false ∧ 0 < n ∧ wire = true) ∧
    (∃ (s : State) (dch : Fin 512) (group : Fin 32),
      let k  := dch.val / 16
      let c  := dch.val % 16
      let g  := s.grp k
      g.held = false ∧ g.mode k c = 4 ∧ (g.dgc c).on = true ∧ group.val = k ∧ (∀ d, c < d → d < 16 → (g.dgc d).on = false)) ∧
    (∃ (s : State) (dch : Fin 512),
      let k  := dch.val / 16
      let c  := dch.val % 16
      let g  := s.grp k
      g.held = false ∧ g.mode k c = 4 ∧ (g.dgc c).want = true ∧ (g.dgc c).latched = false) ∧
    (∃ (s : State) (dch : Fin 512),
      let k  := dch.val / 16
      let c  := dch.val % 16
      let g  := s.grp k
      g.held = false ∧ g.mode k c = 4 ∧ g.released = false) :=
  ⟨⟨dgm 1 0 fun g => g.setDg 0 { raw := some false }, 0, 1, false, by decide +kernel⟩,
   ⟨b0, 0, 0, 1, by decide +kernel⟩,
   ⟨dgm 2 0 id, 0, 1, by decide +kernel⟩,
   ⟨dgm 4 0 onG, 0, 0, ⟨by decide +kernel, by decide +kernel, by decide +kernel, by decide +kernel, fun d h1 h2 =>
      (by decide +kernel : ∀ d : Fin 16, 0 < d.val → (((dgm 4 0 onG).grp 0).dgc d.val).on = false) ⟨d, h2⟩ h1⟩⟩,
   ⟨dgm 4 0 onG, 0, by decide +kernel⟩,
   ⟨dgm 4 0 onG, 0, by decide +kernel⟩⟩

theorem witness_ConversionsAndCurrentOutputs :
    (∃ (s : State) (group : Fin 57) (chan : Fin 16),
      let k  := group.val
      let c  := chan.val
      let g  := s.grp k
      g.held = false ∧ grpKind k = 0xA0 ∧ g.mode k c ≠ 0) ∧
    (∃ (s : State) (group : Fin 57) (chan : Fin 16) (uV : BitVec 32),
      let k  := group.val
      let c  := chan.val
      let g  := s.grp k
      let type  := fieldOf (g.chCfg k c) 28 4
      g.held = false ∧ grpKind k = 0xB0 ∧ 1 ≤ type ∧ type ≤ 7 ∧ 50000 < uV.toInt) ∧
    (∃ (s : State) (group : Fin 57) (chan : Fin 16) (uV : BitVec 32) (v : W64),
      let k  := group.val
      let c  := chan.val
      let g  := s.grp k
      let type  := fieldOf (g.chCfg k c) 28 4
      let inRange  := fun (v : W64) =>
      let lo := (tempRange type).1
      let hi := (tempRange type).2
      dNan v = false ∧ dLt v (dInt lo) = false ∧ dLt (dInt hi) v = false ∧ dLt v (dFrac (51 * lo - hi) 50) = false ∧
        dLt (dFrac (51 * hi - lo) 50) v = false
      g.held = false ∧ grpKind k = 0xB0 ∧ 1 ≤ type ∧ type ≤ 7 ∧ uV.toInt ≤ 50000 ∧ inRange v) ∧
    (∃ (s : State) (group : Fin 57) (chan : Fin 16) (r : W32) (lead : W32),
      let k  := group.val
      let c  := chan.val
      let g  := s.grp k
      let type  := fieldOf (g.chCfg k c) 28 4
      let ohms : Int := (r.toNat : Int) - (if type = 9 ∨ type = 12 then lead.toNat else 0)
      let unit : Int := if 11 ≤ type then 10000 else 1000
      g.held = false ∧ grpKind k = 0xB0 ∧ 8 ≤ type ∧ 400 * unit < ohms) ∧
    (∃ (s : State) (group : Fin 57) (chan : Fin 16) (r : W32) (lead : W32),
      let k  := group.val
      let c  := chan.val
      let g  := s.grp k
      let type  := fieldOf (g.chCfg k c) 28 4
      let ohms : Int := (r.toNat : Int) - (if type = 9 ∨ type = 12 then lead.toNat else 0)
      let unit : Int := if 11 ≤ type then 10000 else 1000
      g.held = false ∧ grpKind k = 0xB0 ∧ 8 ≤ type ∧ ohms < 10 * unit) ∧
    (∃ (s : State) (group : Fin 57) (chan : Fin 16) (r : W32) (lead : W32) (v : W64),
      let k  := group.val
      let c  := chan.val
      let g  := s.grp k
      let type  := fieldOf (g.chCfg k c) 28 4
      let inRange  := fun (v : W64) =>
      let lo := (tempRange type).1
      let hi := (tempRange type).2
      dNan v = false ∧ dLt v (dInt lo) = false ∧ dLt (dInt hi) v = false ∧ dLt v (dFrac (51 * lo - hi) 50) = false ∧
        dLt (dFrac (51 * hi - lo) 50) v = false
      let ohms : Int := (r.toNat : Int) - (if type = 9 ∨ type = 12 then lead.toNat else 0)
      let unit : Int := if 11 ≤ type then 10000 else 1000
      g.held = false ∧ grpKind k = 0xB0 ∧ 8 ≤ type ∧ 10 * unit ≤ ohms ∧ ohms ≤ 400 * unit ∧ inRange v) ∧
    (∃ (s : State) (group : Fin 57) (chan : Fin 16),
      let k  := group.val
      let c  := chan.val
      let g  := s.grp k
      let type  := fieldOf (g.chCfg k c) 28 4
      g.held = false ∧ grpKind k = 0xB0 ∧ type ≠ 0) ∧
    (∃ (s : State) (ag : Fin 16) (d : Nat),
      let a  := 32 + ag.val
      let h  := s.grp a
      let order  := (List.range 16).map fun i => (h.spareNext + i) % 16
      h.held = false ∧ h.spareBad = false ∧ h.spareBusy = false ∧ (h.cfgAt a 0x100).getLsbD 23 = true ∧ (order.find? fun d => h.mode a d != 0) = some d) ∧
    (∃ (s : State) (ag : Fin 16),
      let a  := 32 + ag.val
      let h  := s.grp a
      h.spareBusy = true) ∧
    (∃ (s : State) (ach : Fin 256),
      let a  := 32 + ach.val / 16
      let d  := ach.val % 16
      let h  := s.grp a
      h.held = false ∧ h.released = false ∧ h.dom = 2 ∧ h.isOut a d = true) :=
  ⟨⟨b0, 32, 0, by decide +kernel⟩,
   ⟨tgm 48 1 id, 48, 0, 100000, by decide +kernel⟩,
   ⟨tgm 48 1 id, 48, 0, 0, 0, by decide +kernel⟩,
   ⟨tgm 48 8 id, 48, 0, 0xFFFFFF00, 0, by decide +kernel⟩,
   ⟨tgm 48 8 id, 48, 0, 0, 0, by decide +kernel⟩,
   ⟨tgm 48 8 id, 48, 0, 100000, 0, 0, by decide +kernel⟩,
   ⟨tgm 48 1 id, 48, 0, by decide +kernel⟩,
   ⟨b0, 0, 0, by decide +kernel⟩,
   ⟨agm 32 1 fun g => { g with spareBusy := true, spareCh := 1 }, 0, by decide +kernel⟩,
   ⟨agm 32 3 id, 0, by decide +kernel⟩⟩

end S11

namespace S12

def b0 := domsOn ready0
def cgm (k m : Nat) (f : GroupState → GroupState) := setG b0 k fun g => f { g with cfg := [(0x140, BitVec.ofNat 32 (m * 0x10000000)), (0x144, BitVec.ofNat 32 (m * 0x10000000 + 0x4000000)), (0x180, 0x40001000)] }

theorem witness_CounterChannelsCount :
    (∃ (s : State) (cch : Fin 64) (phase : Bool),
      let k  := 52 + cch.val / 16
      let c  := cch.val % 16
      let g  := s.grp k
      g.held = false ∧ 1 ≤ g.mode k c ∧ (g.mode k c ≤ (if phase then 3 else 7))) ∧
    (∃ (s : State) (cch : Fin 64),
      let k  := 52 + cch.val / 16
      let c  := cch.val % 16
      let g  := s.grp k
      g.held = false ∧ (g.chCfg k c).getLsbD 27 = false ∧ g.mode k c ≠ 0) ∧
    (∃ (s : State) (cch : Fin 64) (input : CounterInput),
      let k  := 52 + cch.val / 16
      let c  := cch.val % 16
      let g  := s.grp k
      let x  := g.cgc c
      g.held = false ∧ x.inFault = inputNo input) ∧
    (∃ (s : State) (cch : Fin 64),
      let k  := 52 + cch.val / 16
      let c  := cch.val % 16
      let g  := s.grp k
      let x  := g.cgc c
      g.held = false ∧ 1 ≤ g.mode k c ∧ g.mode k c ≤ 5 ∧ x.queue.length < 2) ∧
    (∃ (s : State) (cch : Fin 64) (n : W32),
      let k  := 52 + cch.val / 16
      let c  := cch.val % 16
      let g  := s.grp k
      let x  := g.cgc c
      g.held = false ∧ g.mode k c = 5 ∧ x.inA.level = some false ∧ x.inB.level = some false ∧ x.queue.length < 2 ∧ glitchSpan (fieldOf (g.chCfg k c) 18 4) ≤ n.toNat) ∧
    (∃ (s : State) (cch : Fin 64),
      let k  := 52 + cch.val / 16
      let c  := cch.val % 16
      let g  := s.grp k
      g.held = false ∧ g.mode k c = 8 ∧ g.driving = true ∧ g.released = false ∧ g.powered = true) ∧
    (∃ (s : State) (cch : Fin 64) (at_ : W64),
      let k  := 52 + cch.val / 16
      let c  := cch.val % 16
      let g  := s.grp k
      let x  := g.cgc c
      g.held = false ∧ x.reading = some at_) ∧
    (∃ (s : State) (group : Fin 4) (lid : Nat),
      let a  := 52 + group.val
      (s.grp a).held = false ∧ (s.grp a).latch = some lid) :=
  ⟨⟨cgm 52 5 fun g => g.setCg 0 { inA := { level := some false }, inB := { level := some false } }, 0, false, by decide +kernel⟩,
   ⟨cgm 52 5 fun g => g.setCg 0 { inA := { level := some false }, inB := { level := some false } }, 0, by decide +kernel⟩,
   ⟨cgm 52 2 fun g => g.setCg 0 { inFault := 1, queue := [{ latch := false, num := 1, raw := 1 }] }, 0, .a, by decide +kernel⟩,
   ⟨cgm 52 5 fun g => g.setCg 0 { inA := { level := some false }, inB := { level := some false } }, 0, by decide +kernel⟩,
   ⟨cgm 52 5 fun g => g.setCg 0 { inA := { level := some false }, inB := { level := some false } }, 0, 100, by decide +kernel⟩,
   ⟨cgm 52 8 fun g => { g with cg := [(0, { reading := some 5, skips := 3 })] }, 0, by decide +kernel⟩,
   ⟨cgm 52 8 fun g => { g with cg := [(0, { reading := some 5, skips := 3 })] }, 0, 5, by decide +kernel⟩,
   ⟨cgm 52 5 fun g => { g with latch := some 3 }, 0, 3, by decide +kernel⟩⟩

end S12

namespace S14

def b0 := ((domsOn ready0).setReg Reg.DBG_DLEVEL 3)
def e0 := en (en (en b0 0xF2) 0xF0) 0xF1
def tm (s : State) (f : TimeState → TimeState) : State := { s with time := f s.time }
def e2 := (tm e0 fun t => { t with dc0 := 5000000000 <<< 32, ots := 0, ltb := 50, good0 := 15, good1 := 15 }).setReg Reg.TIME_OTS_STEP 1
def l (s : State) := ((s.setFld (Reg.TIME_DC_CTRLn) 30 2 2).setFld (Reg.TIME_DC_CTRLn+4) 30 2 1).setFld Reg.TIME_DC_CTRLn 0 16 7 |>.setFld (Reg.TIME_DC_CTRLn+4) 0 16 7
def d (s : State) := (s.setFlag Reg.TIME_DOM_CFGn 31 true).setFlag (Reg.TIME_DOM_CFGn+4) 31 true |>.setFlag Reg.TIME_TC_CFG 30 true
def f1 := d (l e2)
def tr : TsfRec := ⟨1,2,3,4⟩
def f2 := tm (f1.setFlag Reg.TIME_OTS_STAT 31 true) fun t => { t with dc0 := 7, ots := 20, pend0 := 5, setHi0 := 1, tsf0 := [tr, tr], tsf1 := [tr], ports := [(0, { open_ := true, missed := 2, seq := 65535 }), (2, { open_ := true, missed := 1 })] }
def f3 := (f2.setFld Reg.CLAIM_OWN 16 3 1).setFlag Reg.TIME_TPO_CFG 31 true
def f4 := tm (f2.setReg Reg.TIME_TPI_CFG 0xC0000010) fun t => { t with tpiEdge := some 3, tpi := [⟨1,2,3,4,5,6⟩] }
def f5 := tm (f2.setReg Reg.TIME_TPI_CFG 0x80000010) fun t => { t with tpiEdge := some 3, ltb := 125000003 }
def f7 := tm f2 fun t => { t with tpoEnd := 900 }
def f8 := tm ((f5.setFlag Reg.TIME_TPI_CFG 31 true).setFlag Reg.TIME_TPI_STAT 31 false) fun t => { t with ltb := 250000009 }
def f10 := f2.setFlag Reg.TIME_TC_CFG 30 false

theorem witness_ClocksAndOutputTimescale :
    (∃ (s : State) (w : Writer) (n : Fin 2),
      let k  := n.val
      let at_  := fun (r : Nat) => dcKey r k % 4096
      s.admits w 0x0F2 (at_ Reg.TIME_DCn_INC_LO) = true) ∧
    (∃ (s : State) (w : Writer) (n : Fin 2),
      let k  := n.val
      let at_  := fun (r : Nat) => dcKey r k % 4096
      s.admits w 0x0F2 (at_ Reg.TIME_DCn_SLEW) = true ∧ s.dcSet k = none) ∧
    (∃ (s : State) (w : Writer) (n : Fin 2),
      let k  := n.val
      let at_  := fun (r : Nat) => dcKey r k % 4096
      s.admits w 0x0F2 (at_ Reg.TIME_DCn_SET_LO) = true) ∧
    (∃ (s : State) (w : Writer),
      s.admits w 0x0F2 (Reg.TIME_DC_KICK % 4096) = true) ∧
    (∃ (s : State) (n : Fin 2),
      let k  := n.val
      s.fld (Reg.TIME_DC_CTRLn + 4 * k) 0 16 ≠ 0 ∧ (s.fld (Reg.TIME_DC_CTRLn + 4 * k) 0 16 * 1250000 ≤ (s.time.ltb - if k = 0 then s.time.wd0 else s.time.wd1).toNat) ∧ (s.dcState k = 1 ∨ s.dcState k = 2)) ∧
    (∃ (s : State) (n : Fin 2),
      let k  := n.val
      let dom  := Reg.TIME_DOM_CFGn + 4 * k
      s.flag dom 31 = true ∧ s.delayHad k = false) ∧
    (∃ (s : State) (n : Fin 2) (offset : W64),
      let k  := n.val
      let dom  := Reg.TIME_DOM_CFGn + 4 * k
      s.flag dom 31 = true ∧ s.delayHad k = true ∧ 1000000 < offset.toInt.natAbs) ∧
    (∃ (s : State) (n : Fin 2) (offset : W64),
      let k  := n.val
      let dom  := Reg.TIME_DOM_CFGn + 4 * k
      s.flag dom 31 = true ∧ s.delayHad k = true ∧ offset.toInt.natAbs ≤ 1000000) ∧
    (∃ (s : State) (w : Writer) (n : Fin 2),
      let k  := n.val
      let dom  := Reg.TIME_DOM_CFGn + 4 * k
      s.admits w 0x0F2 (dom % 4096) = true) ∧
    (∃ (s : State) (w : Writer) (n : Fin 2) (value : W32),
      let k  := n.val
      s.admits w 0x0F2 (Reg.TIME_TSFn_POP % 4096 + 0x20 * k) = true ∧ value.getLsbD 0 = true) ∧
    (∃ (s : State) (port : Fin 4),
      s.flag Reg.TIME_TC_CFG 30 = true ∧ s.ethOn (port.val / 2) = true) ∧
    (∃ (s : State) (w : Writer),
      s.admits w 0x0F2 0x168 = true) ∧
    (∃ (s : State),
      s.stepLimit < (s.otsGap (s.dc s.otsSrc)).natAbs) ∧
    (∃ (s : State),
      (s.dc s.otsSrc - s.time.ots).toInt.natAbs < 2 ^ 32 ∧ s.flag Reg.TIME_OTS_STAT 31 = true) ∧
    (∃ (s : State),
      s.tpoOn = true) ∧
    (∃ (s : State),
      s.tpoOn = false) ∧
    (∃ (s : State),
      s.time.tpoEnd.toNat ≤ s.time.ltb.toNat) ∧
    (∃ (s : State),
      s.time.ltb.toNat < s.time.tpoEnd.toNat) ∧
    (∃ (held : W32),
      held.toNat < 125) ∧
    (∃ (s : State) (rising : Bool) (held : W32) (t0 : W64),
      125 ≤ held.toNat ∧ s.flag Reg.TIME_TPI_CFG 31 = true ∧ s.flag Reg.TIME_TPI_CFG 30 = !rising ∧ s.time.tpiEdge = some t0 ∧ s.time.tpi.length < 16) ∧
    (∃ (s : State),
      s.flag Reg.TIME_TPI_CFG 31 = true ∧ s.flag Reg.TIME_TPI_STAT 31 = false ∧ 250000000 ≤ (s.time.ltb - s.time.tpiEdge.getD 0).toNat) ∧
    (∃ (s : State) (w : Writer) (value : W32),
      s.admits w 0x0F2 (Reg.TIME_TPI_POP % 4096) = true ∧ value.getLsbD 0 = true) ∧
    (∃ (s : State) (m : Master) (b : Timebase),
      s.readGate m 0x0F2 (timebaseOff b) = .okay) :=
  ⟨⟨b0, { master := .core 0, tag := 0 }, 0, by decide +kernel⟩,
   ⟨b0, { master := .core 0, tag := 0 }, 0, by decide +kernel⟩,
   ⟨b0, { master := .core 0, tag := 0 }, 0, by decide +kernel⟩,
   ⟨b0, { master := .core 0, tag := 0 }, by decide +kernel⟩,
   ⟨f5, 0, by decide +kernel⟩,
   ⟨f10, 0, by decide +kernel⟩,
   ⟨unlock f1 0xF2, 0, 1000001, by decide +kernel⟩,
   ⟨unlock f1 0xF2, 0, 0, by decide +kernel⟩,
   ⟨b0, { master := .core 0, tag := 0 }, 0, by decide +kernel⟩,
   ⟨b0, { master := .core 0, tag := 0 }, 0, 1, by decide +kernel⟩,
   ⟨unlock f1 0xF2, 0, by decide +kernel⟩,
   ⟨b0, { master := .core 0, tag := 0 }, by decide +kernel⟩,
   ⟨unlock f1 0xF2, by decide +kernel⟩,
   ⟨f2, by decide +kernel⟩,
   ⟨f3, by decide +kernel⟩,
   ⟨b0, by decide +kernel⟩,
   ⟨b0, by decide +kernel⟩,
   ⟨f7, by decide +kernel⟩,
   ⟨0, by decide +kernel⟩,
   ⟨f4, false, 0x80000005, 3, by decide +kernel⟩,
   ⟨f8, by decide +kernel⟩,
   ⟨b0, { master := .core 0, tag := 0 }, 1, by decide +kernel⟩,
   ⟨b0, .core 0, .ltb, by decide +kernel⟩⟩

end S14

namespace S15

def b0 := ((domsOn ready0).setReg Reg.DBG_DLEVEL 3)
def e0 := en b0 0xF8
def setT (s : State) (c : Calendar) : State := ((((s.setReg Reg.RTC_TIME6 (BitVec.ofNat 32 c.year)).setReg Reg.RTC_TIME5 (BitVec.ofNat 32 c.month)).setReg Reg.RTC_TIME4 (BitVec.ofNat 32 c.day)).setReg Reg.RTC_TIME3 (BitVec.ofNat 32 c.hour)).setReg Reg.RTC_TIME2 (BitVec.ofNat 32 c.min) |>.setReg Reg.RTC_TIME1 (BitVec.ofNat 32 c.sec)
def setW (s : State) (c : Calendar) : State := ([c.sec, c.min, c.hour, c.day, c.month, c.year].zipIdx).foldl (fun s e => s.setReg (Reg.RTC_WTIMEk + 4 * e.2) (BitVec.ofNat 32 e.1)) s
def e1 := unlock (setW (setT e0 ⟨2024, 2, 29, 23, 59, 59⟩) ⟨2030, 12, 31, 0, 5, 6⟩) 0xF8
def e2 := setW e1 ⟨2023, 2, 29, 0, 0, 0⟩
def e3 := ((e1.setFlag Reg.RTC_TIME7 8 true).setReg Reg.RTC_BKSW3 0xC0001234).setFld Reg.TIME_DC_CTRLn 30 2 2
def e4 : State := { e3 with time := { e3.time with ots := BitVec.ofNat 96 ((946684800 + 86400 * 400 + 5) * 1000000000) <<< 32 }, aon := { e3.aon with cell := [3000, 2900, 1, 2, 3, 4, 5, 6] } }
def off : State := { e4 with pwr := { e4.pwr with power := .off } }
def sv : State := off.setFlag Reg.PWR_PSTATE 8 true
def st : State := { off with aon := { off.aon with stopped := true } }
def cm1 : State := { e1 with aon := { e1.aon with commit := true } }
def cm2 : State := { e2 with aon := { e2.aon with commit := true } }

theorem witness_RealTimeClockKeepsTime :
    (∃ (s : State),
      s.flag Reg.RTC_TIME7 8 = false) ∧
    (∃ (s : State) (utc : BitVec 16) (n : Nat) (c : Calendar),
      s.logicOn' = true ∧ s.flag Reg.RTC_TIME7 8 = true ∧ s.otsLocked = true ∧ ((s.otsNs.toNat / 1000000000 : Nat) : Int) - utc.toInt - 946684800 = (n : Nat) ∧ calendarAt n = some c) ∧
    (∃ (s : State) (m : Master),
      s.readGate m 0x0F8 0x100 = .okay) ∧
    (∃ (s : State) (w : Writer) (value : W32),
      s.admits w 0x0F8 (Reg.RTC_SET % 4096) = true ∧ value.getLsbD 0 = true ∧ keyed value 0x5443 = true) ∧
    (∃ (s : State),
      s.aon.commit = true ∧ s.staged.ok = true ∧ s.logOpen = true) ∧
    (∃ (s : State),
      s.aon.commit = true ∧ s.staged.ok = false ∧ s.logOpen = true) ∧
    (∃ (s : State) (w : Writer) (value : W32),
      s.admits w 0x0F8 (Reg.RTC_SET % 4096) = true ∧ value.getLsbD 0 = true ∧ keyed value 0x5443 = false) ∧
    (∃ (s : State) (w : Writer) (value : W32),
      s.admits w 0x0F8 (Reg.RTC_BKSW3 % 4096) = true ∧ value.getLsbD 30 = true) ∧
    (∃ (s : State),
      s.pwr.power ≠ .off ∧ s.sound = true) ∧
    (∃ (s : State),
      s.pwr.power = .off ∧ s.aon.stopped = false ∧ s.flag Reg.PWR_PSTATE 8 = true) ∧
    (∃ (s : State),
      s.pwr.power = .off ∧ s.aon.stopped = false ∧ s.flag Reg.PWR_PSTATE 8 = false) ∧
    (∃ (s : State),
      s.aon.stopped = true) :=
  ⟨⟨e1.setFlag Reg.RTC_TIME7 8 false, by decide +kernel⟩,
   ⟨e4, 0, 86400*400+5, ⟨2001,2,4,0,0,5⟩, by decide +kernel⟩,
   ⟨b0, .core 0, by decide +kernel⟩,
   ⟨b0, { master := .core 0, tag := 0 }, 0x54430001, by decide +kernel⟩,
   ⟨cm1, by decide +kernel⟩,
   ⟨cm2, by decide +kernel⟩,
   ⟨b0, { master := .core 0, tag := 0 }, 1, by decide +kernel⟩,
   ⟨b0, { master := .core 0, tag := 0 }, 0x54430001, by decide +kernel⟩,
   ⟨b0, by decide +kernel⟩,
   ⟨sv, by decide +kernel⟩,
   ⟨off, by decide +kernel⟩,
   ⟨st, by decide +kernel⟩⟩

end S15

namespace S16

def b0 := (domsOn ready0)
def ul (s : State) : State := unlock (unlock (unlock s 4) 7) 2
def lc (s : State) (n : Nat) : State := s.setFld Reg.SEC_LCSTATE 0 3 n
def dl (s : State) (n : Nat) : State := s.setReg Reg.DBG_DLEVEL (BitVec.ofNat 32 n)
def sec (s : State) (f : SecState → SecState) : State := { s with sec := f s.sec }
def ch : List Byte := (List.range 16).map fun i => BitVec.ofNat 8 (i + 1)
def job (valid : Bool) (purpose arg min slot : Nat) : AuthJob := { resp := ch ++ List.replicate 8 0 ++ [BitVec.ofNat 8 purpose, BitVec.ofNat 8 arg, BitVec.ofNat 8 min, 0, BitVec.ofNat 8 slot] ++ List.replicate 99 0, challenge := ch, valid := valid }
def k0 (s : State) : State := (s.setFlag Reg.OTP_KSTAT 0 true).setFlag Reg.OTP_KSTAT 1 true
def au (s : State) (j : AuthJob) : State := sec (k0 s) fun x => { x with auth := some j }
def role (s : State) (r : Nat) : State := (s.setFld Reg.CLAIM_OWN 16 3 r).setFld Reg.CLAIM_OWN 14 2 3
def a0 := ul b0
def g := sec (dl a0 2) fun x => { x with grantMin := 5 }
def bp := (((dl a0 2).setReg Reg.DBG_BPk_LO 0x00001001).setReg Reg.DBG_BPk_HI 2).setReg (Reg.DBG_BPk_LO + 8*4) 1

theorem witness_DebugLevelsAreGrantedAndDropped :
    (∃ (s : State) (m : Master),
      s.readGate m 0x004 0x110 = .okay) ∧
    (∃ (s : State) (w : Writer) (value : W32),
      s.admits w 0x004 (Reg.SEC_AUTH % 4096) = true ∧ keyed value 0x4155 = true ∧ value.getLsbD 0 = true ∧ s.sec.auth = none) ∧
    (∃ (s : State) (j : AuthJob) (sigOk : Bool),
      let code  := s.authCode j sigOk
      s.sec.auth = some j ∧ code ≠ 1 ∧ code ≠ 2) ∧
    (∃ (s : State) (j : AuthJob) (sigOk : Bool),
      let code  := s.authCode j sigOk
      s.sec.auth = some j ∧ (code = 1 ∨ code = 2) ∧ j.num 24 1 = 0) ∧
    (∃ (s : State) (j : AuthJob) (sigOk : Bool),
      let code  := s.authCode j sigOk
      let arg  := j.num 25 1
      s.sec.auth = some j ∧ code = 1 ∧ j.num 24 1 = 1 ∧ arg = 3) ∧
    (∃ (s : State) (w : Writer) (value : W32),
      let level  := min (fieldOf value 8 2) (freeLevel s.lifecycle)
      s.admits w 0x007 (Reg.DBG_DLEVEL % 4096) = true ∧ 1 ≤ level ∧ (level < 2 ∨ s.claimRole ≠ 3)) ∧
    (∃ (s : State) (w : Writer) (value : W32),
      let level  := min (fieldOf value 8 2) (freeLevel s.lifecycle)
      s.admits w 0x007 (Reg.DBG_DLEVEL % 4096) = true ∧ 2 ≤ level ∧ s.claimRole = 3) ∧
    (∃ (s : State),
      0 < s.debugLevel ∧ s.sec.grantMin ≠ 0 ∧ s.sec.grantMin * 7500000000 ≤ (s.time.ltb - s.sec.grantAt).toNat) ∧
    (∃ (s : State) (w : Writer) (value : W32),
      0 < s.debugLevel ∧ s.admits w 0x007 (Reg.DBG_DROP % 4096) = true ∧ value.getLsbD 0 = true) ∧
    (∃ (s : State) (w : Writer),
      s.admits w 0x007 0x108 = true ∧ 2 ≤ s.debugLevel) ∧
    (∃ (s : State) (bp : Fin 16),
      2 ≤ s.debugLevel ∧ s.flag (Reg.DBG_BPk_LO + 8 * bp.val) 0 = true ∧ (s.core (bp.val / 4)).pc = s.bpAddr bp.val) :=
  ⟨⟨b0, .core 0, by decide +kernel⟩,
   ⟨b0, { master := .core 0, tag := 0 }, 0x41550001, by decide +kernel⟩,
   ⟨au (lc a0 1) (job true 0 2 7 1), job true 0 2 7 1, false, by decide +kernel⟩,
   ⟨au (lc a0 1) (job true 0 2 7 1), job true 0 2 7 1, true, by decide +kernel⟩,
   ⟨au (lc a0 1) (job true 1 3 0 1), job true 1 3 0 1, true, by decide +kernel⟩,
   ⟨b0, { master := .core 0, tag := 0 }, 0x100, by decide +kernel⟩,
   ⟨role g 2, { master := .core 0, tag := 0 }, 0x200, by decide +kernel⟩,
   ⟨{ g with time := { g.time with ltb := 37500000001 } }, by decide +kernel⟩,
   ⟨g, { master := .core 0, tag := 0 }, 1, by decide +kernel⟩,
   ⟨g, { master := .core 0, tag := 0 }, by decide +kernel⟩,
   ⟨bp, 0, by decide +kernel⟩⟩

end S16

namespace S17

def b0 := (domsOn ready0)
def ul (s : State) : State := unlock (unlock (unlock s 4) 3) 0x22
def lc (s : State) (n : Nat) : State := s.setFld Reg.SEC_LCSTATE 0 3 n
def bt (s : State) (f : BootState → BootState) : State := { s with boot := f s.boot }
def pw (s : State) (p : PowerState) : State := { s with pwr := { s.pwr with power := p } }
def a0 := ul b0
def w1 := ((lc a0 2).setFlag Reg.SEC_LCSTATE 3 true).setMram 0x300000 8 77 |>.setNor 0x100 2 5
def k1 := ((lc a0 1).setFlag Reg.OTP_KSTAT 1 true).setReg Reg.SEC_RESPk 0x12345678
def r1 := bt a0 fun b => { b with ran60 := true, version := 3 }
def n0 := a0.setReg Reg.NOR_NADDR 0x40100
def n1 := ((n0.setNor 0x40100 1 0x12).setReg Reg.NOR_NBUFk 0xCAFE).setNor 0x80000 1 3
def n2 := (a0.setReg Reg.NOR_NADDR 0x3FF00).setNor 0x3FFF8 8 norInUse
def n3 := bt (n1.setNor 0x7FFF8 8 0) fun b => { b with eraseA := some 1 }
def n5 := bt n2 fun b => { b with prog := some (0x3FF, (List.range 256).map (BitVec.ofNat 8)) }
def n6 := (n0.setFld Reg.SYS_BOOT_STAT 28 4 4)
def st := (a0.setFld Reg.SYS_BOOT_STAT 28 4 6)
def hd := pw { st with pwr := { st.pwr with holdOff := [5, 6] } } .hold

theorem witness_LifecycleAndKeysAdvance :
    (∃ (s : State) (w : Writer) (value : W32),
      let n  := fieldOf value 0 3
      s.admits w 0x004 (Reg.SEC_LCREQ % 4096) = true ∧ keyed value 0x4C43 = true ∧ n = 2 ∧ s.lifecycle = 1 ∧ s.sound = true) ∧
    (∃ (s : State),
      s.flag Reg.SEC_LCSTATE 3 = true ∧ s.lifecycle ≠ 3 ∧ s.lifecycle ≠ 4 ∧ s.boot.prog = none ∧ s.sound = true) ∧
    (∃ (s : State) (w : Writer) (value : W32),
      let n  := fieldOf value 0 3
      s.admits w 0x004 (Reg.SEC_KEYPROG % 4096) = true ∧ keyed value 0x4B50 = true ∧ 1 ≤ n ∧ n ≤ 4 ∧ fieldOf value 8 2 = 1 ∧ s.lifecycle ≤ 1 ∧ s.slotProg n = false ∧ (n ≠ 1 ∨ s.lifecycle ≠ 0)) ∧
    (∃ (s : State) (w : Writer) (value : W32),
      let n  := fieldOf value 0 3
      s.admits w 0x004 (Reg.SEC_KEYPROG % 4096) = true ∧ keyed value 0x4B50 = true ∧ 1 ≤ n ∧ n ≤ 4 ∧ fieldOf value 8 2 = 1 ∧ s.lifecycle ≤ 1 ∧ s.slotProg n = false ∧ n = 1 ∧ s.lifecycle = 0 ∧ s.sound = true) ∧
    (∃ (s : State) (w : Writer) (value : W32),
      let n  := fieldOf value 0 3
      s.admits w 0x004 (Reg.SEC_KEYPROG % 4096) = true ∧ keyed value 0x4B50 = true ∧ 1 ≤ n ∧ n ≤ 4 ∧ fieldOf value 8 2 = 2 ∧ (∃ k, k ≠ n ∧ 1 ≤ k ∧ k ≤ 4 ∧ s.slotValid k = true)) ∧
    (∃ (s : State) (w : Writer) (value : W32),
      let refused  := s.fld Reg.SYS_BOOT_STAT 20 4 ≠ 0 ∨ s.boot.ran60 = false ∨ s.boot.version ≤ s.fld Reg.SEC_RB 0 8
      s.admits w 0x004 (Reg.SEC_RBCOMMIT % 4096) = true ∧ value.getLsbD 0 = true ∧ keyed value 0x5242 = true ∧ refused) ∧
    (∃ (s : State) (w : Writer) (value : W32),
      let refused  := s.fld Reg.SYS_BOOT_STAT 20 4 ≠ 0 ∨ s.boot.ran60 = false ∨ s.boot.version ≤ s.fld Reg.SEC_RB 0 8
      s.admits w 0x004 (Reg.SEC_RBCOMMIT % 4096) = true ∧ value.getLsbD 0 = true ∧ keyed value 0x5242 = true ∧ ¬refused) :=
  ⟨⟨lc a0 1, { master := .core 0, tag := 0 }, 0x4C430002, by decide +kernel⟩,
   ⟨w1, by decide +kernel⟩,
   ⟨b0, { master := .core 0, tag := 0 }, 0x4B500102, by decide +kernel⟩,
   ⟨b0, { master := .core 0, tag := 0 }, 0x4B500101, by decide +kernel⟩,
   ⟨k1, { master := .core 0, tag := 0 }, 0x4B500202, ⟨by decide +kernel, by decide +kernel, by decide +kernel, by decide +kernel, by decide +kernel, 1, by decide +kernel⟩⟩,
   ⟨b0, { master := .core 0, tag := 0 }, 0x52420001, by decide +kernel⟩,
   ⟨r1, { master := .core 0, tag := 0 }, 0x52420001, by decide +kernel⟩⟩

theorem witness_NorAndPowerStates :
    (∃ (s : State) (w : Writer) (value : W32),
      let sec  := s.norPage / 1024
      s.admits w 0x022 (Reg.NOR_NCMD % 4096) = true ∧ keyed value 0x4E46 = true ∧ s.runningBank sec = false ∧ s.erasing sec = none ∧ s.boot.prog = none ∧ fieldOf value 14 2 = 1) ∧
    (∃ (s : State) (w : Writer) (value : W32),
      let sec  := s.norPage / 1024
      s.admits w 0x022 (Reg.NOR_NCMD % 4096) = true ∧ keyed value 0x4E46 = true ∧ s.runningBank sec = false ∧ s.erasing sec = none ∧ s.boot.prog = none ∧ fieldOf value 14 2 = 2 ∧ (s.norMarker sec ≠ norErased ∨ s.boot.blankOk.contains sec = true) ∧ s.pageBlank s.norPage = true) ∧
    (∃ (s : State) (w : Writer) (value : W32),
      let sec  := s.norPage / 1024
      s.admits w 0x022 (Reg.NOR_NCMD % 4096) = true ∧ keyed value 0x4E46 = true ∧ s.runningBank sec = true ∧ (fieldOf value 14 2 = 1 ∨ fieldOf value 14 2 = 2)) ∧
    (∃ (s : State) (bankB : Bool) (x : Nat),
      (s.erasing (if bankB then 0x200 else 0) = some x)) ∧
    (∃ (s : State) (page : Nat) (l : List Byte),
      s.boot.prog = some (page, l)) ∧
    (∃ (s : State) (w : Writer),
      s.admits w 0x003 (Reg.PWR_PSREQ % 4096) = true ∧ s.pwr.power = .run ∧ s.phase = 6) ∧
    (∃ (s : State) (w : Writer),
      s.admits w 0x003 (Reg.PWR_PSREQ % 4096) = true ∧ (s.pwr.power = .hold ∨ s.pwr.power = .run ∧ s.phase = 6)) ∧
    (∃ (s : State) (w : Writer),
      s.admits w 0x003 (Reg.PWR_PSREQ % 4096) = true ∧ s.pwr.power = .hold) ∧
    (∃ (s : State) (w : Writer) (key : BitVec 16),
      s.admits w 0x003 (Reg.PWR_PSREQ % 4096) = true ∧ (key ≠ 0x5053 ∨ s.phase ≠ 6 ∧ s.pwr.power = .run)) ∧
    (∃ (s : State),
      s.pwr.power = .save) :=
  ⟨⟨b0, { master := .core 0, tag := 0 }, 0x4E464000, by decide +kernel⟩,
   ⟨n2, { master := .core 0, tag := 0 }, 0x4E468000, by decide +kernel⟩,
   ⟨n6, { master := .core 0, tag := 0 }, 0x4E464000, by decide +kernel⟩,
   ⟨n3, false, 1, by decide +kernel⟩,
   ⟨n5, 0x3FF, (List.range 256).map (BitVec.ofNat 8), by decide +kernel⟩,
   ⟨st, { master := .core 0, tag := 0 }, by decide +kernel⟩,
   ⟨st, { master := .core 0, tag := 0 }, by decide +kernel⟩,
   ⟨hd, { master := .core 0, tag := 0 }, by decide +kernel⟩,
   ⟨b0, { master := .core 0, tag := 0 }, 0, by decide +kernel⟩,
   ⟨pw hd .save, by decide +kernel⟩⟩

end S17

namespace S18

def b0 := (domsOn ready0)
def a0 := unlock b0 0xF9
def ds (s : State) (panel : Nat) (f : DispState → DispState) : State := let s := s.setPanel panel; { s with disp := f s.disp }
def crack (s : State) : State := s.setFlag Reg.DISP_DSTAT 24 true
def an (f : AnChan → AnChan) (h : GroupState → GroupState := id) : State := let g := a0.grp anSlot; a0.setGrp anSlot (h ((g.setAn 0 (f {})).setAn 15 (f {})))
def drv (g : GroupState) : GroupState := { g with dom := 2, sup := 0, held := false, cfg := [(0x140, 0x02000000), (0x17C, 0x02000000), (0x180, 0x00003FFF)] }

theorem witness_PanelAndAnnunciatorsAct :
    (∃ (s : State) (w : Writer),
      s.admits w 0x0F9 Reg.CTRL = true ∧ s.panelOn = true ∧ s.panel = 0 ∧ s.flag Reg.DISP_DSTAT 24 = false) ∧
    (∃ (s : State) (w : Writer),
      s.admits w 0x0F9 Reg.CTRL = true ∧ s.panelOn = true ∧ s.flag Reg.DISP_DSTAT 24 = true) ∧
    (∃ (s : State) (w : Writer),
      s.admits w 0x0F9 Reg.CTRL = true ∧ s.panelOn = true ∧ s.panel ≠ 0 ∧ s.panel ≠ 4) ∧
    (∃ (s : State),
      s.panel = 1 ∧ s.disp.rails < 2) ∧
    (∃ (s : State),
      s.panel = 1 ∧ 2 ≤ s.disp.rails) ∧
    (∃ (s : State),
      s.panel = 2 ∧ s.disp.blanks = 0) ∧
    (∃ (s : State),
      s.panel = 4 ∧ s.disp.blanks = 0) ∧
    (∃ (s : State) (w : Writer) (value : W32),
      s.admits w 0x0F9 (Reg.DISP_FLIP % 4096) = true ∧ value.getLsbD 0 = true) ∧
    (∃ (s : State),
      s.panelOn = true ∧ s.flag Reg.DISP_DSTAT 25 = true) ∧
    (∃ (s : State),
      s.panelOn = true ∧ (∀ e ∈ s.disp.pend, e.1 / 4096 = 0xF9 ∧ e.1 ≠ Reg.DISP_DSTAT)) ∧
    (∃ (s : State) (ohm : W32),
      s.panelOn = true ∧ ohm.toNat < 1000 ∧ s.flag Reg.DISP_DSTAT 24 = true ∧ s.disp.retry = some 1) ∧
    (∃ (s : State) (ohm : W32),
      s.panelOn = true ∧ 10000 < ohm.toNat ∧ s.flag Reg.DISP_DSTAT 24 = false ∧ 1 ≤ s.disp.opens) ∧
    (∃ (s : State) (w : Writer) (value : W32),
      s.admits w 0x0F9 (Reg.DISP_LAMPTEST % 4096) = true ∧ value.getLsbD 0 = true ∧ keyed value 0x4C54 = true) ∧
    (∃ (s : State) (an : Fin 16),
      let c  := an.val
      let g  := s.grp anSlot
      let x  := g.anc c
      g.held = false ∧ x.on = true) ∧
    (∃ (s : State) (an : Fin 16),
      let c  := an.val
      let g  := s.grp anSlot
      let x  := g.anc c
      g.held = false ∧ x.on = false ∧ x.playsFor = none ∧ g.powered = true ∧ g.driving = true ∧ g.released = false ∧ (g.chCfg anSlot c).getLsbD 25 = true) ∧
    (∃ (s : State) (an : Fin 16),
      let c  := an.val
      let g  := s.grp anSlot
      let x  := g.anc c
      g.held = false ∧ g.powered = true ∧ g.driving = true ∧ x.tripped = false ∧ x.latched = false ∧ (g.anPlays c).isSome = true ∧ x.trips < 3) ∧
    (∃ (s : State) (an : Fin 16),
      let c  := an.val
      let g  := s.grp anSlot
      let x  := g.anc c
      g.held = false ∧ g.powered = true ∧ g.driving = true ∧ x.tripped = false ∧ x.latched = false ∧ (g.anPlays c).isSome = true ∧ 3 ≤ x.trips) ∧
    (∃ (s : State) (an : Fin 16),
      let c  := an.val
      let g  := s.grp anSlot
      let x  := g.anc c
      g.held = false ∧ g.sounding anSlot c = true ∧ x.latched = false) :=
  ⟨⟨b0, { master := .core 0, tag := 0 }, by decide +kernel⟩,
   ⟨crack a0, { master := .core 0, tag := 0 }, by decide +kernel⟩,
   ⟨ds a0 1 id, { master := .core 0, tag := 0 }, by decide +kernel⟩,
   ⟨ds a0 1 id, by decide +kernel⟩,
   ⟨ds a0 1 (fun d => { d with rails := 2 }), by decide +kernel⟩,
   ⟨ds a0 2 id, by decide +kernel⟩,
   ⟨ds a0 4 id, by decide +kernel⟩,
   ⟨b0, { master := .core 0, tag := 0 }, 1, by decide +kernel⟩,
   ⟨(ds a0 3 id).setFlag Reg.DISP_DSTAT 25 true, by decide +kernel⟩,
   ⟨b0, by decide +kernel⟩,
   ⟨ds (crack a0) 0 (fun d => { d with retry := some 1, open_ := true }), 0, by decide +kernel⟩,
   ⟨ds a0 3 (fun d => { d with blanks := 2, opens := 1, inverted := true, pend := [(0xF9104, some 5), (0xF9144, some 7)] }), 20000, by decide +kernel⟩,
   ⟨b0, { master := .core 0, tag := 0 }, 0x4C540001, by decide +kernel⟩,
   ⟨an (fun x => { x with on := true, phase := 77 }) drv, 0, by decide +kernel⟩,
   ⟨an id drv, 0, by decide +kernel⟩,
   ⟨an (fun x => { x with on := true, phase := 77 }) drv, 0, by decide +kernel⟩,
   ⟨an (fun x => { x with on := true, trips := 3 }) drv, 0, by decide +kernel⟩,
   ⟨an (fun x => { x with on := true, phase := 77 }) drv, 0, by decide +kernel⟩⟩

end S18

namespace S19

def b0 := (domsOn ready0)
def le4 (n : Nat) : List Byte := natBytes n 4
def body : List Byte := le4 0x03A00001 ++ le4 0x77 ++ le4 0 ++ le4 0 ++ le4 0xC0010100 ++ (List.replicate 93 (le4 0x80000100)).flatten ++ le4 0x80000000 ++ le4 0
  ++ (le4 3 ++ le4 0 ++ le4 0 ++ le4 0x98000000) ++ (le4 4 ++ le4 0 ++ le4 0 ++ le4 0x88000000) ++ (List.replicate 30 (le4 0 ++ le4 0 ++ le4 0 ++ le4 0)).flatten
def mkimg (b : List Byte) : List Byte := b ++ le4 (crc32c (b.take 0x390)).toNat ++ List.replicate 12 0
def img := mkimg body
def L (s : State) (x y : LaneState) : State := { s with laneX := x, laneY := y }
def run : LaneState := { st := 3, table := img, filt := 2^94-1, bank0 := some (1, img), raw := 5 }
def runx : LaneState := { run with cmds := 2 }
def fr : XFrame := { st := 3, causes := 1, effects := 0, cmds := 2, id := 0x77, check := 0, lock := false }
def lk : LaneState := { run with st := 4, lockout := true, code := 3, cmds := 0, record := some (run.recordBody true) }

theorem witness_SafetyLanesRunAndLockOut :
    (∃ (s : State) (lane : Fin 2),
      let n  := lane.val
      let x  := s.lane n
      2 ≤ x.st ∧ x.rx = none) ∧
    (∃ (s : State) (lane : Fin 2) (raw : BitVec 96) (f : XFrame),
      let n  := lane.val
      let x  := s.lane n
      let sound  := x.lockout = false ∧ x.st ≠ 5 ∧ 2 ≤ x.st
      2 ≤ x.st ∧ sound ∧ x.rx = some f ∧ x.st = 3 ∧ f.st = 3 ∧ x.causeDiff = 2 ∧ ({ x with raw := if x.sfs = 2 then 0 else raw.toNat }.causeVector ≠ f.causes)) ∧
    (∃ (s : State) (lane : Fin 2) (period : BitVec 16),
      let n  := lane.val
      let x  := s.lane n
      let o  := s.lane (1 - n)
      let inPeriod  := 9800 ≤ period.toNat ∧ period.toNat ≤ 10200
      x.st ≠ 0 ∧ o.st ≠ 0 ∧ o.lockout = false ∧ (inPeriod ∨ x.offPeriod < 2)) ∧
    (∃ (s : State) (lane : Fin 2) (period : BitVec 16),
      let n  := lane.val
      let x  := s.lane n
      let o  := s.lane (1 - n)
      let sound  := x.lockout = false ∧ x.st ≠ 5 ∧ 2 ≤ x.st
      let inPeriod  := 9800 ≤ period.toNat ∧ period.toNat ≤ 10200
      x.st ≠ 0 ∧ o.st ≠ 0 ∧ sound ∧ ¬inPeriod ∧ 2 ≤ x.offPeriod) ∧
    (∃ (s : State) (lane : Fin 2),
      let n  := lane.val
      let x  := s.lane n
      let o  := s.lane (1 - n)
      x.st ≠ 0 ∧ o.st ≠ 0 ∧ x.missed < 2) ∧
    (∃ (s : State) (lane : Fin 2) (period : BitVec 16),
      let n  := lane.val
      let x  := s.lane n
      let o  := s.lane (1 - n)
      let sound  := x.lockout = false ∧ x.st ≠ 5 ∧ 2 ≤ x.st
      let inPeriod  := 9800 ≤ period.toNat ∧ period.toNat ≤ 10200
      x.st ≠ 0 ∧ o.st ≠ 0 ∧ sound ∧ o.lockout = true ∧ inPeriod) ∧
    (∃ (s : State) (lane : Fin 2) (input : Fin 96) (mV : BitVec 16) (count : Nat),
      let n  := lane.val
      let x  := s.lane n
      let i  := input.val
      let raw  := decide (15000 ≤ mV.toNat) && x.sfs != 2
      let time  := if 94 ≤ i then 1000 else 25 * fieldOf (causeRec x.table (if causePaired x.table i then i / 2 * 2 else i)) 8 8
      let run  := sget (dflt 0) x.run i + count
      x.st ≠ 0 ∧ count ≠ 0 ∧ raw ≠ x.filt.testBit i ∧ time < run) ∧
    (∃ (s : State) (lane : Fin 2) (input : Fin 96) (mV : BitVec 16) (count : Nat),
      let n  := lane.val
      let x  := s.lane n
      let i  := input.val
      let raw  := decide (15000 ≤ mV.toNat) && x.sfs != 2
      let time  := if 94 ≤ i then 1000 else 25 * fieldOf (causeRec x.table (if causePaired x.table i then i / 2 * 2 else i)) 8 8
      let run  := sget (dflt 0) x.run i + count
      x.st ≠ 0 ∧ count ≠ 0 ∧ raw ≠ x.filt.testBit i ∧ run ≤ time) ∧
    (∃ (s : State) (lane : Fin 2) (input : Fin 96) (mV : BitVec 16) (count : Nat),
      let n  := lane.val
      let x  := s.lane n
      let i  := input.val
      let raw  := decide (15000 ≤ mV.toNat) && x.sfs != 2
      x.st ≠ 0 ∧ count ≠ 0 ∧ raw = x.filt.testBit i) ∧
    (∃ (s : State) (lane : Fin 2) (pair : Fin 47),
      let n  := lane.val
      let x  := s.lane n
      x.st ≠ 0 ∧ causePaired x.table (2 * pair.val) = true ∧ x.filt.testBit (2 * pair.val) ≠ x.filt.testBit (2 * pair.val + 1)) ∧
    (∃ (s : State) (lane : Fin 2) (input : Fin 96),
      let n  := lane.val
      let x  := s.lane n
      let i  := input.val
      2 ≤ x.st ∧ x.failing.contains i = false) ∧
    (∃ (s : State) (lane : Fin 2) (output : Fin 32),
      let n  := lane.val
      let x  := s.lane n
      let k  := output.val
      2 ≤ x.st ∧ x.st = 3 ∧ ((if (effectRec x.table k).getLsbD 27 then x.cmds.testBit k else x.effects.testBit k) = true)) ∧
    (∃ (s : State) (lane : Fin 2) (t0 : List Byte),
      let n  := lane.val
      let x  := s.lane n
      2 ≤ x.st ∧ checkMatches t0 = true) ∧
    (∃ (s : State) (lane : Fin 2) (input : Fin 96),
      let n  := lane.val
      let x  := s.lane n
      let i  := input.val
      let sound  := x.lockout = false ∧ x.st ≠ 5 ∧ 2 ≤ x.st
      sound ∧ x.failing.contains i = true) ∧
    (∃ (s : State) (lane : Fin 2) (output : Fin 32),
      let n  := lane.val
      let x  := s.lane n
      let k  := output.val
      let sound  := x.lockout = false ∧ x.st ≠ 5 ∧ 2 ≤ x.st
      sound ∧ x.st = 3 ∧ ((if (effectRec x.table k).getLsbD 27 then x.cmds.testBit k else x.effects.testBit k) = true)) ∧
    (∃ (s : State) (lane : Fin 2) (t0 : List Byte),
      let n  := lane.val
      let x  := s.lane n
      let sound  := x.lockout = false ∧ x.st ≠ 5 ∧ 2 ≤ x.st
      sound ∧ checkMatches t0 = false) ∧
    (∃ (s : State) (lane : Fin 2) (body : List Byte),
      let n  := lane.val
      let x  := s.lane n
      x.record = some body ∧ s.rst.phase = .running) :=
  ⟨⟨L b0 run run, 0, by decide +kernel⟩,
   ⟨L b0 { runx with rx := some fr, causeDiff := 2 } runx, 0, 0, fr, by decide +kernel⟩,
   ⟨L b0 run run, 0, 0, by decide +kernel⟩,
   ⟨L b0 { run with offPeriod := 2 } run, 0, 0, by decide +kernel⟩,
   ⟨L b0 run run, 0, by decide +kernel⟩,
   ⟨L b0 runx lk, 0, 10000, by decide +kernel⟩,
   ⟨L b0 run run, 0, 0, 0, 0x1000, by decide +kernel⟩,
   ⟨L b0 run run, 0, 0, 0, 1, by decide +kernel⟩,
   ⟨L b0 run run, 0, 0, 60000, 1, by decide +kernel⟩,
   ⟨L b0 { run with filt := 1, failing := [0, 95], missed := 1, sfs := 2, rbOut := 3 } run, 0, 0, by decide +kernel⟩,
   ⟨L b0 run run, 0, 0, by decide +kernel⟩,
   ⟨L b0 runx runx, 0, 1, by decide +kernel⟩,
   ⟨L b0 run run, 0, [], by decide +kernel⟩,
   ⟨L b0 { run with filt := 1, failing := [0, 95], missed := 1, sfs := 2, rbOut := 3 } run, 0, 0, by decide +kernel⟩,
   ⟨L b0 runx runx, 0, 1, by decide +kernel⟩,
   ⟨L b0 run run, 0, List.replicate 8 0, by decide +kernel⟩,
   ⟨L b0 lk lk, 0, run.recordBody true, by decide +kernel⟩⟩

end S19

namespace S20

def b0 := (domsOn ready0)
def le4 (n : Nat) : List Byte := natBytes n 4
def body : List Byte := le4 0x03A00001 ++ le4 0x77 ++ le4 0 ++ le4 0 ++ le4 0xC0010100 ++ (List.replicate 93 (le4 0x80000100)).flatten ++ le4 0x80000000 ++ le4 0
  ++ (le4 3 ++ le4 0 ++ le4 0 ++ le4 0x98000000) ++ (le4 4 ++ le4 0 ++ le4 0 ++ le4 0x88000000) ++ (List.replicate 30 (le4 0 ++ le4 0 ++ le4 0 ++ le4 0)).flatten
def mkimg (b : List Byte) : List Byte := b ++ le4 (crc32c (b.take 0x390)).toNat ++ List.replicate 12 0
def img := mkimg body
def L (s : State) (x y : LaneState) : State := { s with laneX := x, laneY := y }
def run : LaneState := { st := 3, table := img, filt := 2^94-1, bank0 := some (1, img), raw := 5 }
def runl : LaneState := { run with latched := 3, filt := 7, outFlt := 2, cmds := 2 }
def lk : LaneState := { run with st := 4, lockout := true, code := 3, cmds := 0, record := some (run.recordBody true) }
def tk : LaneState := { run with st := 2, rbIn := 3, rbMid := 7 }
def cf : LaneState := { run with st := 5, result := 6, pressFresh := true, staged := some img }
def cfx (f : LaneState → LaneState) := L b0 (f cf) (f cf)
def bare : LaneState := { bank0 := some (1, []), bank1 := some (2, []) }
def st0 : LaneState := { bank0 := some (1, img), bank1 := some (2, img) }

theorem witness_SafetyLanesStartAndAreConfigured :
    (∃ (s : State),
      s.laneX.st ≠ 0 ∧ s.laneY.st ≠ 0) ∧
    (∃ (s : State) (dx : BitVec 16) (dy : BitVec 16),
      let valid  := 50 ≤ dx.toNat ∧ dx.toNat ≤ 500 ∧ 50 ≤ dy.toNat ∧ dy.toNat ≤ 500
      let states  := fun (k : Nat) => s.laneX.st = k ∧ s.laneY.st = k
      valid ∧ states 3) ∧
    (∃ (s : State) (dx : BitVec 16) (dy : BitVec 16),
      let valid  := 50 ≤ dx.toNat ∧ dx.toNat ≤ 500 ∧ 50 ≤ dy.toNat ∧ dy.toNat ≤ 500
      let states  := fun (k : Nat) => s.laneX.st = k ∧ s.laneY.st = k
      valid ∧ states 5 ∧ (∀ l < 2, (s.lane l).result = 6 ∧ (s.lane l).pressFresh = true)) ∧
    (∃ (s : State) (dx : BitVec 16) (dy : BitVec 16),
      let valid  := 50 ≤ dx.toNat ∧ dx.toNat ≤ 500 ∧ 50 ≤ dy.toNat ∧ dy.toNat ≤ 500
      let states  := fun (k : Nat) => s.laneX.st = k ∧ s.laneY.st = k
      valid ∧ states 4) ∧
    (∃ (s : State),
      let states  := fun (k : Nat) => s.laneX.st = k ∧ s.laneY.st = k
      states 4 ∧ s.laneX.testing = true ∧ s.laneY.testing = true) ∧
    (∃ (s : State),
      (∀ l < 2, 2 ≤ (s.lane l).st ∧ (s.lane l).st ≠ 5) ∧ (∀ l < 2, (s.lane l).cmds = 0 ∧ (s.lane l).rbOut = 0)) ∧
    (∃ (s : State),
      (∀ l < 2, 2 ≤ (s.lane l).st ∧ (s.lane l).st ≠ 5) ∧ (∃ l < 2, (s.lane l).cmds ≠ 0 ∨ (s.lane l).rbOut ≠ 0)) ∧
    (∃ (s : State) (lane : Fin 2),
      let n  := lane.val
      let x  := s.lane n
      x.st = 5 ∧ s.rst.phase = .running) ∧
    (∃ (s : State),
      s.laneX.confirmed = true ∧ s.laneY.confirmed = true) ∧
    (∃ (s : State) (lane : Fin 2) (b : Nat) (img : List Byte),
      let n  := lane.val
      let x  := s.lane n
      let o  := s.lane (1 - n)
      x.st ≤ 1 ∧ o.st = 0 ∧ x.selectBank = some (b, img) ∧ x.lockout = false) ∧
    (∃ (s : State) (lane : Fin 2) (b : Nat) (img : List Byte),
      let n  := lane.val
      let x  := s.lane n
      let o  := s.lane (1 - n)
      x.st ≤ 1 ∧ o.st = 0 ∧ x.selectBank = some (b, img) ∧ x.lockout = true ∧ (x.st = 0 ∨ x.result ≠ 7)) ∧
    (∃ (s : State),
      let states  := fun (k : Nat) => s.laneX.st = k ∧ s.laneY.st = k
      states 2 ∧ (∀ l < 2, (s.lane l).lockout = false ∧ (s.lane l).sfs ≠ 3 ∧ 0 < (s.lane l).cycle ∧
          (s.lane l).cmds = (s.lane l).rbIn % 2 ^ 32 ∧ (s.lane l).rbIn &&& (s.lane l).rbMid = (s.lane l).rbIn)) ∧
    (∃ (s : State),
      let states  := fun (k : Nat) => s.laneX.st = k ∧ s.laneY.st = k
      states 2 ∧ s.laneX.bh = true ∧ s.laneY.bh = true) ∧
    (∃ (s : State) (lane : Fin 2),
      let n  := lane.val
      let x  := s.lane n
      s.rst.phase = .running ∧ x.st ≠ 0) ∧
    (∃ (s : State) (lane : Fin 2),
      let n  := lane.val
      s.flag (rk (mirrorPage n) 0x100) 31 = false) :=
  ⟨⟨L b0 runl runl, by decide +kernel⟩,
   ⟨L b0 runl runl, 50, 50, by decide +kernel⟩,
   ⟨cfx id, 50, 50, by decide +kernel⟩,
   ⟨L b0 lk lk, 50, 50, by decide +kernel⟩,
   ⟨L b0 { lk with testing := true } { lk with testing := true }, by decide +kernel⟩,
   ⟨L b0 lk lk, by decide +kernel⟩,
   ⟨L b0 runl runl, by decide +kernel⟩,
   ⟨cfx id, 0, by decide +kernel⟩,
   ⟨cfx fun x => { x with confirmed := true, bank := 1, bank1 := some (4, img) }, by decide +kernel⟩,
   ⟨L b0 bare {}, 0, 1, [], by decide +kernel⟩,
   ⟨L b0 { bare with lockout := true, code := 3, st := 1, result := 6 } {}, 0, 1, [], by decide +kernel⟩,
   ⟨L b0 { tk with cycle := 5, cmds := 3 } { tk with cycle := 5, cmds := 3 }, by decide +kernel⟩,
   ⟨L b0 { tk with bh := true } { tk with bh := true }, by decide +kernel⟩,
   ⟨L b0 runl runl, 0, by decide +kernel⟩,
   ⟨((L b0 st0 {}).setFlag (rk 0xC0 0x100) 31 false).setFlag (rk 0xC1 0x100) 31 false, 0, by decide +kernel⟩⟩

end S20

namespace S21

def b0 := (domsOn ready0)
def e0 : State := unlock (unlock (en (en b0 0xB9) 0xBA) 0xB9) 0xBA
def cap (s : State) (f : CapState → CapState) : State := { s with cap := f s.cap }
def tm (s : State) (f : TimeState → TimeState) : State := { s with time := f s.time }
def sh := (tm e0 fun t => { t with ltb := 1000, ots := 5000 <<< 32 }).setReg Reg.SHUT_EDGEm 0xFFFFFFFF |>.setReg (Reg.SHUT_EDGEm + 4*32) 1
def r0 : ShutRec := { ots := 1, ltb := 2, word := 3, count := 4 }
def shFull := cap sh fun c => { c with fifo := List.replicate 1024 r0 }
def sh1 := cap sh fun c => { c with fifo := List.replicate 1024 r0, lastEdge := [(0, some 995), (1, some 3)] }
def ar (s : State) (id rb rc t : Nat) : State := (((s.setReg Reg.CSHEET_ID (BitVec.ofNat 32 id)).setReg Reg.CSHEET_RBASE (BitVec.ofNat 32 rb)).setReg Reg.CSHEET_RCNT (BitVec.ofNat 32 rc)).setReg Reg.CSHEET_T_LO (BitVec.ofNat 32 t)
def sn (k : Nat) : Snapshot := { slot := k, id := 100 + k, t := 7 }
def c8 := cap (ar sh 5 0 2 0) fun c => { c with snaps := (List.range 8).map sn }
def c1 := cap (ar sh 100 0 2 0) fun c => { c with snaps := [sn 0] }
def x1 : Snapshot := { slot := 0, id := 9, t := 900, ltbT := some 900, partially := true, latched := [1] }
def x2 : Snapshot := { slot := 7, id := 9, t := 900, ltbT := some 900, latched := [3] }
def cnt (s : State) : State := (s.setReg (rk 0xB4 0x140) 0x10000000).setReg (rk 0xB4 0x144) 0x20000000
def f1 := cap (ar sh 0 0x1000 2 0) fun c => { c with snaps := [x1, sn 3] }
def f2 := cap (ar (cnt sh) 0 0x1000 2 0) fun c => { c with snaps := [x2] }

theorem witness_EdgesAndSnapshotsAreCaptured :
    (∃ (s : State) (chan : Fin 576) (rising : Bool),
      let n  := chan.val
      let alive  := ∀ t0 : W64, sget (dflt none) s.cap.lastEdge n = some t0 → 8 ≤ (s.time.ltb - t0).toNat
      s.shutOn = true ∧ s.shutSelected n rising = true ∧ s.shutCarries n = true ∧ alive ∧ s.cap.fifo.length < 1024) ∧
    (∃ (s : State) (chan : Fin 576) (rising : Bool),
      let n  := chan.val
      let alive  := ∀ t0 : W64, sget (dflt none) s.cap.lastEdge n = some t0 → 8 ≤ (s.time.ltb - t0).toNat
      s.shutOn = true ∧ s.shutSelected n rising = true ∧ s.shutCarries n = true ∧ alive ∧ 1024 ≤ s.cap.fifo.length) ∧
    (∃ (s : State) (chan : Fin 576) (rising : Bool) (t0 : W64),
      let n  := chan.val
      s.shutOn = true ∧ s.shutSelected n rising = true ∧ s.shutCarries n = true ∧ sget (dflt none) s.cap.lastEdge n = some t0 ∧ (s.time.ltb - t0).toNat < 8) ∧
    (∃ (s : State) (w : Writer) (value : W32),
      s.admits w 0x0B9 (Reg.SHUT_POP % 4096) = true ∧ value.getLsbD 0 = true) ∧
    (∃ (s : State) (w : Writer) (value : W32),
      s.admits w 0x0BA (Reg.CSHEET_CMD % 4096) = true ∧ s.flag (rk 0x0BA Reg.CTRL) 0 = true ∧ value.getLsbD 31 = true ∧ 8 ≤ s.cap.snaps.length) ∧
    (∃ (s : State) (w : Writer) (value : W32),
      let id  := s.fld Reg.CSHEET_ID 0 16
      let same  := s.cap.snaps.any fun x => x.id == id
      s.admits w 0x0BA (Reg.CSHEET_CMD % 4096) = true ∧ s.flag (rk 0x0BA Reg.CTRL) 0 = true ∧ value.getLsbD 31 = true ∧ s.cap.snaps.length < 8 ∧ same = true) ∧
    (∃ (s : State) (w : Writer) (value : W32),
      let id  := s.fld Reg.CSHEET_ID 0 16
      let same  := s.cap.snaps.any fun x => x.id == id
      let room  := s.fld Reg.CSHEET_RBASE 0 23 + s.fld Reg.CSHEET_RCNT 0 7 * 4096 ≤ 8388608
      s.admits w 0x0BA (Reg.CSHEET_CMD % 4096) = true ∧ s.flag (rk 0x0BA Reg.CTRL) 0 = true ∧ value.getLsbD 31 = true ∧ s.cap.snaps.length < 8 ∧ same = false ∧ ¬room) ∧
    (∃ (s : State) (w : Writer) (value : W32),
      let id  := s.fld Reg.CSHEET_ID 0 16
      let at_  := s.reg64 Reg.CSHEET_T_LO
      let same  := s.cap.snaps.any fun x => x.id == id
      let room  := s.fld Reg.CSHEET_RBASE 0 23 + s.fld Reg.CSHEET_RCNT 0 7 * 4096 ≤ 8388608
      s.admits w 0x0BA (Reg.CSHEET_CMD % 4096) = true ∧ s.flag (rk 0x0BA Reg.CTRL) 0 = true ∧ value.getLsbD 31 = true ∧ s.cap.snaps.length < 8 ∧ same = false ∧ room ∧ at_.toNat < s.otsNs.toNat + 20000) ∧
    (∃ (s : State) (w : Writer) (value : W32),
      let id  := s.fld Reg.CSHEET_ID 0 16
      let at_  := s.reg64 Reg.CSHEET_T_LO
      let same  := s.cap.snaps.any fun x => x.id == id
      let room  := s.fld Reg.CSHEET_RBASE 0 23 + s.fld Reg.CSHEET_RCNT 0 7 * 4096 ≤ 8388608
      s.admits w 0x0BA (Reg.CSHEET_CMD % 4096) = true ∧ s.flag (rk 0x0BA Reg.CTRL) 0 = true ∧ value.getLsbD 31 = true ∧ s.cap.snaps.length < 8 ∧ same = false ∧ room ∧ s.otsNs.toNat + 20000 ≤ at_.toNat) ∧
    (∃ (s : State) (w : Writer) (value : W32),
      let id  := s.fld Reg.CSHEET_ID 0 16
      s.admits w 0x0BA (Reg.CSHEET_CMD % 4096) = true ∧ s.flag (rk 0x0BA Reg.CTRL) 0 = true ∧ value.getLsbD 31 = false ∧ value.getLsbD 30 = true ∧ (∃ x ∈ s.cap.snaps, x.id = id)) ∧
    (∃ (s : State) (w : Writer) (value : W32),
      let id  := s.fld Reg.CSHEET_ID 0 16
      s.admits w 0x0BA (Reg.CSHEET_CMD % 4096) = true ∧ s.flag (rk 0x0BA Reg.CTRL) 0 = true ∧ value.getLsbD 31 = false ∧ value.getLsbD 30 = true ∧ (∀ x ∈ s.cap.snaps, x.id ≠ id)) ∧
    (∃ (s : State) (slot : Fin 8) (x : Snapshot) (t0 : W64),
      let all  := s.countingChannels.all fun c => x.latched.contains c
      s.cap.snaps.find? (fun y => y.slot == slot.val) = some x ∧ x.ltbT = some t0 ∧ t0.toNat ≤ s.time.ltb.toNat ∧ (x.partially = true ∨ all = true)) ∧
    (∃ (s : State) (slot : Fin 8) (x : Snapshot) (t0 : W64),
      let all  := s.countingChannels.all fun c => x.latched.contains c
      s.cap.snaps.find? (fun y => y.slot == slot.val) = some x ∧ x.ltbT = some t0 ∧ x.partially = false ∧ all = false) :=
  ⟨⟨sh, 0, false, ⟨by decide +kernel, by decide +kernel, by decide +kernel, fun _ h => absurd ((by decide +kernel : sget (dflt none) sh.cap.lastEdge 0 = none).symm.trans h) (by simp), by decide +kernel⟩⟩,
   ⟨shFull, 0, false, ⟨by decide +kernel, by decide +kernel, by decide +kernel, fun _ h => absurd ((by decide +kernel : sget (dflt none) shFull.cap.lastEdge 0 = none).symm.trans h) (by simp), by decide +kernel⟩⟩,
   ⟨sh1, 0, false, 995, by decide +kernel⟩,
   ⟨b0, { master := .core 0, tag := 0 }, 1, by decide +kernel⟩,
   ⟨c8, { master := .core 0, tag := 0 }, 0x80000000, by decide +kernel⟩,
   ⟨c1, { master := .core 0, tag := 0 }, 0x80000000, by decide +kernel⟩,
   ⟨ar sh 1 0x7FF000 64 0, { master := .core 0, tag := 0 }, 0x80000000, by decide +kernel⟩,
   ⟨e0, { master := .core 0, tag := 0 }, 0x80000000, by decide +kernel⟩,
   ⟨ar sh 1 0 2 25000, { master := .core 0, tag := 0 }, 0x80000000, by decide +kernel⟩,
   ⟨c1, { master := .core 0, tag := 0 }, 0x40000000, by decide +kernel⟩,
   ⟨e0, { master := .core 0, tag := 0 }, 0x40000000, by decide +kernel⟩,
   ⟨f1, 0, x1, 900, by decide +kernel⟩,
   ⟨f2, 7, x2, 900, by decide +kernel⟩⟩

end S21

namespace S22

def b0 := (domsOn ready0)
def e0 : State := unlock (unlock (en (en b0 0xD0) 0xD1) 0xD0) 0xD1
def pr (s : State) (f : PairState → PairState) : State := { s with pair := f s.pair }
def ln (s : State) (a b : Bool) : State := (s.setFlag Reg.TWIN_LANE_STAT 3 a).setFlag Reg.TWIN_LANE_STAT 7 b
def peer (s : State) (claim : Nat) : State := (s.setFlag Reg.CLAIM_PEER 16 true).setFld Reg.CLAIM_PEER 0 16 claim
def act := peer (ln (role e0 2 3) true true) 0x8000
def actS := act.setFlag Reg.TWIN_SYNC 27 true
def act3 := pr ((peer act 0x8500).setFld Reg.CLAIM_CFG 0 17 0x10002) fun p => { p with hbSeq0 := some 255, hbSeq1 := some 3, moved := [0x80, 0xB8], fromPeer := [0x80] }
def actg := pr actS fun p => { p with sched := some (0, .given), moved := [0x80] }
def actw := pr actS fun p => { p with withdraw := true, moved := [0x80] }
def sby := pr ((peer (ln (role e0 3 2) true true) 0xC000).setFlag Reg.TWIN_SYNC 27 true) fun p => { p with ready := true, hbSeq0 := some 4 }
def sbyt := pr (sby.setReg Reg.DBG_DLEVEL 3) fun p => { p with sched := some (0, .taken) }
def sbyv := pr (sby.setFld Reg.CLAIM_PEER 18 2 1) fun p => { p with verdict := true, verdictDue := true }
def actv := pr (role sby 2 3) fun p => { p with verdict := true, verdictDue := true }
def off6 := role e0 6 0
def off6u := ln off6 true false
def syn := (peer (ln (role e0 4 1) true true) 0xC000).setPhase 3
def hb (q : Nat) (claim : Nat) : Heartbeat := { seq := BitVec.ofNat 8 q, sameOrder := true, claim := BitVec.ofNat 16 claim, role := 3, frame := 77, phase := 100, sent := 3 }
def act4 : State := let s := peer (act3.setFld Reg.CLAIM_OWN 4 10 0x10) 0x8500; { s with proof := { s.proof with margin := some 0 }, time := { s.time with ltb := 200000000 } }
def actf := pr actS fun p => { p with sched := some (0, .faulted), moved := [0x80] }
def actr : State := act3.setGrp 0 { act3.grp 0 with link := { (act3.grp 0).link with rxOk := true } }

theorem witness_TwinLinkTakeoverAndSwitchOver :
    (∃ (s : State) (lane : Fin 2) (hb : Heartbeat),
      let n  := lane.val
      s.twinOn = true ∧ (s.hbSeq n = none ∨ ∃ q, s.hbSeq n = some q ∧ hb.seq = q + 1)) ∧
    (∃ (s : State) (lane : Fin 2) (hb : Heartbeat) (q : Byte),
      let n  := lane.val
      s.twinOn = true ∧ s.hbSeq n = some q ∧ hb.seq ≠ q + 1) ∧
    (∃ (s : State) (lane : Fin 2),
      let n  := lane.val
      s.twinOn = true ∧ s.laneUp n = false) ∧
    (∃ (s : State) (lane : Fin 2) (mc : Bool),
      let n  := lane.val
      s.twinOn = true ∧ (mc = false ∨ s.laneUp (1 - n) = true)) ∧
    (∃ (s : State) (lane : Fin 2),
      let n  := lane.val
      s.twinOn = true ∧ s.laneUp (1 - n) = false) ∧
    (∃ (s : State) (lane : Fin 2),
      let n  := lane.val
      s.laneUp n = true ∧ s.laneUp (1 - n) = true) ∧
    (∃ (s : State),
      s.flag Reg.CLAIM_PEER 16 = true ∧ s.role = 3 ∧ s.pair.ready = true) ∧
    (∃ (s : State),
      s.flag Reg.CLAIM_PEER 16 = true ∧ (s.role ≠ 3 ∨ s.pair.ready = false) ∧ s.restartable = false) ∧
    (∃ (s : State),
      s.flag Reg.CLAIM_PEER 16 = true ∧ (s.role ≠ 3 ∨ s.pair.ready = false) ∧ s.restartable = true) ∧
    (∃ (s : State),
      s.pair.verdict = true ∧ s.pair.verdictDue = true ∧ s.fld Reg.CLAIM_PEER 18 2 = 1) ∧
    (∃ (s : State),
      s.pair.verdict = true ∧ s.pair.verdictDue = true ∧ s.fld Reg.CLAIM_PEER 18 2 ≠ 1) ∧
    (∃ (s : State),
      s.role = 6 ∧ (s.laneUp 0 = true ∨ s.laneUp 1 = true)) ∧
    (∃ (s : State),
      s.role = 6 ∧ s.laneUp 0 = false ∧ s.laneUp 1 = false ∧ s.fld Reg.CLAIM_PEER 18 2 = 0) ∧
    (∃ (s : State) (w : Writer) (value : W32),
      let can  := s.peerReady = true ∧ (s.flag Reg.PWR_SUP_STAT 8 = false ∨ s.pair.peerBrownout = false)
      s.admits w 0x0D1 (Reg.CLAIM_SWITCH % 4096) = true ∧ value.getLsbD 0 = true ∧ keyed value 0x5357 = true ∧ can ∧ s.pair.sched = none ∧ s.pair.withdraw = false) ∧
    (∃ (s : State) (w : Writer) (value : W32),
      let can  := s.peerReady = true ∧ (s.flag Reg.PWR_SUP_STAT 8 = false ∨ s.pair.peerBrownout = false)
      s.admits w 0x0D1 (Reg.CLAIM_SWITCH % 4096) = true ∧ value.getLsbD 0 = true ∧ (keyed value 0x5357 = false ∨ ¬can)) ∧
    (∃ (s : State),
      let can  := s.peerReady = true ∧ (s.flag Reg.PWR_SUP_STAT 8 = false ∨ s.pair.peerBrownout = false)
      s.role = 2 ∧ s.flag Reg.CLAIM_CFG 16 = true ∧ can ∧ s.fld Reg.CLAIM_OWN 4 10 + s.fld Reg.CLAIM_CFG 0 10 ≤ s.fld Reg.CLAIM_PEER 4 10 ∧ (∃ t0, s.proof.margin = some t0 ∧ 125000000 ≤ (s.time.ltb - t0).toNat) ∧ s.pair.sched = none ∧ s.pair.withdraw = false) ∧
    (∃ (s : State) (g : W64),
      notAfter g s.lfi = true ∧ s.pair.sched = some (g, .given)) ∧
    (∃ (s : State) (g : W64),
      notAfter g s.lfi = true ∧ s.pair.sched = some (g, .faulted)) ∧
    (∃ (s : State) (g : W64),
      notAfter g s.lfi = true ∧ s.pair.sched = some (g, .taken)) ∧
    (∃ (s : State),
      s.pair.withdraw = true) ∧
    (∃ (s : State) (group : Fin 57),
      s.pair.moved.contains (grpPage group.val) = true ∧ s.holder = true ∧ (s.grp group.val).link.rxOk = true) :=
  ⟨⟨e0, 0, hb 0 0x8001, by decide +kernel⟩,
   ⟨act3, 0, hb 5 0xC000, 255, by decide +kernel⟩,
   ⟨e0, 0, by decide +kernel⟩,
   ⟨e0, 0, false, by decide +kernel⟩,
   ⟨e0, 0, by decide +kernel⟩,
   ⟨act, 0, by decide +kernel⟩,
   ⟨sby, by decide +kernel⟩,
   ⟨act, by decide +kernel⟩,
   ⟨syn, by decide +kernel⟩,
   ⟨sbyv, by decide +kernel⟩,
   ⟨actv, by decide +kernel⟩,
   ⟨off6u, by decide +kernel⟩,
   ⟨off6, by decide +kernel⟩,
   ⟨act, { master := .core 0, tag := 0 }, 0x53570001, by decide +kernel⟩,
   ⟨b0, { master := .core 0, tag := 0 }, 1, by decide +kernel⟩,
   ⟨act4, ⟨by decide +kernel, by decide +kernel, by decide +kernel, by decide +kernel, ⟨0, by decide +kernel⟩, by decide +kernel, by decide +kernel⟩⟩,
   ⟨actg, 0, by decide +kernel⟩,
   ⟨actf, 0, by decide +kernel⟩,
   ⟨sbyt, 0, by decide +kernel⟩,
   ⟨actw, by decide +kernel⟩,
   ⟨actr, 0, by decide +kernel⟩⟩

end S22

namespace S23

def b0 := (domsOn ready0)
def e0 : State := unlock (unlock (en (en b0 0xD0) 0xD1) 0xD0) 0xD1
def pr (s : State) (f : PairState → PairState) : State := { s with pair := f s.pair }
def ln (s : State) (a b : Bool) : State := (s.setFlag Reg.TWIN_LANE_STAT 3 a).setFlag Reg.TWIN_LANE_STAT 7 b
def sd (s : State) : State := s.setFld Reg.SYS_CT_ID 0 2 1
def task0 : TaskDesc := { cls := .event, core := 0, qdepth := 2, block0 := 0x100, block1 := 0x300, select := 0x500, stackTop := 0x200010000, fbList := [(0x200000100, 0x100000800)], instances := [0x600], retains := [0x601], outLen := 4 }
def rnI (s : State) : State := { s with boot := { s.boot with running := true, image := some { tasks := [(0, task0), (3, { task0 with cls := .cyclic, core := 1 })] } } }
def act := rnI (sd (ln (role e0 2 3) true true))
def sby := pr (rnI (sd ((ln (role e0 3 2) true true).setFlag Reg.TWIN_SYNC 27 true))) fun p => { p with ready := true }
def syn := rnI (sd (ln (role e0 4 1) true true))
def fr : CanFrame := { id := 5, ide := false, rtr := false, fdf := true, brs := true, esi := false, dlc := 3, data := [1,2,3] }
def cstage (s : State) : State := s.setCanCtl 2 { s.canCtl 2 with staging := [{ obj := 3, frame := fr, stamps := ⟨1,2⟩, release := none }] }
def rcp (i : NetIface) : Receipt := { iface := i, dest := 9, len := 3, crc := crc64 (canBytes fr), release := 50, stamps := ⟨7,8⟩ }
def bursts := [((0 : Fin 57), (List.range 47).map (BitVec.ofNat 8)), ((56 : Fin 57), (List.range 50).map (BitVec.ofNat 8))]
def enG (s : State) : State := (en (en s 0x80) 0xB8)

theorem witness_TwinCellsTakeEffect :
    (∃ (s : State) (bursts : List (Fin 57 × List Byte)) (x : Fin 57 × List Byte),
      s.relays = true ∧ (∀ x ∈ bursts, ∀ y ∈ bursts, x.1 = y.1 → x = y) ∧ x ∈ bursts ∧ s.linkOn x.1.val = true) ∧
    (∃ (s : State),
      s.twinOn = true ∧ s.follower = true) ∧
    (∃ (s : State) (r : Receipt),
      s.follower = true ∧ (match r.iface with
        | .can n => s.claimCan n.val r = none
        | .eth sw => s.claimEth sw.val r = none)) ∧
    (∃ (s : State) (r : Receipt) (n : Fin 8) (x : StagedCan),
      s.follower = true ∧ r.iface = .can n ∧ (s.canCtl n.val).staging.find? (fun e => e.release.isNone && crc64 (canBytes e.frame) == r.crc) = some x) ∧
    (∃ (s : State),
      s.twinOn = true ∧ (s.role = 4 ∨ s.follower = true)) :=
  ⟨⟨enG act, bursts, (0, (List.range 47).map (BitVec.ofNat 8)), by decide +kernel⟩,
   ⟨sby, by decide +kernel⟩,
   ⟨sby, rcp (.can 0), ⟨by decide +kernel, (by decide +kernel : sby.claimCan 0 (rcp (.can 0)) = none)⟩⟩,
   ⟨cstage sby, rcp (.can 2), 2, { obj := 3, frame := fr, stamps := ⟨1,2⟩, release := none }, by decide +kernel⟩,
   ⟨enG syn, by decide +kernel⟩⟩

end S23

namespace S24

def b0 := (domsOn ready0)
def e0 : State := unlock (unlock (en (en b0 0xD0) 0xD1) 0xD0) 0xD1
def pr (s : State) (f : PairState → PairState) : State := { s with pair := f s.pair }
def ln (s : State) (a b : Bool) : State := (s.setFlag Reg.TWIN_LANE_STAT 3 a).setFlag Reg.TWIN_LANE_STAT 7 b
def sd (s : State) : State := s.setFld Reg.SYS_CT_ID 0 2 1
def task0 : TaskDesc := { cls := .event, core := 0, qdepth := 2, block0 := 0x100, block1 := 0x300, select := 0x500, stackTop := 0x200010000, fbList := [(0x200000100, 0x100000800)], instances := [0x600], retains := [0x601], outLen := 4 }
def rnI (s : State) : State := { s with boot := { s.boot with running := true, image := some { tasks := [(0, task0), (3, { task0 with cls := .cyclic, core := 1 })] } } }
def act := rnI (sd (ln (role e0 2 3) true true))
def syn := rnI (sd (ln (role e0 4 1) true true))
def st (n : Nat) := syn.setStep n
def img0 (s : State) : State := { s with boot := { s.boot with digest := 5 } }
def al (s : State) (n : Nat) : State := pr s fun p => { p with aligned := true, inTol := n, peerFrame := 77, peerPhase := 15600 }
def tsk (s : State) (l : List Nat) : State := l.foldl (fun s k => s.setTask k { s.task k with joining := true }) s
def lf (s : State) (n : Nat) : State := s.setReg64 Reg.SYS_LFI_LO (BitVec.ofNat 64 n)
def bulk (n : Nat) : State := pr act fun p => { p with marking := true, marked := List.range n }

theorem witness_ReintegrationGoesStepByStep :
    (∃ (s : State) (same : Bool) (digest : BitVec 384),
      s.atStep 1 = true ∧ same = true ∧ digest = s.boot.digest) ∧
    (∃ (s : State) (same : Bool) (digest : BitVec 384),
      s.atStep 1 = true ∧ (same = false ∨ digest ≠ s.boot.digest)) ∧
    (∃ (s : State),
      s.atStep 2 = true ∧ s.laneUp 0 = true ∧ s.laneUp 1 = true ∧ s.pair.aligned = false) ∧
    (∃ (s : State),
      s.atStep 2 = true ∧ s.laneUp 0 = true ∧ s.laneUp 1 = true ∧ s.pair.aligned = true ∧ 16 ≤ s.pair.inTol) ∧
    (∃ (s : State),
      s.atStep 3 = true) ∧
    (∃ (s : State),
      s.atStep 3 = false ∧ s.pair.marking = true) ∧
    (∃ (s : State),
      s.atStep 4 = true) ∧
    (∃ (s : State),
      s.atStep 4 = false ∧ s.pair.marking = true) ∧
    (∃ (s : State),
      s.atStep 5 = true ∧ (s.lfi - s.pair.joinFrame).toNat ≤ 32) ∧
    (∃ (s : State) (task : Fin 32),
      s.atStep 6 = true ∧ (s.task task.val).joining = true ∧ (∀ n < 32, sget (dflt 0) s.mem.tpmErr (s.desc n).select = 0) ∧ (∀ n < 32, n ≠ task.val → (s.task n).joining = false)) ∧
    (∃ (s : State) (task : Fin 32),
      s.atStep 6 = true ∧ (s.task task.val).joining = true ∧ (∀ n < 32, sget (dflt 0) s.mem.tpmErr (s.desc n).select = 0) ∧ (∃ n < 32, n ≠ task.val ∧ (s.task n).joining = true)) ∧
    (∃ (s : State),
      s.atStep 7 = true ∧ 16 ≤ s.pair.proofRun ∧ s.debugLevel < 2) ∧
    (∃ (s : State),
      (s.atStep 5 = true ∧ 32 < (s.lfi - s.pair.joinFrame).toNat ∨ s.atStep 7 = true ∧ s.flag Reg.TWIN_SYNC 26 = true)) ∧
    (∃ (s : State) (w : Writer) (value : W32),
      s.admits w 0x0D0 (Reg.TWIN_REJOIN % 4096) = true ∧ value.getLsbD 0 = true ∧ keyed value 0x524A = true) :=
  ⟨⟨img0 (st 1), true, 5, by decide +kernel⟩,
   ⟨img0 (st 1), false, 0, by decide +kernel⟩,
   ⟨st 2, by decide +kernel⟩,
   ⟨al (st 2) 16, by decide +kernel⟩,
   ⟨st 3, by decide +kernel⟩,
   ⟨bulk 5, by decide +kernel⟩,
   ⟨st 4, by decide +kernel⟩,
   ⟨bulk 5, by decide +kernel⟩,
   ⟨lf (st 5) 32, by decide +kernel⟩,
   ⟨tsk (st 6) [0], 0, by decide +kernel⟩,
   ⟨tsk (st 6) [0, 3], 3, by decide +kernel⟩,
   ⟨(pr (st 7) fun p => { p with proofRun := 16 }).setPhase 4, by decide +kernel⟩,
   ⟨lf (st 5) 33, by decide +kernel⟩,
   ⟨act, { master := .core 0, tag := 0 }, 0x524A0001, by decide +kernel⟩⟩

end S24

namespace S26

def b0 := (domsOn ready0).setDomState 23 2 |>.setReg Reg.DBG_DLEVEL 3
def e0 : State := unlock (en (unlock (en (en (en b0 0x10) 0x11) 0xD2) 0xD2) 6) 6
def prf (s : State) (f : ProofState → ProofState) : State := { s with proof := f s.proof }
def rq (k t : Nat) : ProofReq := { kind := k, target := t, ticket := 9 }
def me (s : State) (l : List (Nat × Nat)) : State := { s with mem := { s.mem with mramErr := l } }
def reqs : List ProofReq := [rq 1 0, rq 2 0, rq 7 0, rq 8 0x0103, rq 4 0x0103, rq 5 0x2001, rq 3 0x2001, rq 6 0x2000]
def qs : List State := reqs.map fun r => prf e0 fun p => { p with queue := [r, rq 1 0], pulseBad := [19, 3], calBad := [] }
def qs2 : List State := reqs.map fun r => prf e0 fun p => { p with queue := [r], busy := some 0, covered := [1, 32], calBad := [513] }
def qs3 : List State := [prf e0 fun p => { p with queue := [rq 4 0x0103], covered := [1] }]
def hr := role (((e0.setFlag Reg.PROOF_CFG 16 true).setFld (rk 0x0F0 Reg.NET_DD_CFG) 16 12 5)) 2 3
def hr2 := en (en hr 0xF0) 0xF1
def t0 (s : State) (cfg : Nat) (st : Nat) (f : SessionState → SessionState := id) : State := ((s.setReg (testKey Reg.TEST_SCFG 0) (BitVec.ofNat 32 cfg)).setTest 0 st 0).setSession 0 (f {})

theorem witness_ProofTestsAndTestSessions :
    (∃ (s : State) (core : Fin 4),
      s.logicRuns = true ∧ s.coreThere core.val = true ∧ s.coreBusy core.val = false ∧ s.lfiCyc + 5500 ≤ 15625) ∧
    (∃ (s : State) (core : Fin 4),
      s.logicRuns = true ∧ (s.coreBusy core.val = true ∨ 15625 < s.lfiCyc + 5500)) ∧
    (∃ (s : State),
      s.logicRuns = true ∧ s.domState 6 = 2) ∧
    (∃ (s : State),
      s.logicRuns = true ∧ s.mem.mramErr = []) ∧
    (∃ (s : State) (u : Nat),
      s.logicRuns = true ∧ s.mem.mramErr = [(u, 2)]) ∧
    (∃ (s : State) (group : Fin 32) (ack : Nat),
      (s.grp group.val).pulse.map (·.1) = some ack) ∧
    (∃ (s : State) (w : Writer) (target : BitVec 16) (side : BitVec 2),
      let kind : Nat := 1
      s.admits w 0x0D2 (Reg.PROOF_REQ % 4096) = true ∧ targetOk kind target.toNat = true ∧ s.proof.queue.length < 16 ∧ (side = 0 ∨ side.toNat = s.side)) ∧
    (∃ (s : State) (w : Writer) (target : BitVec 16),
      let kind : Nat := 1
      s.admits w 0x0D2 (Reg.PROOF_REQ % 4096) = true ∧ (targetOk kind target.toNat = false ∨ 16 ≤ s.proof.queue.length)) ∧
    (∃ (s : State) (w : Writer) (target : BitVec 16) (side : BitVec 2),
      let kind : Nat := 1
      s.admits w 0x0D2 (Reg.PROOF_REQ % 4096) = true ∧ targetOk kind target.toNat = true ∧ s.proof.queue.length < 16 ∧ side ≠ 0 ∧ side.toNat ≠ s.side) ∧
    (∃ (s : State) (w : Writer) (target : BitVec 16) (side : BitVec 2),
      let kind : Nat := 2
      s.admits w 0x0D2 (Reg.PROOF_REQ % 4096) = true ∧ targetOk kind target.toNat = true ∧ s.proof.queue.length < 16 ∧ (side = 0 ∨ side.toNat = s.side)) ∧
    (∃ (s : State) (w : Writer) (target : BitVec 16),
      let kind : Nat := 2
      s.admits w 0x0D2 (Reg.PROOF_REQ % 4096) = true ∧ (targetOk kind target.toNat = false ∨ 16 ≤ s.proof.queue.length)) ∧
    (∃ (s : State) (w : Writer) (target : BitVec 16) (side : BitVec 2),
      let kind : Nat := 2
      s.admits w 0x0D2 (Reg.PROOF_REQ % 4096) = true ∧ targetOk kind target.toNat = true ∧ s.proof.queue.length < 16 ∧ side ≠ 0 ∧ side.toNat ≠ s.side) ∧
    (∃ (s : State) (w : Writer) (target : BitVec 16) (side : BitVec 2),
      let kind : Nat := 3
      s.admits w 0x0D2 (Reg.PROOF_REQ % 4096) = true ∧ targetOk kind target.toNat = true ∧ s.proof.queue.length < 16 ∧ (side = 0 ∨ side.toNat = s.side)) ∧
    (∃ (s : State) (w : Writer) (target : BitVec 16),
      let kind : Nat := 3
      s.admits w 0x0D2 (Reg.PROOF_REQ % 4096) = true ∧ (targetOk kind target.toNat = false ∨ 16 ≤ s.proof.queue.length)) ∧
    (∃ (s : State) (w : Writer) (target : BitVec 16) (side : BitVec 2),
      let kind : Nat := 3
      s.admits w 0x0D2 (Reg.PROOF_REQ % 4096) = true ∧ targetOk kind target.toNat = true ∧ s.proof.queue.length < 16 ∧ side ≠ 0 ∧ side.toNat ≠ s.side) ∧
    (∃ (s : State) (w : Writer) (target : BitVec 16) (side : BitVec 2),
      let kind : Nat := 4
      s.admits w 0x0D2 (Reg.PROOF_REQ % 4096) = true ∧ targetOk kind target.toNat = true ∧ s.proof.queue.length < 16 ∧ (side = 0 ∨ side.toNat = s.side)) ∧
    (∃ (s : State) (w : Writer) (target : BitVec 16),
      let kind : Nat := 4
      s.admits w 0x0D2 (Reg.PROOF_REQ % 4096) = true ∧ (targetOk kind target.toNat = false ∨ 16 ≤ s.proof.queue.length)) ∧
    (∃ (s : State) (w : Writer) (target : BitVec 16) (side : BitVec 2),
      let kind : Nat := 4
      s.admits w 0x0D2 (Reg.PROOF_REQ % 4096) = true ∧ targetOk kind target.toNat = true ∧ s.proof.queue.length < 16 ∧ side ≠ 0 ∧ side.toNat ≠ s.side) ∧
    (∃ (s : State) (w : Writer) (target : BitVec 16) (side : BitVec 2),
      let kind : Nat := 5
      s.admits w 0x0D2 (Reg.PROOF_REQ % 4096) = true ∧ targetOk kind target.toNat = true ∧ s.proof.queue.length < 16 ∧ (side = 0 ∨ side.toNat = s.side)) ∧
    (∃ (s : State) (w : Writer) (target : BitVec 16),
      let kind : Nat := 5
      s.admits w 0x0D2 (Reg.PROOF_REQ % 4096) = true ∧ (targetOk kind target.toNat = false ∨ 16 ≤ s.proof.queue.length)) ∧
    (∃ (s : State) (w : Writer) (target : BitVec 16) (side : BitVec 2),
      let kind : Nat := 5
      s.admits w 0x0D2 (Reg.PROOF_REQ % 4096) = true ∧ targetOk kind target.toNat = true ∧ s.proof.queue.length < 16 ∧ side ≠ 0 ∧ side.toNat ≠ s.side) ∧
    (∃ (s : State) (w : Writer) (target : BitVec 16) (side : BitVec 2),
      let kind : Nat := 6
      s.admits w 0x0D2 (Reg.PROOF_REQ % 4096) = true ∧ targetOk kind target.toNat = true ∧ s.proof.queue.length < 16 ∧ (side = 0 ∨ side.toNat = s.side)) ∧
    (∃ (s : State) (w : Writer) (target : BitVec 16),
      let kind : Nat := 6
      s.admits w 0x0D2 (Reg.PROOF_REQ % 4096) = true ∧ (targetOk kind target.toNat = false ∨ 16 ≤ s.proof.queue.length)) ∧
    (∃ (s : State) (w : Writer) (target : BitVec 16) (side : BitVec 2),
      let kind : Nat := 6
      s.admits w 0x0D2 (Reg.PROOF_REQ % 4096) = true ∧ targetOk kind target.toNat = true ∧ s.proof.queue.length < 16 ∧ side ≠ 0 ∧ side.toNat ≠ s.side) ∧
    (∃ (s : State) (w : Writer) (target : BitVec 16) (side : BitVec 2),
      let kind : Nat := 7
      s.admits w 0x0D2 (Reg.PROOF_REQ % 4096) = true ∧ targetOk kind target.toNat = true ∧ s.proof.queue.length < 16 ∧ (side = 0 ∨ side.toNat = s.side)) ∧
    (∃ (s : State) (w : Writer) (target : BitVec 16),
      let kind : Nat := 7
      s.admits w 0x0D2 (Reg.PROOF_REQ % 4096) = true ∧ (targetOk kind target.toNat = false ∨ 16 ≤ s.proof.queue.length)) ∧
    (∃ (s : State) (w : Writer) (target : BitVec 16) (side : BitVec 2),
      let kind : Nat := 7
      s.admits w 0x0D2 (Reg.PROOF_REQ % 4096) = true ∧ targetOk kind target.toNat = true ∧ s.proof.queue.length < 16 ∧ side ≠ 0 ∧ side.toNat ≠ s.side) ∧
    (∃ (s : State) (w : Writer) (target : BitVec 16) (side : BitVec 2),
      let kind : Nat := 8
      s.admits w 0x0D2 (Reg.PROOF_REQ % 4096) = true ∧ targetOk kind target.toNat = true ∧ s.proof.queue.length < 16 ∧ (side = 0 ∨ side.toNat = s.side)) ∧
    (∃ (s : State) (w : Writer) (target : BitVec 16),
      let kind : Nat := 8
      s.admits w 0x0D2 (Reg.PROOF_REQ % 4096) = true ∧ (targetOk kind target.toNat = false ∨ 16 ≤ s.proof.queue.length)) ∧
    (∃ (s : State) (w : Writer) (target : BitVec 16) (side : BitVec 2),
      let kind : Nat := 8
      s.admits w 0x0D2 (Reg.PROOF_REQ % 4096) = true ∧ targetOk kind target.toNat = true ∧ s.proof.queue.length < 16 ∧ side ≠ 0 ∧ side.toNat ≠ s.side) ∧
    (∃ (s : State) (r : ProofReq) (l : List ProofReq) (f : ProofFinding),
      let b  := if r.kind = 1 then 16 + r.target else 20
      s.logicRuns = true ∧ s.proof.queue = r :: l ∧ (r.kind = 1 ∨ r.kind = 2) ∧ (f.ok = true ∨ s.proof.failed.contains b = true)) ∧
    (∃ (s : State) (r : ProofReq) (l : List ProofReq) (f : ProofFinding),
      let b  := if r.kind = 1 then 16 + r.target else 20
      s.logicRuns = true ∧ s.proof.queue = r :: l ∧ (r.kind = 1 ∨ r.kind = 2) ∧ f.ok = false ∧ s.proof.failed.contains b = false) ∧
    (∃ (s : State) (r : ProofReq) (l : List ProofReq),
      s.logicRuns = true ∧ s.proof.queue = r :: l ∧ r.kind = 7) ∧
    (∃ (s : State) (r : ProofReq) (l : List ProofReq),
      s.logicRuns = true ∧ s.proof.queue = r :: l ∧ r.kind = 8) ∧
    (∃ (s : State) (r : ProofReq) (l : List ProofReq),
      s.logicRuns = true ∧ s.proof.queue = r :: l ∧ r.disturbs = true ∧ s.proof.busy = none ∧ s.mayDisturb r = false) ∧
    (∃ (s : State) (r : ProofReq) (l : List ProofReq),
      s.logicRuns = true ∧ s.proof.queue = r :: l ∧ r.disturbs = true ∧ s.proof.busy = none ∧ s.mayDisturb r = true ∧ r.kind = 4) ∧
    (∃ (s : State) (r : ProofReq) (l : List ProofReq),
      s.logicRuns = true ∧ s.proof.queue = r :: l ∧ r.kind = 5 ∧ s.proof.busy.isSome = true) ∧
    (∃ (s : State),
      s.logicRuns = true ∧ s.flag Reg.PROOF_CFG 16 = true ∧ s.silent = false ∧ s.role < 4 ∧ s.ownPair ≠ 0) ∧
    (∃ (s : State),
      s.flag Reg.PROOF_CFG 16 = false) ∧
    (∃ (s : State) (w : Writer) (session : Fin 8),
      let n  := session.val
      s.admits w 0x006 (testKey Reg.TEST_SCMD n % 4096) = true ∧ s.testWhy n = 0) ∧
    (∃ (s : State) (w : Writer) (session : Fin 8),
      let n  := session.val
      s.admits w 0x006 (testKey Reg.TEST_SCMD n % 4096) = true ∧ s.testWhy n ≠ 0) ∧
    (∃ (s : State) (w : Writer) (session : Fin 8),
      let n  := session.val
      s.admits w 0x006 (testKey Reg.TEST_SCMD n % 4096) = true ∧ s.testState n = 1) ∧
    (∃ (s : State) (session : Fin 8),
      let n  := session.val
      let x  := s.session n
      s.testState n = 1 ∧ x.dur ≠ 0 ∧ x.dur ≤ x.secs) ∧
    (∃ (s : State) (session : Fin 8),
      let n  := session.val
      let x  := s.session n
      s.testState n = 1 ∧ (x.dur = 0 ∨ x.secs < x.dur)) ∧
    (∃ (s : State) (session : Fin 8),
      let n  := session.val
      s.testState n = 1 ∧ s.unchecked n = false) ∧
    (∃ (group : Fin 57),
      grpKind group.val ≠ 0) :=
  ⟨⟨b0, 0, by decide +kernel⟩,
   ⟨e0.setFld Reg.SYS_LFI_CYC 0 14 12000, 0, by decide +kernel⟩,
   ⟨b0, by decide +kernel⟩,
   ⟨b0, by decide +kernel⟩,
   ⟨me e0 [(7, 2)], 7, by decide +kernel⟩,
   ⟨setG e0 3 (fun g => { g with pulse := some (7, 3, 100) }), 3, 7, by decide +kernel⟩,
   ⟨b0, { master := .core 0, tag := 0 }, 0, 0, by decide +kernel⟩,
   ⟨b0, { master := .core 0, tag := 0 }, 0x0103, by decide +kernel⟩,
   ⟨b0, { master := .core 0, tag := 0 }, 0, 1, by decide +kernel⟩,
   ⟨b0, { master := .core 0, tag := 0 }, 0, 0, by decide +kernel⟩,
   ⟨b0, { master := .core 0, tag := 0 }, 3, by decide +kernel⟩,
   ⟨b0, { master := .core 0, tag := 0 }, 0, 1, by decide +kernel⟩,
   ⟨b0, { master := .core 0, tag := 0 }, 0x2001, 0, by decide +kernel⟩,
   ⟨b0, { master := .core 0, tag := 0 }, 0, by decide +kernel⟩,
   ⟨b0, { master := .core 0, tag := 0 }, 0x2001, 1, by decide +kernel⟩,
   ⟨b0, { master := .core 0, tag := 0 }, 0, 0, by decide +kernel⟩,
   ⟨b0, { master := .core 0, tag := 0 }, 0x2001, by decide +kernel⟩,
   ⟨b0, { master := .core 0, tag := 0 }, 0, 1, by decide +kernel⟩,
   ⟨b0, { master := .core 0, tag := 0 }, 0x2001, 0, by decide +kernel⟩,
   ⟨b0, { master := .core 0, tag := 0 }, 0, by decide +kernel⟩,
   ⟨b0, { master := .core 0, tag := 0 }, 0x2001, 1, by decide +kernel⟩,
   ⟨b0, { master := .core 0, tag := 0 }, 0, 0, by decide +kernel⟩,
   ⟨b0, { master := .core 0, tag := 0 }, 3, by decide +kernel⟩,
   ⟨b0, { master := .core 0, tag := 0 }, 0, 1, by decide +kernel⟩,
   ⟨b0, { master := .core 0, tag := 0 }, 0, 0, by decide +kernel⟩,
   ⟨b0, { master := .core 0, tag := 0 }, 3, by decide +kernel⟩,
   ⟨b0, { master := .core 0, tag := 0 }, 0, 1, by decide +kernel⟩,
   ⟨b0, { master := .core 0, tag := 0 }, 0, 0, by decide +kernel⟩,
   ⟨b0, { master := .core 0, tag := 0 }, 0x2001, by decide +kernel⟩,
   ⟨b0, { master := .core 0, tag := 0 }, 0, 1, by decide +kernel⟩,
   ⟨qs.getD 0 b0, reqs.getD 0 (rq 1 0), [rq 1 0], { ok := true, time := 300 }, by decide +kernel⟩,
   ⟨qs.getD 0 b0, reqs.getD 0 (rq 1 0), [rq 1 0], { ok := false, d := 5, time := 100 }, by decide +kernel⟩,
   ⟨qs.getD 2 b0, reqs.getD 2 (rq 1 0), [rq 1 0], by decide +kernel⟩,
   ⟨qs.getD 3 b0, reqs.getD 3 (rq 1 0), [rq 1 0], by decide +kernel⟩,
   ⟨qs.getD 4 b0, reqs.getD 4 (rq 1 0), [rq 1 0], by decide +kernel⟩,
   ⟨qs3.getD 0 b0, reqs.getD 4 (rq 1 0), [], by decide +kernel⟩,
   ⟨qs2.getD 5 b0, reqs.getD 5 (rq 1 0), [], by decide +kernel⟩,
   ⟨hr, by decide +kernel⟩,
   ⟨hr2.setFlag Reg.PROOF_CFG 16 false, by decide +kernel⟩,
   ⟨t0 e0 (1 * 2^28 + 0x1000 + 5) 0, { master := .core 0, tag := 0 }, 0, by decide +kernel⟩,
   ⟨b0, { master := .core 0, tag := 0 }, 0, by decide +kernel⟩,
   ⟨t0 e0 (1 * 2^28 + 0x1000 + 5) 1 (fun x => { x with dur := 5, secs := 5 }), { master := .core 0, tag := 0 }, 0, by decide +kernel⟩,
   ⟨t0 e0 (1 * 2^28 + 0x1000 + 5) 1 (fun x => { x with dur := 5, secs := 5 }), 0, by decide +kernel⟩,
   ⟨t0 (e0.setFlag (testKey Reg.TEST_SSTAT 0) 0 true) (2 * 2^28 + 0x1000 + 99) 1 (fun x => { x with dur := 0, secs := 5, bad := false }), 0, by decide +kernel⟩,
   ⟨t0 e0 (1 * 2^28 + 0x1000 + 5) 1 (fun x => { x with dur := 5, secs := 5 }), 0, by decide +kernel⟩,
   ⟨0, by decide +kernel⟩⟩

end S26

namespace S27

def b0 := (domsOn ready0)
def hold := role b0 2 3
def cst (s : State) (n st : Nat) : State := s.setFld (canKey n Reg.CAN_ESTAT) 30 2 st
def on (s : State) : State := cst (en s 0xE2) 2 0
def obj (s : State) (k : Nat) (cfg oid : Nat) (st : Nat := 0) : State := ((s.setObjWord 2 k Obj.OCFG (BitVec.ofNat 64 cfg)).setObjWord 2 k Obj.OID (BitVec.ofNat 64 oid)).setObjState 2 k st
def rxc : Nat := 2^63 + 8 * 2^32 + 7 * 2^16
def txc : Nat := 2^63 + 2^62 + 3 * 2^44
def cc (s : State) (f : CanState → CanState) : State := s.setCanCtl 2 (f (s.canCtl 2))
def fr : CanFrame := { id := 0x40000, ide := false, rtr := false, fdf := false, brs := false, esi := false, dlc := 3, data := [1,2,3] }
def e1 : StagedCan := { obj := 1, frame := fr, stamps := ⟨1,2⟩, release := some 0 }
def e2 : StagedCan := { obj := 1, frame := fr, stamps := ⟨1,2⟩, release := none }
def rx := obj (on hold) 1 rxc (0x1FFC0000 * 2^32 + 0x40000)
def rxf := obj (on hold) 1 rxc (0x1FFC0000 * 2^32 + 0x40000) 6
def mir := role (rx.setFlag Reg.TWIN_SYNC 27 true) 3 2
def stg := cc rx fun x => { x with staging := [e2, e1] }
def tx := obj (obj (on hold) 1 txc 0x40000) 127 txc 0
def txp := cc (obj (obj (on hold) 1 txc 0x40000 1) 127 txc 0 1) fun x => { x with posts := [1, 127] }
def txw (d : List Nat) := let s := cc (obj (obj (on hold) 1 txc 0x40000 2) 127 txc 0 1) fun x => { x with posts := [1, 127], disabling := d }; ({ s with pwr := { s.pwr with onWire := [12, 13] } }).setFld (canKey 2 Reg.CAN_ESTAT) 8 8 130
def sil := obj (on (role b0 3 2)) 1 txc 0
def stgn := cc (on hold) fun x => { x with staging := [e2, e1] }
def silp := cc (obj (on (role b0 3 2)) 1 txc 0x40000 1) fun x => { x with posts := [1, 127] }

theorem witness_CanObjectsReceiveAndSend :
    (∃ (s : State) (ctrl : Fin 8) (obj : Fin 128) (f : CanFrame),
      let n  := ctrl.val
      let k  := obj.val
      s.canLive n = true ∧ s.onWireObj n = none ∧ s.acceptor n f = some k ∧ s.headsChain n k = false ∧ s.mirroring = false ∧ s.ocfg n k 61 1 = 0 ∧ s.objState n k ≠ 6) ∧
    (∃ (s : State) (ctrl : Fin 8) (obj : Fin 128) (f : CanFrame),
      let n  := ctrl.val
      let k  := obj.val
      s.canLive n = true ∧ s.onWireObj n = none ∧ s.acceptor n f = some k ∧ s.headsChain n k = false ∧ s.mirroring = false ∧ s.ocfg n k 61 1 = 0 ∧ s.objState n k = 6 ∧ s.ocfg n k 56 1 = 0) ∧
    (∃ (s : State) (ctrl : Fin 8) (obj : Fin 128) (f : CanFrame),
      let n  := ctrl.val
      let k  := obj.val
      let x  := s.canCtl n
      s.canLive n = true ∧ s.onWireObj n = none ∧ s.acceptor n f = some k ∧ s.headsChain n k = false ∧ s.mirroring = true ∧ s.holder = false ∧ x.staging.length < 64) ∧
    (∃ (s : State) (ctrl : Fin 8) (obj : Fin 128) (e : StagedCan),
      let n  := ctrl.val
      let k  := obj.val
      let x  := s.canCtl n
      x.staging.find? s.canDue = some e ∧ e.obj = k ∧ s.holder = true ∧ s.objEn n k = true ∧ s.headsChain n k = false ∧ s.objState n k ≠ 6) ∧
    (∃ (s : State) (ctrl : Fin 8) (obj : Fin 128) (e : StagedCan),
      let n  := ctrl.val
      let k  := obj.val
      let x  := s.canCtl n
      x.staging.find? s.canDue = some e ∧ e.obj = k ∧ s.holder = true ∧ s.objEn n k = false) ∧
    (∃ (s : State) (ctrl : Fin 8) (e : StagedCan),
      let n  := ctrl.val
      let x  := s.canCtl n
      x.staging.find? (fun y => y.release.isNone) = some e) ∧
    (∃ (s : State) (ctrl : Fin 8) (obj : Fin 128),
      let n  := ctrl.val
      let k  := obj.val
      s.domState (10 + n) = 2 ∧ s.objEn n k = true ∧ s.objTx n (s.headOf n k) = true ∧ s.objState n k ≠ 1 ∧ s.objState n k ≠ 2 ∧ s.twinRefused n k = false ∧ s.silent = false ∧ s.pair.verdict = false) ∧
    (∃ (s : State) (ctrl : Fin 8) (obj : Fin 128),
      let n  := ctrl.val
      let k  := obj.val
      s.domState (10 + n) = 2 ∧ s.objEn n k = true ∧ s.objTx n (s.headOf n k) = true ∧ s.objState n k ≠ 1 ∧ s.objState n k ≠ 2 ∧ s.twinRefused n k = false ∧ s.silent = true) ∧
    (∃ (s : State) (ctrl : Fin 8) (obj : Fin 128),
      let n  := ctrl.val
      let k  := obj.val
      s.domState (10 + n) = 2 ∧ s.objEn n k = true ∧ s.objTx n (s.headOf n k) = true ∧ (s.objState n k = 1 ∨ s.objState n k = 2 ∨ s.twinRefused n k = true)) ∧
    (∃ (s : State) (ctrl : Fin 8) (obj : Fin 128),
      let n  := ctrl.val
      let k  := obj.val
      s.domState (10 + n) = 2 ∧ s.objTx n (s.headOf n k) = true ∧ s.objState n k = 1) ∧
    (∃ (s : State) (ctrl : Fin 8) (obj : Fin 128),
      let n  := ctrl.val
      let k  := obj.val
      s.domState (10 + n) = 2 ∧ s.objTx n (s.headOf n k) = true ∧ s.objState n k = 2) ∧
    (∃ (s : State) (ctrl : Fin 8) (obj : Fin 128),
      let n  := ctrl.val
      let k  := obj.val
      s.domState (10 + n) = 2 ∧ s.objTx n (s.headOf n k) = false ∧ s.objState n k = 6) ∧
    (∃ (s : State) (ctrl : Fin 8) (obj : Fin 128),
      let n  := ctrl.val
      let k  := obj.val
      s.domState (10 + n) = 2 ∧ s.objEn n k = true ∧ s.objState n k = 2) ∧
    (∃ (s : State) (ctrl : Fin 8) (obj : Fin 128),
      let n  := ctrl.val
      let k  := obj.val
      s.canLive n = true ∧ s.canMonitor n = false ∧ s.pair.verdict = false ∧ s.onWireObj n = none ∧ s.offered n = some k) ∧
    (∃ (s : State) (ctrl : Fin 8) (obj : Fin 128),
      let n  := ctrl.val
      let k  := obj.val
      let x  := s.canCtl n
      s.canLive n = true ∧ s.silent = true ∧ k ∈ x.posts ∧ s.objState n k = 1) ∧
    (∃ (s : State) (ctrl : Fin 8) (obj : Fin 128),
      let n  := ctrl.val
      let k  := obj.val
      let x  := s.canCtl n
      s.onWireObj n = some k ∧ x.disabling.contains k = false) :=
  ⟨⟨rx, 2, 1, fr, by decide +kernel⟩,
   ⟨rxf, 2, 1, fr, by decide +kernel⟩,
   ⟨mir, 2, 1, fr, by decide +kernel⟩,
   ⟨stg, 2, 1, e1, by decide +kernel⟩,
   ⟨stgn, 2, 1, e1, by decide +kernel⟩,
   ⟨stgn, 2, e2, by decide +kernel⟩,
   ⟨tx, 2, 1, by decide +kernel⟩,
   ⟨sil, 2, 1, by decide +kernel⟩,
   ⟨silp, 2, 1, by decide +kernel⟩,
   ⟨silp, 2, 1, by decide +kernel⟩,
   ⟨txw [], 2, 1, by decide +kernel⟩,
   ⟨rxf, 2, 1, by decide +kernel⟩,
   ⟨txw [], 2, 1, by decide +kernel⟩,
   ⟨txp, 2, 127, by decide +kernel⟩,
   ⟨silp, 2, 1, by decide +kernel⟩,
   ⟨txw [], 2, 1, by decide +kernel⟩⟩

end S27

namespace S28

def b0 := (domsOn ready0)
def hold := role b0 2 3
def cst (s : State) (n st : Nat) : State := s.setFld (canKey n Reg.CAN_ESTAT) 30 2 st
def on (s : State) : State := cst (en s 0xE2) 2 0
def obj (s : State) (k : Nat) (cfg oid : Nat) (st : Nat := 0) : State := ((s.setObjWord 2 k Obj.OCFG (BitVec.ofNat 64 cfg)).setObjWord 2 k Obj.OID (BitVec.ofNat 64 oid)).setObjState 2 k st
def rxc : Nat := 2^63 + 8 * 2^32 + 7 * 2^16
def cc (s : State) (f : CanState → CanState) : State := s.setCanCtl 2 (f (s.canCtl 2))
def rx := obj (on hold) 1 rxc (0x1FFC0000 * 2^32 + 0x40000)
def nt (v : Nat) : State := (unlock (role b0 2 3) 0xE2).setReg (canKey 2 0x104) (BitVec.ofNat 32 v)
def o2 (f : State) : State := cst (unlock (en f 0xE2) 0xE2) 2 2
def rec_ : State := cc (o2 (nt 0x13060800)) fun x => { x with recovering := true }
def i3 (s : State) : State := cst s 2 3

theorem witness_CanControllersFollowTheirBus :
    (∃ (s : State) (ctrl : Fin 8) (w : Writer) (value : W32),
      let n  := ctrl.val
      let p  := canPage n
      s.admits w p Reg.CTRL = true ∧ value.getLsbD 1 = false ∧ value.getLsbD 0 = true ∧ s.flag (rk p Reg.CTRL) 0 = false ∧ s.timingOk n = true) ∧
    (∃ (s : State) (ctrl : Fin 8) (w : Writer) (value : W32),
      let n  := ctrl.val
      let p  := canPage n
      s.admits w p Reg.CTRL = true ∧ value.getLsbD 1 = false ∧ value.getLsbD 0 = true ∧ s.flag (rk p Reg.CTRL) 0 = false ∧ s.timingOk n = false) ∧
    (∃ (s : State) (ctrl : Fin 8) (w : Writer) (value : W32),
      let n  := ctrl.val
      let p  := canPage n
      s.admits w p Reg.CTRL = true ∧ value.getLsbD 1 = false ∧ value.getLsbD 0 = false ∧ s.flag (rk p Reg.CTRL) 0 = true) ∧
    (∃ (s : State) (ctrl : Fin 8) (w : Writer) (value : W32),
      let n  := ctrl.val
      let p  := canPage n
      s.admits w p Reg.CTRL = true ∧ value.getLsbD 1 = false ∧ value.getLsbD 0 = true ∧ s.flag (rk p Reg.CTRL) 0 = true ∧ s.canState n = 2 ∧ s.flag (canKey n Reg.CAN_CFG) 28 = false) ∧
    (∃ (s : State) (ctrl : Fin 8),
      let n  := ctrl.val
      let on  := s.domState (10 + n) = 2 ∧ s.flag (canKey n Reg.CTRL) 0 = true
      on ∧ s.canState n = 3) ∧
    (∃ (s : State) (ctrl : Fin 8),
      let n  := ctrl.val
      let x  := s.canCtl n
      let on  := s.domState (10 + n) = 2 ∧ s.flag (canKey n Reg.CTRL) 0 = true
      on ∧ s.canState n ≠ 2 ∧ (∀ j ∈ x.posts, j < 128)) ∧
    (∃ (s : State) (ctrl : Fin 8),
      let n  := ctrl.val
      let x  := s.canCtl n
      s.canState n = 2 ∧ x.recovering = true) ∧
    (∃ (s : State) (ctrl : Fin 8) (obj : Fin 128),
      let n  := ctrl.val
      let k  := obj.val
      s.domState (10 + n) = 2 ∧ s.objEn n k = true ∧ s.objTx n k = false ∧ s.headOf n k = k ∧ s.ocfg n k 16 16 ≠ 0 ∧ s.objField n k Obj.OSTAT 33 1 = 0) :=
  ⟨⟨nt 0x13060800, 2, { master := .core 0, tag := 0 }, 1, by decide +kernel⟩,
   ⟨b0, 2, { master := .core 0, tag := 0 }, 1, by decide +kernel⟩,
   ⟨en (nt 0x13060800) 0xE2, 2, { master := .core 0, tag := 0 }, 0, by decide +kernel⟩,
   ⟨o2 ((nt 0x13060800).setFlag (canKey 2 Reg.CAN_CFG) 28 false), 2, { master := .core 0, tag := 0 }, 1, by decide +kernel⟩,
   ⟨en (nt 0x13060800) 0xE2, 2, by decide +kernel⟩,
   ⟨en (nt 0x13060800) 0xE2, 2, by decide +kernel⟩,
   ⟨rec_, 2, by decide +kernel⟩,
   ⟨i3 rx, 2, 1, by decide +kernel⟩⟩

end S28

namespace S29

def b0 := (domsOn ready0)
def hold := (role b0 2 3).setFlag Reg.TIME_TC_CFG 31 false
def net0 := unlock (en hold 0xF0) 0xF0
def port (s : State) (p : Nat) (link : Bool) : State := s.setReg (netKey 0 (0x104 + 4 * p)) (BitVec.ofNat 32 (2^31 + link.toNat * 2^25 + 5))
def vl (s : State) : State := (s.setReg (netKey 0 0x180) (BitVec.ofNat 32 (2^31 + 5 * 2^16 + 0x107))).setReg (netKey 0 0x184) (BitVec.ofNat 32 (2^31 + 1 * 2^16 + 0x707))
def n1 := vl (port (port net0 0 true) 1 true)
def mac (a b : Nat) (t : Nat) (n : Nat) : List Byte := beBytes a 6 ++ beBytes b 6 ++ beBytes t 2 ++ (List.range n).map (BitVec.ofNat 8)
def f1 := mac 0x020000000001 0x020000000002 0x0800 60
def f2 := mac 0x020000000001 0x020000000002 0x8808 60
def f4 := mac 0x020000000001 0x020000000002 0x0800 10
def f6 := beBytes 0x020000000001 6 ++ beBytes 0x020000000002 6 ++ beBytes 0x81000007 4 ++ beBytes 0x0800 2 ++ (List.range 60).map (BitVec.ofNat 8)
def f7 := beBytes 0x0180C200000E 6 ++ beBytes 0x020000000002 6 ++ beBytes 0x88F7 2 ++ beBytes 0x0202 2 ++ beBytes 54 2 ++ (List.range 50).map (BitVec.ofNat 8)
def eth0 (s : State) (f : EthState → EthState) : State := s.setEth 0 (f (s.eth 0))
def lrn (p : Nat) := eth0 n1 fun x => { x with table := [(0x020000000001, some p)] }
def se (b : List Byte) : StagedEth := { bytes := b, info := 0x10000005, stamps := ⟨1,2⟩, ring := 3, release := some 0 }
def ring (s : State) (i place : Nat) (hd tl : Nat) : State := (((s.setReg (netKey 0 (0x300 + 0x10 * i)) (BitVec.ofNat 32 place)).setReg (netKey 0 (0x304 + 0x10 * i)) 0x80000004).setReg (netKey 0 (0x308 + 0x10 * i)) (BitVec.ofNat 32 hd)).setReg (netKey 0 (0x30C + 0x10 * i)) (BitVec.ofNat 32 tl)
def desc (s : State) (at_ buf len ctl : Nat) : State := ((s.setPm at_ 8 (pmBase + buf)).setPm (at_ + 8) 2 len).setPm (at_ + 10) 1 ctl
def rxr (room buf ctl : Nat) := eth0 (desc (ring n1 11 0x1000 15 2) (0x1000 + 32 * 15) buf room ctl) fun x => { x with staging := [se f1] }
def folw := eth0 (role n1 3 2) fun x => { x with staging := [{ se f1 with release := none }] }
def dd := { n1 with net := { n1.net with dd := [(3, some { epoch := 1, l := 2, w := 1 }), (4, some { epoch := 1, l := 2, w := 1 })] } }
def pd0 := (port net0 0 true).setFlag Reg.TIME_TC_CFG 30 true

theorem witness_EthernetFramesAreForwarded :
    (∃ (s : State) (sw : Fin 2) (port : Fin 2) (b : List Byte),
      let n  := sw.val
      let p  := port.val
      let k  := netKey n (0x104 + 4 * p)
      let len  := b.length + 4
      s.ethOn n = true ∧ s.flag k 31 = true ∧ s.flag k 25 = true ∧ (len < 64 ∨ 1532 < len)) ∧
    (∃ (s : State) (sw : Fin 2) (port : Fin 2) (b : List Byte),
      let n  := sw.val
      let p  := port.val
      let k  := netKey n (0x104 + 4 * p)
      let len  := b.length + 4
      s.ethOn n = true ∧ s.flag k 31 = true ∧ s.flag k 25 = true ∧ 64 ≤ len ∧ len ≤ 1532 ∧ frameNat b (typeAt b) 2 = 0x8808) ∧
    (∃ (s : State) (sw : Fin 2) (port : Fin 2) (b : List Byte) (m : Nat),
      let n  := sw.val
      let p  := port.val
      let k  := netKey n (0x104 + 4 * p)
      let len  := b.length + 4
      s.ethOn n = true ∧ s.flag k 31 = true ∧ s.flag k 25 = true ∧ 64 ≤ len ∧ len ≤ 1532 ∧ frameNat b (typeAt b) 2 ≠ 0x8808 ∧ s.vlanOf n (frameVid b (s.fld k 0 12)) = none ∧ s.flag Reg.TIME_TC_CFG 30 = true ∧ isTwin b = false ∧ ptpAt b (typeAt b) = some m ∧ ptpValid b m = true ∧ bAt b m % 16 = 2) ∧
    (∃ (s : State) (sw : Fin 2) (port : Fin 2) (b : List Byte),
      let n  := sw.val
      let p  := port.val
      let k  := netKey n (0x104 + 4 * p)
      let len  := b.length + 4
      let quiet  := s.flag Reg.TIME_TC_CFG 30 = false ∨ ptpAt b (typeAt b) = none ∨ isTwin b = true
      s.ethOn n = true ∧ s.flag k 31 = true ∧ s.flag k 25 = true ∧ 64 ≤ len ∧ len ≤ 1532 ∧ frameNat b (typeAt b) 2 ≠ 0x8808 ∧ quiet ∧ s.vlanOf n (frameVid b (s.fld k 0 12)) = none) ∧
    (∃ (s : State) (sw : Fin 2) (port : Fin 2) (b : List Byte) (qfull : BitVec 3) (v : Nat) (q : Nat),
      let n  := sw.val
      let p  := port.val
      let k  := netKey n (0x104 + 4 * p)
      let x  := s.eth n
      let len  := b.length + 4
      let quiet  := s.flag Reg.TIME_TC_CFG 30 = false ∨ ptpAt b (typeAt b) = none ∨ isTwin b = true
      s.ethOn n = true ∧ s.flag k 31 = true ∧ s.flag k 25 = true ∧ 64 ≤ len ∧ len ≤ 1532 ∧ frameNat b (typeAt b) 2 ≠ 0x8808 ∧ quiet ∧ s.vlanOf n (frameVid b (s.fld k 0 12)) = some v ∧ s.isMember n v p = true ∧ s.isMember n v q = true ∧ q < 2 ∧ q ≠ p ∧ (frameNat b 0 6 / 2 ^ 40).testBit 0 = false ∧ sget (dflt none) x.table (frameNat b 0 6) = some q ∧ frameNat b 6 6 ≠ frameNat b 0 6 ∧ s.flag Reg.TIME_TC_CFG 31 = false ∧ qfull.getLsbD q = false) ∧
    (∃ (s : State) (sw : Fin 2) (port : Fin 2) (b : List Byte) (qfull : BitVec 3) (v : Nat) (q : Nat),
      let n  := sw.val
      let p  := port.val
      let k  := netKey n (0x104 + 4 * p)
      let x  := s.eth n
      let len  := b.length + 4
      let quiet  := s.flag Reg.TIME_TC_CFG 30 = false ∨ ptpAt b (typeAt b) = none ∨ isTwin b = true
      s.ethOn n = true ∧ s.flag k 31 = true ∧ s.flag k 25 = true ∧ 64 ≤ len ∧ len ≤ 1532 ∧ frameNat b (typeAt b) 2 ≠ 0x8808 ∧ quiet ∧ s.vlanOf n (frameVid b (s.fld k 0 12)) = some v ∧ s.isMember n v p = true ∧ s.isMember n v q = true ∧ q < 2 ∧ q ≠ p ∧ (frameNat b 0 6 / 2 ^ 40).testBit 0 = false ∧ sget (dflt none) x.table (frameNat b 0 6) = some q ∧ frameNat b 6 6 ≠ frameNat b 0 6 ∧ s.flag Reg.TIME_TC_CFG 31 = false ∧ qfull.getLsbD q = true) ∧
    (∃ (s : State) (sw : Fin 2) (e : StagedEth),
      let n  := sw.val
      let x  := s.eth n
      let i  := 8 + e.ring
      let d  := s.descAt n i (s.ringHead n i)
      x.staging.find? s.ethDue = some e ∧ e.ring < 8 ∧ s.ringOn n i = true ∧ x.stopRun.contains i = false ∧ s.ringHead n i ≠ s.ringTail n i ∧ 128 ≤ s.descField d 0x0A 1) ∧
    (∃ (s : State) (sw : Fin 2) (e : StagedEth),
      let n  := sw.val
      let x  := s.eth n
      x.staging.find? (fun y => y.release.isNone) = some e) ∧
    (∃ (s : State) (pair : Fin 4096),
      (sget (dflt none) s.net.dd pair.val).isSome = true) :=
  ⟨⟨n1, 0, 0, f4, by decide +kernel⟩,
   ⟨n1, 0, 0, f2, by decide +kernel⟩,
   ⟨pd0, 0, 0, f7, 14, by decide +kernel⟩,
   ⟨n1, 0, 0, f6, by decide +kernel⟩,
   ⟨lrn 1, 0, 0, f1, 0, 0, 1, by decide +kernel⟩,
   ⟨lrn 1, 0, 0, f1, 2, 0, 1, by decide +kernel⟩,
   ⟨rxr 100 0x5000 0x80, 0, se f1, by decide +kernel⟩,
   ⟨folw, 0, { se f1 with release := none }, by decide +kernel⟩,
   ⟨dd, 3, by decide +kernel⟩⟩

end S29

namespace S30

def b0 := (domsOn ready0)
def hold := (role b0 2 3).setFlag Reg.TIME_TC_CFG 31 false
def net0 := unlock (en hold 0xF0) 0xF0
def port (s : State) (p : Nat) (link : Bool) : State := s.setReg (netKey 0 (0x104 + 4 * p)) (BitVec.ofNat 32 (2^31 + link.toNat * 2^25 + 5))
def vl (s : State) : State := (s.setReg (netKey 0 0x180) (BitVec.ofNat 32 (2^31 + 5 * 2^16 + 0x107))).setReg (netKey 0 0x184) (BitVec.ofNat 32 (2^31 + 1 * 2^16 + 0x707))
def n1 := vl (port (port net0 0 true) 1 true)
def mac (a b : Nat) (t : Nat) (n : Nat) : List Byte := beBytes a 6 ++ beBytes b 6 ++ beBytes t 2 ++ (List.range n).map (BitVec.ofNat 8)
def f1 := mac 0x020000000001 0x020000000002 0x0800 60
def eth0 (s : State) (f : EthState → EthState) : State := s.setEth 0 (f (s.eth 0))
def ring (s : State) (i place : Nat) (hd tl : Nat) : State := (((s.setReg (netKey 0 (0x300 + 0x10 * i)) (BitVec.ofNat 32 place)).setReg (netKey 0 (0x304 + 0x10 * i)) 0x80000004).setReg (netKey 0 (0x308 + 0x10 * i)) (BitVec.ofNat 32 hd)).setReg (netKey 0 (0x30C + 0x10 * i)) (BitVec.ofNat 32 tl)
def desc (s : State) (at_ buf len ctl : Nat) : State := ((s.setPm at_ 8 (pmBase + buf)).setPm (at_ + 8) 2 len).setPm (at_ + 10) 1 ctl
def txr (s : State) (hd tl len ctl : Nat) : State := desc (ring s 3 0x2000 hd tl) (0x2000 + 32 * hd) 0x6000 len ctl
def sil := role n1 3 2
def tks (s : State) (ctl : Nat) : State := eth0 (s.setPmBytes 0x6000 f1 |> fun s => txr s 15 15 74 ctl) fun x => { x with taken := [{ ring := 3, place := 0x2000 + 32 * 15, len := 74 }] }
def tk (s : State) (ctl : Nat) : State := eth0 (s.setPmBytes 0x6000 f1 |> fun s => txr s 15 15 74 ctl) fun x => { x with taken := [{ ring := 2, place := 9, len := 1 }, { ring := 3, place := 0x2000 + 32 * 15, len := 74 }] }

theorem witness_RingsHandDescriptorsOver :
    (∃ (s : State) (sw : Fin 2) (ring : Fin 16) (w : Writer) (value : W32),
      let n  := sw.val
      let i  := ring.val
      let net  := netPage n
      let off  := 0x30C + 0x10 * i
      let size  := s.ringSize n i
      let d  := s.descAt n i (s.ringHead n i)
      let ctl  := s.descField d 0x0A 1
      s.admits w net off = true ∧ i < 8 ∧ s.ethOn n = true ∧ s.ringOn n i = true ∧ size ≤ 4096 ∧ s.ringHead n i ≠ value.toNat % 4096 % size ∧ (s.ringHead n i + 1) % size = value.toNat % 4096 % size ∧ 128 ≤ ctl ∧ s.descField d 0x08 2 ≤ 1522 ∧ s.pair.verdict = false ∧ s.silent = false ∧ ctl.testBit 6 = false) ∧
    (∃ (s : State) (sw : Fin 2) (ring : Fin 16) (w : Writer) (value : W32),
      let n  := sw.val
      let i  := ring.val
      let net  := netPage n
      let off  := 0x30C + 0x10 * i
      let size  := s.ringSize n i
      let d  := s.descAt n i (s.ringHead n i)
      let ctl  := s.descField d 0x0A 1
      s.admits w net off = true ∧ i < 8 ∧ s.ethOn n = true ∧ s.ringOn n i = true ∧ size ≤ 4096 ∧ s.ringHead n i ≠ value.toNat % 4096 % size ∧ (s.ringHead n i + 1) % size = value.toNat % 4096 % size ∧ 128 ≤ ctl ∧ s.descField d 0x08 2 ≤ 1522 ∧ s.pair.verdict = false ∧ s.silent = true) ∧
    (∃ (s : State) (sw : Fin 2) (ring : Fin 16) (w : Writer) (value : W32),
      let n  := sw.val
      let i  := ring.val
      let net  := netPage n
      let off  := 0x30C + 0x10 * i
      let size  := s.ringSize n i
      let d  := s.descAt n i (s.ringHead n i)
      let ctl  := s.descField d 0x0A 1
      s.admits w net off = true ∧ i < 8 ∧ s.ethOn n = true ∧ s.ringOn n i = true ∧ s.ringHead n i ≠ value.toNat % 4096 % size ∧ ctl < 128) ∧
    (∃ (s : State) (sw : Fin 2) (tx : Fin 8) (e : TakenDesc),
      let n  := sw.val
      let x  := s.eth n
      s.pair.verdict = false ∧ s.mayFinish n = true ∧ x.taken.find? (fun y => y.ring == tx.val) = some e ∧ s.silent = true) ∧
    (∃ (s : State) (sw : Fin 2) (tx : Fin 8) (e : TakenDesc),
      let n  := sw.val
      let x  := s.eth n
      let ok  := s.hostVlanOk n ((List.range 18).map fun j => s.pmByte (s.descField e.place 0 8 - pmBase + j))
      s.pair.verdict = false ∧ s.mayFinish n = true ∧ x.taken.find? (fun y => y.ring == tx.val) = some e ∧ s.silent = false ∧ ok = true) ∧
    (∃ (s : State) (sw : Fin 2) (tx : Fin 8) (e : TakenDesc),
      let n  := sw.val
      let x  := s.eth n
      let ok  := s.hostVlanOk n ((List.range 18).map fun j => s.pmByte (s.descField e.place 0 8 - pmBase + j))
      s.pair.verdict = false ∧ s.mayFinish n = true ∧ x.taken.find? (fun y => y.ring == tx.val) = some e ∧ s.silent = false ∧ ok = false) :=
  ⟨⟨txr n1 15 15 60 0x80, 0, 3, { master := .core 0, tag := 0 }, 0, by decide +kernel⟩,
   ⟨txr sil 15 15 60 0x80, 0, 3, { master := .core 0, tag := 0 }, 0, by decide +kernel⟩,
   ⟨txr n1 15 15 60 0x10, 0, 3, { master := .core 0, tag := 0 }, 0, by decide +kernel⟩,
   ⟨tks sil 0x80, 0, 3, { ring := 3, place := 0x2000 + 32 * 15, len := 74 }, by decide +kernel⟩,
   ⟨tk n1 0x80, 0, 3, { ring := 3, place := 0x2000 + 32 * 15, len := 74 }, by decide +kernel⟩,
   ⟨tk ((net0.setReg (netKey 0 0x180) 0).setReg (netKey 0 0x184) 0) 0xA0, 0, 3, { ring := 3, place := 0x2000 + 32 * 15, len := 74 }, by decide +kernel⟩⟩

end S30

namespace S31

def b0 := (domsOn ready0)
def hold := en ((role b0 2 3).setPhase 5) 0xF0
def ss (s : State) (l : List (Nat × Option (BitVec 5))) : State := { s with sec := { s.sec with sessions := l } }
def full4 := ss hold [(0, some 31), (1, some 1), (2, some 4), (3, some 8)]

theorem witness_SessionsActWithinTheirRights :
    (∃ (s : State) (cert : SessionCert) (n : Nat) (r : BitVec 5),
      s.reachable = true ∧ s.freeSession = some n ∧ s.sessionRights cert = some r) ∧
    (∃ (s : State) (cert : SessionCert),
      s.reachable = true ∧ (s.freeSession = none ∨ s.sessionRights cert = none)) ∧
    (∃ (s : State) (session : Fin 4),
      let mine  := fun (t : State) => sget (dflt none) t.sec.sessions session.val
      (mine s).isSome = true) ∧
    (∃ (s : State) (session : Fin 4),
      let mine  := fun (t : State) => sget (dflt none) t.sec.sessions session.val
      mine s = none) ∧
    (∃ (s : State) (session : Fin 4) (r : BitVec 5) (req : SessionReq) (bit : Nat),
      let mine  := fun (t : State) => sget (dflt none) t.sec.sessions session.val
      mine s = some r ∧ sessionRight req = some bit ∧ r.getLsbD bit = false) ∧
    (∃ (s : State) (session : Fin 4) (r : BitVec 5) (req : SessionReq),
      let mine  := fun (t : State) => sget (dflt none) t.sec.sessions session.val
      mine s = some r ∧ s.holder = false ∧ s.withoutClaim req = false) ∧
    (∃ (s : State) (session : Fin 4) (r : BitVec 5),
      let mine  := fun (t : State) => sget (dflt none) t.sec.sessions session.val
      mine s = some r ∧ s.reachable = true ∧ s.holder = true ∧ r.getLsbD 0 = true) ∧
    (∃ (s : State) (session : Fin 4) (r : BitVec 5) (k : Fin 512) (a : BitVec 8) (v : TWord),
      let mine  := fun (t : State) => sget (dflt none) t.sec.sessions session.val
      mine s = some r ∧ s.reachable = true ∧ s.holder = true ∧ r.getLsbD 1 = true ∧ s.domState 6 = 2 ∧ s.wordCheck k.val a.toNat v = 0) ∧
    (∃ (s : State) (session : Fin 4) (r : BitVec 5) (t : Fin 32),
      let mine  := fun (t : State) => sget (dflt none) t.sec.sessions session.val
      mine s = some r ∧ s.reachable = true ∧ s.holder = true ∧ r.getLsbD 2 = true) ∧
    (∃ (s : State) (session : Fin 4) (r : BitVec 5),
      let mine  := fun (t : State) => sget (dflt none) t.sec.sessions session.val
      mine s = some r ∧ s.reachable = true ∧ s.holder = true ∧ r.getLsbD 4 = true) :=
  ⟨⟨hold, ⟨true, none⟩, 0, 17, by decide +kernel⟩,
   ⟨full4, ⟨true, none⟩, by decide +kernel⟩,
   ⟨ss hold [(0, some 31), (2, some 1)], 0, by decide +kernel⟩,
   ⟨b0, 0, by decide +kernel⟩,
   ⟨ss hold [(0, some 31), (2, some 1)], 2, 1, .loopWord 3 0x60 {}, 1, by decide +kernel⟩,
   ⟨role full4 3 2, 0, 31, .loopWord 3 0x60 {}, by decide +kernel⟩,
   ⟨ss hold [(0, some 31), (2, some 1)], 0, 31, by decide +kernel⟩,
   ⟨ss hold [(0, some 31), (2, some 1)], 0, 31, 0, 0x60, {}, by decide +kernel⟩,
   ⟨ss hold [(0, some 31), (2, some 1)], 0, 31, 3, by decide +kernel⟩,
   ⟨ss hold [(0, some 31), (2, some 1)], 0, 31, by decide +kernel⟩⟩

end S31

namespace S32

def b0 := (domsOn ready0)
def dl (s : State) (n : Nat) : State := s.setReg Reg.DBG_DLEVEL (BitVec.ofNat 32 n)
def tst (s : State) (f : TestState → TestState) : State := { s with test := f s.test }
def pd (s : State) : State := { s with rst := { s.rst with production := true } }
def bz (s : State) : State := tst s fun t => { t with fuseBusy := some 5, fuseValue := true, fuseResult := 3, boundary := 77, drive := .clamp, dap := { resp := .errSize, data := 5 } }
def pm (s : State) : State := s.setPm 0x100 8 0x1122334455667788

theorem witness_TestAccessPortActsAtItsLevel :
    (∃ (s : State),
      let full  := s.debugLevel = 3
      s.tapPowered = true ∧ ¬ full) ∧
    (∃ (s : State) (op : BitVec 2),
      s.tapPowered = true ∧ s.sysRuns = true ∧ s.debugLevel = 0 ∧ (op = 1 ∨ op = 2)) ∧
    (∃ (s : State) (addr : W64) (o : Nat),
      s.tapPowered = true ∧ s.sysRuns = true ∧ addr.toNat = 0x200000000 + o ∧ o < 0x40000000 ∧ o % 4 = 0 ∧ 1 ≤ s.debugLevel ∧ sget (dflt 0) s.mem.pmErr (o / 8) = 0) ∧
    (∃ (s : State) (addr : W64) (o : Nat),
      s.tapPowered = true ∧ s.sysRuns = true ∧ addr.toNat = 0x200000000 + o ∧ o < 0x40000000 ∧ o % 4 = 0 ∧ s.debugLevel = 1) ∧
    (∃ (s : State) (addr : W64) (o : Nat),
      s.tapPowered = true ∧ s.sysRuns = true ∧ addr.toNat = 0x200000000 + o ∧ o < 0x40000000 ∧ o % 4 = 0 ∧ 2 ≤ s.debugLevel) ∧
    (∃ (s : State) (f : BitVec 14),
      let full  := s.debugLevel = 3
      s.tapPowered = true ∧ full ∧ s.rst.production = true ∧ s.test.fuseBusy = none ∧ s.fuseLocked f.toNat = false ∧ s.fuseBlown f.toNat = false) ∧
    (∃ (s : State) (f : Nat),
      s.tapPowered = true ∧ s.test.fuseBusy = some f) :=
  ⟨⟨dl b0 0, by decide +kernel⟩,
   ⟨dl b0 0, 1, by decide +kernel⟩,
   ⟨pm (dl b0 1), 0x200000100, 0x100, by decide +kernel⟩,
   ⟨pm (dl b0 1), 0x200000100, 0x100, by decide +kernel⟩,
   ⟨pm (bz (dl b0 2)), 0x200000100, 0x100, by decide +kernel⟩,
   ⟨pd (dl b0 3), 0, by decide +kernel⟩,
   ⟨pm (bz (dl b0 2)), 5, by decide +kernel⟩⟩

end S32

end Sys2Proof.Tests
end

/-! ## The tag of a result (R172)

A result's tag is read bit by bit: Q and CAUSE (bits 7 to 3) are those of the worst operand, F and S (bits 2 and 1) the OR over the
operands, L (bit 0) the instruction's own. -/

namespace Sys2Proof.Machine

/-! ### The operand that gives Q and CAUSE -/

/-- The tag that stands after `t` follows `b` in operand order: a later operand takes over only with a worse Q (rule 2 of R172). -/
def worseTag (b t : Tag) : Tag := if tagQ b < tagQ t then t else b

/-- The operand that `mergeTags` takes Q and CAUSE from. -/
def worstTag (ops : List Tag) : Tag := ops.foldl worseTag (ops.headD 0)

/-- F and S over the operands (rule 3 of R172). -/
def flagsOf (ops : List Tag) : Tag := ops.foldl (fun b t => b ||| tagFS t) 0

theorem mergeTags_eq (ops : List Tag) : mergeTags ops = (worstTag ops &&& 0xF8) ||| flagsOf ops := rfl

theorem resultTag_eq (ops : List Tag) (l : Bool) :
    resultTag ops l = (((worstTag ops &&& 0xF8) ||| flagsOf ops) &&& 0xFE) ||| (if l then 1 else 0) := rfl

theorem worseTag_of_le {b t : Tag} (h : tagQ t ≤ tagQ b) : worseTag b t = b := if_neg (Nat.not_lt.2 h)

theorem worseTag_of_lt {b t : Tag} (h : tagQ b < tagQ t) : worseTag b t = t := if_pos h

theorem tagQ_worseTag (b t : Tag) : tagQ (worseTag b t) = max (tagQ b) (tagQ t) := by
  rcases Nat.lt_or_ge (tagQ b) (tagQ t) with h | h
  · rw [worseTag_of_lt h, Nat.max_eq_right (Nat.le_of_lt h)]
  · rw [worseTag_of_le h, Nat.max_eq_left h]

theorem foldl_worseTag_of_le {b : Tag} {ops : List Tag} (h : ∀ x ∈ ops, tagQ x ≤ tagQ b) : ops.foldl worseTag b = b := by
  induction ops with
  | nil => rfl
  | cons x xs ih =>
    obtain ⟨hx, hxs⟩ := List.forall_mem_cons.1 h
    rw [List.foldl_cons, worseTag_of_le hx, ih hxs]

theorem tagQ_foldl_worseTag_lt {b : Tag} {ops : List Tag} {q : Nat} (hb : tagQ b < q) (h : ∀ x ∈ ops, tagQ x < q) :
    tagQ (ops.foldl worseTag b) < q := by
  induction ops generalizing b with
  | nil => exact hb
  | cons x xs ih =>
    obtain ⟨hx, hxs⟩ := List.forall_mem_cons.1 h
    exact ih (by rw [tagQ_worseTag]; exact Nat.max_lt.2 ⟨hb, hx⟩) hxs

/-- Operands before `w` with a better Q give way to it, and operands after it with no worse Q do not replace it. -/
theorem worstTag_append_cons {before after : List Tag} {w : Tag} (hb : ∀ x ∈ before, tagQ x < tagQ w)
    (ha : ∀ x ∈ after, tagQ x ≤ tagQ w) : worstTag (before ++ w :: after) = w := by
  have reaches : worseTag (before.foldl worseTag ((before ++ w :: after).headD 0)) w = w := by
    cases before with
    | nil => exact worseTag_of_le (Nat.le_refl _)
    | cons x xs => exact worseTag_of_lt (tagQ_foldl_worseTag_lt (hb x List.mem_cons_self) hb)
  rw [worstTag, List.foldl_append, List.foldl_cons, reaches, foldl_worseTag_of_le ha]

/-! ### The bits of a result's tag -/

/-- F and S are kept of an operand's tag, and nothing else. -/
theorem getLsbD_tagFS (t : Tag) (i : Nat) : (tagFS t).getLsbD i = (t.getLsbD i && (6 : Tag).getLsbD i) := BitVec.getLsbD_and

theorem getLsbD_foldl_tagFS (ops : List Tag) (b : Tag) (i : Nat) :
    (ops.foldl (fun b t => b ||| tagFS t) b).getLsbD i = (b.getLsbD i || ops.any fun t => (tagFS t).getLsbD i) := by
  induction ops generalizing b with
  | nil => exact (Bool.or_false _).symm
  | cons x xs ih => rw [List.foldl_cons, ih, BitVec.getLsbD_or, List.any_cons, Bool.or_assoc]

theorem getLsbD_flagsOf (ops : List Tag) (i : Nat) :
    (flagsOf ops).getLsbD i = (ops.any (fun t => t.getLsbD i) && (6 : Tag).getLsbD i) := by
  have h0 : (0 : Tag).getLsbD i = false := BitVec.getLsbD_zero
  rw [flagsOf, getLsbD_foldl_tagFS, h0, Bool.false_or]
  simp only [getLsbD_tagFS]
  cases (6 : Tag).getLsbD i
  · simp only [Bool.and_false, List.any_eq_false, Bool.false_eq_true, not_false_eq_true, implies_true]
  · simp only [Bool.and_true]

/-- Which bits the masks of `mergeTags`, `tagFS` and `resultTag` let through. -/
theorem getLsbD_tagMasks {i : Nat} (h : i < 8) :
    (0xF8 : Tag).getLsbD i = decide (3 ≤ i) ∧ (6 : Tag).getLsbD i = decide (i = 1 ∨ i = 2) ∧
      (0xFE : Tag).getLsbD i = decide (i ≠ 0) ∧ (1 : Tag).getLsbD i = decide (i = 0) := by
  revert i
  decide

/-- The masks of `resultTag` give each bit of a result one source: the worst operand from bit 3 up, all operands at bits 2 and 1, the
instruction at bit 0. -/
theorem getLsbD_resultTag (ops : List Tag) (l : Bool) (i : Nat) :
    (resultTag ops l).getLsbD i =
      if 3 ≤ i then (worstTag ops).getLsbD i else if i = 0 then l else ops.any fun t => t.getLsbD i := by
  rcases Nat.lt_or_ge i 8 with hi | hi
  · obtain ⟨hF8, h06, hFE, h01⟩ := getLsbD_tagMasks hi
    have hL : (if l then 1 else 0 : Tag).getLsbD i = (l && decide (i = 0)) := by
      cases l
      · exact BitVec.getLsbD_zero
      · exact h01
    rw [resultTag_eq, BitVec.getLsbD_or, BitVec.getLsbD_and, BitVec.getLsbD_or, BitVec.getLsbD_and, getLsbD_flagsOf, hF8, h06, hFE, hL]
    by_cases hw : 3 ≤ i
    · have h0 : i ≠ 0 := by omega
      have h12 : ¬ (i = 1 ∨ i = 2) := by omega
      simp only [hw, h0, h12, ne_eq, decide_true, decide_false, not_false_eq_true, if_true, Bool.and_true, Bool.and_false, Bool.or_false]
    · by_cases h0 : i = 0
      · simp only [hw, eq_true h0, ne_eq, not_true_eq_false, decide_true, decide_false, if_true, if_false, Bool.and_true, Bool.and_false,
          Bool.false_or]
      · have h12 : i = 1 ∨ i = 2 := by omega
        simp only [hw, h0, h12, ne_eq, not_false_eq_true, decide_true, decide_false, if_false, Bool.and_true, Bool.and_false,
          Bool.false_or, Bool.or_false]
  · rw [BitVec.getLsbD_of_ge _ _ hi, BitVec.getLsbD_of_ge _ _ hi, if_pos (by omega)]

/-- A field of the result's tag at bit 3 or above is the worst operand's. -/
theorem extractLsb'_resultTag (ops : List Tag) (l : Bool) {n : Nat} (len : Nat) (hn : 3 ≤ n) :
    (resultTag ops l).extractLsb' n len = (worstTag ops).extractLsb' n len := by
  ext i hi
  simp only [BitVec.getElem_extractLsb', getLsbD_resultTag, if_pos (show 3 ≤ n + i by omega)]

/-- Q is the field of bits 7 and 6. -/
theorem tagQ_eq_extractLsb' (t : Tag) : tagQ t = (t.extractLsb' 6 2).toNat := by
  have := t.isLt
  simp only [tagQ, BitVec.extractLsb'_toNat, Nat.shiftRight_eq_div_pow]
  omega

theorem tagQ_resultTag (ops : List Tag) (l : Bool) : tagQ (resultTag ops l) = tagQ (worstTag ops) := by
  rw [tagQ_eq_extractLsb', extractLsb'_resultTag ops l 2 (by decide), ← tagQ_eq_extractLsb']

/-! ### Operands with tag 0x00 -/

theorem worstTag_concat_zero {ops : List Tag} (h : ops ≠ []) : worstTag (ops ++ [0]) = worstTag ops := by
  obtain ⟨x, xs, rfl⟩ := List.exists_cons_of_ne_nil h
  change ((x :: xs) ++ [0]).foldl worseTag x = (x :: xs).foldl worseTag x
  rw [List.foldl_append]
  exact worseTag_of_le (t := 0) (Nat.zero_le _)

theorem flagsOf_concat_zero (ops : List Tag) : flagsOf (ops ++ [0]) = flagsOf ops := by
  rw [flagsOf, List.foldl_append]
  exact BitVec.or_zero

/-- An immediate, which stands last with tag 0x00, does not change the tag of a result with a register operand. -/
theorem resultTag_concat_zero {ops : List Tag} (h : ops ≠ []) (l : Bool) : resultTag (ops ++ [0]) l = resultTag ops l := by
  rw [resultTag_eq, resultTag_eq, worstTag_concat_zero h, flagsOf_concat_zero]

theorem resultTag_zero (l : Bool) : resultTag [0] l = if l then 1 else 0 := by cases l <;> rfl

/-- G0 reads 0 with tag 0x00 (R169). -/
theorem State.greg_zero (s : State) (c : Nat) : s.greg c 0 = {} := if_pos rfl

/-! ### The obligation -/

/-- Settles O3: the first operand with the worst Q is the one the fold over the operands ends with, and each bit of the result is read
from it, from all operands or from the instruction. -/
theorem resultTagsFollowTheOperands : Obligations.ResultTagsFollowTheOperands := by
  unfold Obligations.ResultTagsFollowTheOperands
  refine ⟨fun ops l hne => ⟨?worst, ?f, ?s, ?l, resultTag_concat_zero hne l⟩, resultTag_zero, ?g0⟩
  case worst =>
    rintro before after w rfl hb ha
    rw [tagQ_resultTag, extractLsb'_resultTag _ l 3 (Nat.le_refl 3), worstTag_append_cons hb ha]
    exact ⟨rfl, rfl⟩
  case f => exact getLsbD_resultTag ops l 2
  case s => exact getLsbD_resultTag ops l 1
  case l => exact getLsbD_resultTag ops l 0
  case g0 => intro s c; rw [State.greg_zero]

end Sys2Proof.Machine

/-! ## The return from an exception (R177, R212)

ERET changes one register, the core's status, and of its core the PC and the address that R246 put in place of EPC. -/

namespace Sys2Proof.Machine

/-! ### The status that ERET leaves -/

section

variable (s : State) (c : Nat) (keep : Bool)

/-- LEVEL takes PLEV. -/
theorem State.levelP_leaveExc : (s.leaveExc c keep).levelP c = s.flag (coreKey c 0x100) 5 := by
  simp only [State.leaveExc, State.levelP]
  rw [State.flag_setFlag_other _ _ _ _ _ (by decide), State.flag_setFlag_other _ _ _ _ _ (by decide), State.flag_setFlag _ _ _ _ (by decide)]

theorem State.excActive_leaveExc : (s.leaveExc c keep).excActive c = false := by
  simp only [State.leaveExc, State.excActive]
  rw [State.flag_setFlag_other _ _ _ _ _ (by decide), State.flag_setFlag _ _ _ _ (by decide)]

theorem State.intsOn_leaveExc : (s.leaveExc c keep).intsOn c = !keep := State.flag_setFlag _ _ _ _ (by decide)

theorem State.reg_leaveExc_ne {x : Nat} (h : x ≠ coreKey c 0x100) : (s.leaveExc c keep).reg x = s.reg x := by
  simp only [State.leaveExc]
  rw [State.reg_setFlag_ne _ _ _ h, State.reg_setFlag_ne _ _ _ h, State.reg_setFlag_ne _ _ _ h]

@[simp] theorem State.core_leaveExc (d : Nat) : (s.leaveExc c keep).core d = s.core d := rfl

end

/-! ### ERET of a ready core at level P -/

/-- The address that ERET goes to: EPC, or the one that the end of a cut cycle put in its place (R246, log entry 23). -/
def State.eretTarget (s : State) (c : Nat) : W64 := (s.core c).nextPc.getD (s.reg64 (coreKey c 0x114))

/-- The address that R246 put in place of EPC is used up. -/
def State.takeNextPc (s : State) (c : Nat) : State := s.setCore c { s.core c with nextPc := none }

/-- The state after ERET at level P. -/
theorem execEret_of_levelP {s : State} {c : CoreId} (keep : Bool) (h : s.ready c = true) (hl : s.levelP c.val = true) :
    execEret c keep s = .next (((s.takeNextPc c.val).leaveExc c.val keep).goTo c (s.eretTarget c.val)) := by
  have hc : ((s.takeNextPc c.val).leaveExc c.val keep).core c.val = { s.core c.val with nextPc := none } := by
    rw [State.core_leaveExc, State.takeNextPc, State.core_setCore_same]
  unfold execEret
  refine State.instr_ready_ok [] _ _ _ h (by rw [hl]; rfl) ?_ ?_ ?_ rfl <;> rw [hc]

/-- What a core's general registers read where its bank of registers is the same. -/
theorem State.greg_of_core_g {s t : State} {c : Nat} (h : (t.core c).g = (s.core c).g) (r : Nat) : t.greg c r = s.greg c r := by
  rw [State.greg, State.greg, h]

/-! ### The obligation -/

/-- Settles O15: the state after ERET is the old one with the status of R212, and the core goes on at the target. -/
theorem eretReturns : Obligations.EretReturns := by
  unfold Obligations.EretReturns
  intro s c keep h hl
  refine ⟨_, execEret_of_levelP keep h hl, ?pc, ?level, ?exc, ?ie, ?gregs, ?memory, ?regs⟩
  case pc => simp only [State.goTo, State.core_setCore_same, State.eretTarget]
  case level => exact State.levelP_leaveExc (s.takeNextPc c.val) c.val keep
  case exc => exact State.excActive_leaveExc (s.takeNextPc c.val) c.val keep
  case ie => exact State.intsOn_leaveExc (s.takeNextPc c.val) c.val keep
  case gregs =>
    refine State.greg_of_core_g ?_
    simp only [State.goTo, State.takeNextPc, State.core_leaveExc, State.core_setCore_same]
  case memory => exact KeepsMemory.of_mem rfl
  case regs => exact fun x hx => State.reg_leaveExc_ne (s.takeNextPc c.val) c.val keep hx

end Sys2Proof.Machine
